-- ==== Sys2Proof/Word.lean ====
section
/-!
DEFINITION. The word types of the ML8: bytes, the sizes of the manual's layout tables (R4), and the two register-width types of
an Easel (R150). Everything that computes with them stands under Sys2Proof/Machine/.
-/
namespace Sys2Proof

/-- One byte (u8 of R4). -/
abbrev Byte := BitVec 8
/-- u16 of R4. -/
abbrev U16 := BitVec 16
/-- u32 of R4. -/
abbrev U32 := BitVec 32
/-- u64 of R4; a host register (R495) and a scalar register (R150). -/
abbrev U64 := BitVec 64
/-- A 5-bit register field A, B or C of an instruction (R157). -/
abbrev RegF := BitVec 5
/-- The 64 lanes of a vector register (R150), lane 0 first. -/
abbrev Lanes := List (BitVec 32)

end Sys2Proof
end

