-- ==== Sys2Proof/Syntax.lean ====
section
/-!
DEFINITION. The commands the ML8 takes: one constructor of `Instr` for each row of the opcode table, with the row's operands. What
the outside world shows the part at a command (a frame on the wire, the bytes of a read completion, a sensor reading, what a coded
picture holds) is an operand of that command. The operands of a Caruk instruction are the logical Easel that issues it and the
fields of its encoding (R157, R158, R204, R246), reserved fields included.
-/
namespace Sys2Proof

/-- Why a read of host memory fails (R410). -/
inductive ReadFail where
  | unsupportedRequest | completerAbort | poisoned
  deriving DecidableEq, Repr

/-- The completion of a read that the ML8 issued to host memory: its data, or a failure (R410). -/
inductive HostRead where
  | data (bytes : List Byte)
  | failed (why : ReadFail)
  deriving DecidableEq, Repr

/-- The commit groups of R439 and R499, and the group of each queue (R417). -/
inductive Group where
  | ingPort (n : Fin 2)
  | ingSp
  | tbSrc
  | tbPhase
  | glbBar4
  | pwr
  | queue (n : Fin 64)
  deriving DecidableEq, Repr

/-- What a start step meets (R441): the failure code of its normal attempt and of its alternative (0: passes), what the
code concerns, and the time the step takes. For ST05, `alt` counts the discarded readouts; for ST08 it is the code of the repeat. What ST03 (but a silent flash), ST04 and ST19 come to follows from
the flash and from the other fields of a start. -/
structure StepObs where
  step       : Nat
  normal     : Byte
  alt        : Byte
  detail     : U16
  durationUs : U32
  deriving DecidableEq, Repr

/-- What the security block finds of the signatures over a firmware image (R460, R464): the root key of the image has the digest that the boot
ROM holds and signs the FIRMWARE key certificate; the FIRMWARE key signs the manifest. -/
structure FwSigs where
  chain    : Bool
  manifest : Bool
  deriving DecidableEq, Repr

/-- The topology of an accepted device certificate (R467). -/
structure Topology where
  dieSet : Byte
  /-- bit k: link Lk may run at half width -/
  halfOk : BitVec 19
  easels : List Nat
  deriving DecidableEq, Repr

/-- What a start of the part finds: straps, firmware, links, memory, Easels and their measured maxima (R441 to R451, R465, R483). -/
structure BootObs where
  straps     : BitVec 2
  /-- outcomes the boot code meets, for the steps that do not simply pass -/
  steps      : List StepObs
  /-- digest of the boot ROM (R473) -/
  romDigest  : List Byte
  /-- signatures of the image in flash (R464) -/
  fwSigs     : FwSigs
  /-- PUF response, corrected (R465) -/
  puf        : List Byte
  /-- the root key signs the DEVICE_CA certificate in flash, and that key the device certificate (R468) -/
  certSigs   : Bool
  /-- bit i: the signature of the object in licence slot i, and that of the LICENCE key certificate in flash, verify (R461, R470) -/
  licValid   : BitVec 16
  /-- (link, good lanes in each direction) at ST09 for links with fewer than 68 good lanes, by the method that trains them (R448) -/
  lanes      : List (Nat × Nat × Nat)
  /-- groups that train at 16 Gb/s -/
  rate16     : U16
  /-- groups that a warm start trains from the beginning (R389) -/
  retrained  : U16
  /-- dies that answer at ST10, bits as die_set (R467) -/
  dies       : Byte
  /-- bit p: physical Easel p passes its self-test at ST14 (R11) -/
  selfTest   : BitVec 216
  /-- measured maxima of ST15: (8 p + point, units of 25 MHz), ascending -/
  maxima     : List (Nat × Byte)
  /-- optional regulators that do not answer (R483) -/
  railMissing : Bool
  /-- die temperatures at ST09, HUB, MED, CD0 to CD5 (R493) -/
  temps      : List Int
  totalMs    : U32
  /-- speed and width codes of the PCI Express link when it comes up at ST02; none: it comes up later (R416) -/
  link       : Option (BitVec 4 × BitVec 4) := none
  deriving DecidableEq, Repr

/-- A PTP port identity: clock identity and port number. -/
structure PtpPort where
  clock : U64
  port  : U16
  deriving DecidableEq, Repr

/-- What an Announce message says of its grandmaster: the data set that the default best master clock algorithm compares (R41). -/
structure PtpData where
  priority1 : Byte
  klass     : Byte
  accuracy  : Byte
  variance  : U16
  priority2 : Byte
  identity  : U64
  steps     : U16
  deriving DecidableEq, Repr

/-- The transports of R41, numbered as TB_PTP_CFG.TRANSPORT (R502). -/
inductive PtpTransport where
  | layer2 | udp4 | udp6
  deriving DecidableEq, Repr

/-- The body of a PTP message; timestamps in ns of the PTP timescale, their correction fields added. -/
inductive PtpBody where
  | announce (data : PtpData)
  /-- a Sync message: its own timestamp, or a Follow_Up will carry it -/
  | sync (twoStep : Bool) (origin : Int)
  | followUp (precise : Int)
  /-- the answer to a Delay_Req of this port -/
  | delayResp (receive : Int)
  /-- a message that an ordinary slave clock takes no notice of -/
  | other
  deriving DecidableEq, Repr

/-- A PTP message (R41). `ferr`: the timebase's frequency error estimate, 0.001 ppm, with this message in it (R45). -/
structure PtpMsg where
  transport : PtpTransport
  domain    : Nat
  source    : PtpPort
  seq       : U16
  /-- logMessageInterval -/
  logInterval : Int
  body      : PtpBody
  ferr      : Int
  deriving DecidableEq, Repr

/-- A UDP datagram (R71, R75). Addresses hold IPv4 in the first 4 bytes, byte 0 lowest (R74). -/
structure Udp where
  family     : Nat
  dst        : BitVec 128
  src        : BitVec 128
  port       : U16
  /-- the UDP checksum is right, and over IPv6 it is not zero -/
  sumOk      : Bool
  payload    : List Byte
  deriving DecidableEq, Repr

/-- A membership query of IGMP or MLD (R70): its version (IGMP 1 to 3, MLD 1 or 2), its group (0: a general query) and its sources. -/
structure GroupQuery where
  v6      : Bool
  version : Nat
  group   : BitVec 128
  sources : List (BitVec 128)
  deriving DecidableEq, Repr

/-- What an Ethernet frame carries, by the protocols of R69 and R71. -/
inductive NetBody where
  | arpRequest (target : U32)
  | arpOther
  | neighborSolicitation (target : BitVec 128)
  | ndOther
  | echo4 (dst : U32) (payload : Nat)
  | echo6 (dst : BitVec 128) (payload : Nat)
  | groupQuery (q : GroupQuery)
  | ptp (m : PtpMsg)
  | udp (d : Udp)
  /-- an IPv4 fragment or option, an IPv6 fragment header or any other IPv6 extension header -/
  | fragment
  | other
  deriving DecidableEq, Repr

/-- An Ethernet frame as a MAC receives it (R68). -/
structure Frame where
  dst     : BitVec 48
  src     : BitVec 48
  vlan    : Nat
  /-- bytes of the whole frame, header and FCS included -/
  length  : Nat
  fcsOk   : Bool
  /-- the IPv4 header checksum is right, where the frame carries IPv4 -/
  ipSumOk : Bool
  body    : NetBody
  /-- the frame without its FCS -/
  raw     : List Byte
  deriving DecidableEq, Repr

/-- Coding profiles of R101; `excluded` is any other (R102). -/
inductive CodingProfile where
  | constrainedBaseline | main | high | hevcMain | hevcMain10 | excluded
  deriving DecidableEq, Repr

/-- Chroma sampling of a coded picture (R101). -/
inductive Chroma where
  | c420 | c422 | c444 | c400
  deriving DecidableEq, Repr

/-- A sequence parameter set as the decoder reads it from the stream (R101, R102, R111). -/
structure ParamSet where
  id        : Nat
  profile   : CodingProfile
  /-- level in tenths -/
  level     : Nat
  /-- frame_mbs_only_flag; true for H.265 -/
  framesOnly : Bool
  /-- the set needs a scalable, multiview, 3D, range or screen-content extension -/
  extended  : Bool
  width     : Nat
  height    : Nat
  /-- conformance or cropping window -/
  winX      : Nat
  winY      : Nat
  winW      : Nat
  winH      : Nat
  chroma    : Chroma
  depth     : Nat
  /-- max_num_ref_frames -/
  refFrames : Nat
  /-- max_dec_frame_buffering when present; for H.265 sps_max_dec_pic_buffering_minus1 + 1 of the highest sub-layer -/
  dpbSize   : Option Nat
  /-- max_num_reorder_frames, when signalled -/
  reorder   : Option Nat
  /-- SpsMaxLatencyPictures, when signalled -/
  latency   : Option Nat
  /-- MaxFrameNum of H.264 -/
  maxFrameNum : Nat
  bytes     : Nat
  deriving DecidableEq, Repr

/-- A picture parameter set. -/
structure PicSet where
  id    : Nat
  sps   : Nat
  bytes : Nat
  deriving DecidableEq, Repr

/-- A parameter-set NAL unit of an access unit. -/
inductive SetNal where
  | seq (p : ParamSet)
  | pic (p : PicSet)
  | video (id bytes : Nat)
  deriving DecidableEq, Repr

/-- Picture types (R118, R120). -/
inductive PicType where
  | idr | i | p | b | cra | bla | rasl | jpeg
  deriving DecidableEq, Repr

/-- Motion and quantisation of one 4 x 4 luma unit (R121). -/
structure UnitStat where
  l0 : Option (Int × Int)
  l1 : Option (Int × Int)
  qp : Nat
  deriving DecidableEq, Repr

/-- What the coded bits say of a 16 x 16 block (R121): its 4 x 4 units in raster order, skip mode and intra. -/
structure BlockStat where
  units : List UnitStat
  skip  : Bool
  intra : Bool
  deriving DecidableEq, Repr

/-- A slice as it arrives, or the part of a JPEG scan between two restart markers (R110). -/
structure SliceDesc where
  /-- picture parameter set that the header names -/
  pps       : Nat
  headerOk  : Bool
  /-- first block, as a position in decoding order -/
  first     : Nat
  /-- work units of the header and of each block begun (R113) -/
  headerUnits : Nat
  units     : List Nat
  /-- blocks reconstructed before the data ends or an error stands -/
  good      : Nat
  syntaxError : Bool
  deriving DecidableEq, Repr

/-- JPEG processes (R101, R102). -/
inductive JpegMode where
  | baseline | extended | progressive | arithmetic | lossless | hierarchical
  deriving DecidableEq, Repr

/-- SOF and scan of a JPEG picture (R101, R111). -/
structure JpegHdr where
  mode      : JpegMode
  precision : Nat
  width     : Nat
  height    : Nat
  chroma    : Chroma
  scanBits  : Nat
  deriving DecidableEq, Repr

/-- What the bits of one access unit hold, as the codec standards read them (R101 to R121): the standards are outside the manual,
so their result is the operand of the decoding commands. The samples are those that the standard's reconstruction gives for the blocks that
are not concealed, with the in-loop filters applied across no edge of a concealed block (R109). -/
structure PicDesc where
  type      : PicType
  ref       : Bool
  poc       : Int
  frameNum  : Nat
  /-- picture order counts of the references the picture names -/
  refs      : List Int
  /-- picture order counts that the standard's marking keeps as references after this picture -/
  keep      : List Int
  /-- the sets the access unit carries, sets that the ingress engine inserted included, in order -/
  sets      : List SetNal
  /-- a slice header needs what R102 excludes -/
  excluded  : Bool
  jpeg      : JpegHdr
  vclBytes  : Nat
  /-- 16 x 16 blocks in decoding order; empty for raster order -/
  order     : List Nat
  slices    : List SliceDesc
  /-- recovery point: recovery_frame_cnt of H.264, recovery_poc_cnt of H.265 -/
  recovery  : Option Int
  luma      : List U16
  cb        : List U16
  cr        : List U16
  blocks    : List BlockStat
  /-- transform units: bits or bins of residual syntax, and the blocks they span -/
  residual  : List (Nat × List Nat)
  deriving DecidableEq, Repr

/-- The arrays of R374 with the codes of R380. -/
inductive EccArray where
  | localStore (easel : Nat)
  | instStore (easel : Nat)
  | regFile (easel : Nat)
  | gallery
  | medSram
  | hubSram
  | gddr6
  deriving DecidableEq, Repr

/-- The switched engine kinds of R477 that ENGINE_DOMAIN_GATE switches off. -/
inductive EngineKind where
  | vde | jd | fu | ms
  deriving DecidableEq, Repr

/-- Why a loan is recalled (R334). -/
inductive RecallCause where
  | span | share | dispatch | lenderStop
  deriving DecidableEq, Repr

/-- Fields of a 64-bit FETCH or PUT (R158). -/
structure MoveF where
  rsv : BitVec 25
  dev : BitVec 1
  tb  : BitVec 2
  ta  : BitVec 2
  rg  : RegF
  rf  : RegF
  rl  : RegF
  rc  : RegF
  trk : BitVec 3
  dn  : BitVec 4
  deriving DecidableEq, Repr

/-- Fields of a 64-bit STROKE or EWISE (R204). -/
structure StrokeF where
  rsv  : BitVec 26
  clr  : BitVec 1
  neg  : BitVec 1
  lt   : BitVec 1
  mode : BitVec 2
  tf   : BitVec 3
  lf   : BitVec 3
  rp   : RegF
  rk   : RegF
  rt   : RegF
  rl   : RegF
  deriving DecidableEq, Repr

/-- One reading of the regulators and the sensors (R483, R484): READ_POUT of the regulators that answer, by address, in 0.1 W; and °C of each
junction sensor, by die in the order HUB, MED, CD0 to CD5. -/
structure Telemetry where
  pout    : List (Byte × Nat)
  sensors : List (List Int)
  deriving DecidableEq, Repr


/-- Whose access failed: a scrub read, a FETCH or PUT of an Easel's track, the running job of a cluster's Primer, the picture on a decoding
engine, the slot on a framing unit, the request on a motion search engine, the ingress engine, the result formatter, the Curator, a BAR4 read
(offset, bytes) or a BAR4 write. -/
inductive EdcOp where
  | scrub
  | track (e t : Nat)
  | primer (cluster : Nat)
  | decode (engine : Nat)
  | framing (fu : Nat)
  | motion (ms : Nat)
  | ingress
  | results
  | curator
  | barRead (off len : Nat)
  | barWrite
  deriving DecidableEq, Repr

/-- An access of a GDDR6 channel whose final try fails its checksum (R385): group offset, and the operation that made it. -/
structure EdcFail where
  off : Nat
  op  : EdcOp
  deriving DecidableEq, Repr

/-- The commands of the opcode table (spec/opcode_table.json), one constructor for each row. -/
inductive Instr where
  /-- POR_N_DEASSERT (R441). -/
  | porNDeassert (b : BootObs)
  /-- RECOVERY_VERIFY (R455); `sigs`: what the signatures of the image in the window are found to be. -/
  | recoveryVerify (sigs : FwSigs)
  /-- RECOVERY_RUN (R455). -/
  | recoveryRun (sigs : FwSigs) (b : BootObs)
  /-- RECOVERY_WRITE (R455). -/
  | recoveryWrite (sigs : FwSigs) (flashOk : Bool)
  /-- CURATOR_WATCHDOG_EXPIRY (R456). -/
  | curatorWatchdogExpiry
  /-- DEVICE_RESTART (R456). -/
  | deviceRestart (cause : Byte) (b : BootObs)
  /-- PARTITION_RESTART (R457). -/
  | partitionRestart (p : Nat) (durationUs : U32)
  /-- FLR (R414). -/
  | flr
  /-- PERST_N_ASSERT (R415). -/
  | perstNAssert
  /-- HOT_RESET (R415). -/
  | hotReset
  /-- LINK_DOWN (R415). -/
  | linkDown
  /-- D3HOT_TO_D0 (R415). -/
  | d3hotToD0
  /-- PCIE_LINK_RETRAIN (R400). -/
  | pcieLinkRetrain (speed width : BitVec 4)
  /-- LANE_MARGIN_COMMAND (R403). -/
  | laneMarginCommand (lane : Nat) (cmd : U16)
  /-- BAR_READ_SHAPE_ABORT (R407). -/
  | barReadShapeAbort (bar off len : Nat)
  /-- BAR4_READ (R407). -/
  | bar4Read (off len : Nat)
  /-- BAR4_WRITE (R407). -/
  | bar4Write (off : Nat) (bytes : List Byte)
  /-- POISONED_TLP_RECEIVED (R407). -/
  | poisonedTlpReceived (bar off len : Nat)
  /-- HOST_READ_COMPLETION (R410). -/
  | hostReadCompletion (tag : Nat) (r : HostRead)
  /-- COMPLETION_TIMEOUT (R410). -/
  | completionTimeout (tag : Nat)
  /-- MSIX_MESSAGE_SEND (R412). -/
  | msixMessageSend (v : Nat)
  /-- ASSERT_INTA (R413). -/
  | assertInta
  /-- REGISTER_WRITE (R7). -/
  | registerWrite (bar off size : Nat) (value : U64)
  /-- REGISTER_READ_CAPTURE (R497). -/
  | registerReadCapture (bar off size : Nat)
  /-- COMMIT_ING_PORT (R65). -/
  | commitIngPort (n : Fin 2)
  /-- COMMIT_ING_SP (R72). -/
  | commitIngSp
  /-- COMMIT_TB_SRC (R40). -/
  | commitTbSrc
  /-- COMMIT_TB_PHASE (R53). -/
  | commitTbPhase
  /-- COMMIT_GLB_BAR4 (R406). -/
  | commitGlbBar4
  /-- COMMIT_PWR (R489). -/
  | commitPwr
  /-- COMMIT_QUEUE (R418). -/
  | commitQueue (q : Fin 64)
  /-- GROUP_APPLY (R438). -/
  | groupApply (g : Group)
  /-- ETH_PORT_LINK_CHANGE (R66). -/
  | ethPortLinkChange (mac : Nat) (up : Bool)
  /-- DB_SQ_WRITE (R423). -/
  | dbSqWrite (q : Nat) (t : U32)
  /-- RESUME (R425). -/
  | resume (q : Nat)
  /-- HQ_QN_CQ_CONS_WRITE (R419). -/
  | hqQnCqConsWrite (q : Nat) (v : U32)
  /-- SUBMISSION_FETCH (R424). -/
  | submissionFetch (q : Nat)
  /-- COMMAND_START (R426). -/
  | commandStart (q : Nat)
  /-- COMMAND_COMPLETE (R427). -/
  | commandComplete (q : Nat) (n : U32)
  /-- CQ_COAL_TIMER (R427). -/
  | cqCoalTimer (q : Nat)
  /-- NOP (R428). -/
  | nop (q : Nat) (n : U32)
  /-- ATL_SET (R29). -/
  | atlSet (q : Nat) (n : U32)
  /-- ATL_DELETE (R29). -/
  | atlDelete (q : Nat) (n : U32)
  /-- PART_CREATE (R321). -/
  | partCreate (q : Nat) (n : U32)
  /-- PART_LOAD (R311). -/
  | partLoad (q : Nat) (n : U32)
  /-- PART_TIMING (R322). -/
  | partTiming (q : Nat) (n : U32)
  /-- PART_START (R322). -/
  | partStart (q : Nat) (n : U32)
  /-- PART_STOP (R322). -/
  | partStop (q : Nat) (n : U32)
  /-- PART_DELETE (R322). -/
  | partDelete (q : Nat) (n : U32)
  /-- WEIGHT_SWAP (R371). -/
  | weightSwap (q : Nat) (n : U32)
  /-- SIT_REGISTER (R317). -/
  | sitRegister (q : Nat) (n : U32)
  /-- SIT_UPDATE (R317). -/
  | sitUpdate (q : Nat) (n : U32)
  /-- SIT_DELETE (R317). -/
  | sitDelete (q : Nat) (n : U32)
  /-- SIT_PARAMSETS (R82). -/
  | sitParamsets (q : Nat) (n : U32)
  /-- PBQ_MARK (R145). -/
  | pbqMark (q : Nat) (n : U32)
  /-- IF_SET (R67). -/
  | ifSet (q : Nat) (n : U32)
  /-- IF_CLEAR (R67). -/
  | ifClear (q : Nat) (n : U32)
  /-- DMX_SET (R74). -/
  | dmxSet (q : Nat) (n : U32)
  /-- DMX_CLEAR (R74). -/
  | dmxClear (q : Nat) (n : U32)
  /-- INJECT (R92). -/
  | inject (q : Nat) (n : U32)
  /-- SET_TIME (R37). -/
  | setTime (q : Nat) (n : U32)
  /-- REPLAY_SET_TIME (R58). -/
  | replaySetTime (q : Nat) (n : U32)
  /-- REPLAY_ADVANCE (R60). -/
  | replayAdvance (q : Nat) (n : U32)
  /-- REPLAY_SITTING (R60). -/
  | replaySitting (p : Nat) (t : U64)
  /-- RING_SET (R352). -/
  | ringSet (q : Nat) (n : U32)
  /-- RING_DELETE (R352). -/
  | ringDelete (q : Nat) (n : U32)
  /-- ADAPT_SAMPLES (R362). -/
  | adaptSamples (q : Nat) (n : U32) (samples : List PicDesc)
  /-- ADAPT_START (R363). -/
  | adaptStart (q : Nat) (n : U32)
  /-- ADAPT_ABORT (R369). -/
  | adaptAbort (q : Nat) (n : U32)
  /-- MEM_GROUP (R391). -/
  | memGroup (q : Nat) (n : U32)
  /-- MEM_INJECT (R398). -/
  | memInject (q : Nat) (n : U32)
  /-- SEC_CERTS (R474). -/
  | secCerts (q : Nat) (n : U32)
  /-- QUOTE (R475). -/
  | quote (q : Nat) (n : U32)
  /-- MEAS_LOG (R474). -/
  | measLog (q : Nat) (n : U32)
  /-- MEAS_EXTEND (R473). -/
  | measExtend (q : Nat) (n : U32)
  /-- LIC_INSTALL (R471). -/
  | licInstall (q : Nat) (n : U32) (sigOk flashOk : Bool)
  /-- LIC_REMOVE (R471). -/
  | licRemove (q : Nat) (n : U32) (flashOk : Bool)
  /-- LIC_LIST (R474). -/
  | licList (q : Nat) (n : U32)
  /-- MB_H2C_WRITE (R432). -/
  | mbH2cWrite (v : U64)
  /-- CURATOR_MAILBOX_ECHO (R432). -/
  | curatorMailboxEcho
  /-- MB_C2H_READ (R432). -/
  | mbC2hRead
  /-- MB_EMBX_DATA_WRITE (R433). -/
  | mbEmbxDataWrite (e : Nat) (v : U64)
  /-- MB_FROM_DATA_READ (R433). -/
  | mbFromDataRead (e : Nat)
  /-- DB_HOST_MASK_WRITE (R435). -/
  | dbHostMaskWrite (w : Nat) (v : U64)
  /-- HQ_RING_CONS_WRITE (R354). -/
  | hqRingConsWrite (r : Nat) (v : U64)
  /-- ING_SPRX_CONS_WRITE (R72). -/
  | ingSprxConsWrite (v : U64)
  /-- ING_SPTX_PROD_WRITE (R73). -/
  | ingSptxProdWrite (v : U64)
  /-- ETH_FRAME_RECEIVE (R68). -/
  | ethFrameReceive (mac : Nat) (f : Frame)
  /-- MCAST_STATE_CHANGE_REPORT (R70). -/
  | mcastStateChangeReport (iface : Nat) (group : BitVec 128)
  /-- REORDER_GAP_TIMEOUT (R84). -/
  | reorderGapTimeout (sitter : Nat)
  /-- PTP_ANNOUNCE_TIMEOUT (R45). -/
  | ptpAnnounceTimeout
  /-- PTM_DIALOGUE (R42). -/
  | ptmDialogue (r : Option (U64 × Int))
  /-- PPS_IN_EDGE (R43); `ferr`: the frequency error estimate with this edge in it (R45). -/
  | ppsInEdge (ferr : Int)
  /-- TOD_RX_MESSAGE (R43). -/
  | todRxMessage (line : List Byte)
  /-- PPS_EDGE_TIMEOUT (R45). -/
  | ppsEdgeTimeout
  /-- PPS_OUT_EDGE (R43). -/
  | ppsOutEdge
  /-- TOD_TX_SEND (R527). -/
  | todTxSend
  /-- PHASE_BOUNDARY (R54). -/
  | phaseBoundary
  /-- SITTING_INSTANT (R325). -/
  | sittingInstant (p : Nat) (t : U64)
  /-- DECODE_START (R98). -/
  | decodeStart (engine : Nat) (pic : PicDesc)
  /-- DECODE_COMPLETE (R120). -/
  | decodeComplete (engine : Nat) (busyUs : Nat)
  /-- ENGINE_DOMAIN_GATE (R477). -/
  | engineDomainGate (kind : EngineKind) (n : Nat)
  /-- FRAMING_SLOT_START (R127). -/
  | framingSlotStart (fu : Nat)
  /-- FRAMING_SLOT_COMPLETE (R143). -/
  | framingSlotComplete (fu : Nat)
  /-- CROP_LIST_TAKE (R136). -/
  | cropListTake (p : Nat)
  /-- FLOW_REQUEST_TAKE (R343). -/
  | flowRequestTake (ms : Nat) (p : Nat)
  /-- FLOW_COMPLETE (R344). -/
  | flowComplete (ms : Nat)
  /-- RESULT_BLOCK_TAKE (R347). -/
  | resultBlockTake (p : Nat)
  /-- RESULT_GROUP_WRITE (R350). -/
  | resultGroupWrite (sitter : Nat)
  /-- RING_INTR_TIMER (R354). -/
  | ringIntrTimer (r : Nat)
  /-- LOAN_START (R333). -/
  | loanStart (e : Nat)
  /-- LOAN_RECALL (R334). -/
  | loanRecall (e : Nat) (cause : RecallCause)
  /-- ADD (R160). -/
  | add (e : Nat) (a b c : RegF)
  /-- SUB (R160). -/
  | sub (e : Nat) (a b c : RegF)
  /-- AND (R160). -/
  | andR (e : Nat) (a b c : RegF)
  /-- OR (R160). -/
  | orR (e : Nat) (a b c : RegF)
  /-- XOR (R160). -/
  | xorR (e : Nat) (a b c : RegF)
  /-- SLL (R160). -/
  | sll (e : Nat) (a b c : RegF)
  /-- SRL (R160). -/
  | srl (e : Nat) (a b c : RegF)
  /-- SRA (R160). -/
  | sra (e : Nat) (a b c : RegF)
  /-- MIN (R160). -/
  | minR (e : Nat) (a b c : RegF)
  /-- MAX (R160). -/
  | maxR (e : Nat) (a b c : RegF)
  /-- MINU (R160). -/
  | minu (e : Nat) (a b c : RegF)
  /-- MAXU (R160). -/
  | maxu (e : Nat) (a b c : RegF)
  /-- CLZ (R160). -/
  | clz (e : Nat) (a b c : RegF)
  /-- POPC (R160). -/
  | popc (e : Nat) (a b c : RegF)
  /-- ANDN (R160). -/
  | andn (e : Nat) (a b c : RegF)
  /-- SEL (R160). -/
  | sel (e : Nat) (p : BitVec 3) (a b c : RegF)
  /-- ADDI (R160). -/
  | addi (e : Nat) (a b : RegF) (imm : BitVec 12)
  /-- ANDI (R160). -/
  | andi (e : Nat) (a b : RegF) (imm : BitVec 12)
  /-- ORI (R160). -/
  | ori (e : Nat) (a b : RegF) (imm : BitVec 12)
  /-- XORI (R160). -/
  | xori (e : Nat) (a b : RegF) (imm : BitVec 12)
  /-- SLLI (R160). -/
  | slli (e : Nat) (a b : RegF) (imm : BitVec 12)
  /-- SRLI (R160). -/
  | srli (e : Nat) (a b : RegF) (imm : BitVec 12)
  /-- SRAI (R160). -/
  | srai (e : Nat) (a b : RegF) (imm : BitVec 12)
  /-- LUIH (R160). -/
  | luih (e : Nat) (a : RegF) (imm : BitVec 20)
  /-- LUI (R160). -/
  | lui (e : Nat) (a : RegF) (imm : BitVec 20)
  /-- CMP (R160). -/
  | cmp (e : Nat) (f : BitVec 3) (k : BitVec 7) (a b c : RegF)
  /-- CMPI (R160). -/
  | cmpi (e : Nat) (f : BitVec 3) (a b : RegF) (imm : BitVec 12)
  /-- PAND (R160). -/
  | pand (e : Nat) (k : BitVec 7) (a b c : RegF)
  /-- POR (R160). -/
  | por (e : Nat) (k : BitVec 7) (a b c : RegF)
  /-- PXOR (R160). -/
  | pxor (e : Nat) (k : BitVec 7) (a b c : RegF)
  /-- PANDN (R160). -/
  | pandn (e : Nat) (k : BitVec 7) (a b c : RegF)
  /-- PNOT (R160). -/
  | pnot (e : Nat) (k : BitVec 7) (a b c : RegF)
  /-- PSET (R160). -/
  | pset (e : Nat) (k : BitVec 7) (a b c : RegF)
  /-- PTOS (R160). -/
  | ptos (e : Nat) (k : BitVec 7) (a b c : RegF)
  /-- STOP (R160). -/
  | stop (e : Nat) (k : BitVec 7) (a b c : RegF)
  /-- MUL (R160). -/
  | mul (e : Nat) (k : BitVec 7) (a b c : RegF)
  /-- MULH (R160). -/
  | mulh (e : Nat) (k : BitVec 7) (a b c : RegF)
  /-- MULHU (R160). -/
  | mulhu (e : Nat) (k : BitVec 7) (a b c : RegF)
  /-- DIV (R161). -/
  | div (e : Nat) (k : BitVec 7) (a b c : RegF)
  /-- DIVU (R161). -/
  | divu (e : Nat) (k : BitVec 7) (a b c : RegF)
  /-- REM (R161). -/
  | rem (e : Nat) (k : BitVec 7) (a b c : RegF)
  /-- REMU (R161). -/
  | remu (e : Nat) (k : BitVec 7) (a b c : RegF)
  /-- LDL (R162). -/
  | ldl (e : Nat) (f : BitVec 3) (a b : RegF) (imm : BitVec 12)
  /-- STL (R162). -/
  | stl (e : Nat) (f : BitVec 3) (a b : RegF) (imm : BitVec 12)
  /-- LDG (R162). -/
  | ldg (e : Nat) (f : BitVec 3) (a b : RegF) (imm : BitVec 12)
  /-- STG (R162). -/
  | stg (e : Nat) (f : BitVec 3) (a b : RegF) (imm : BitVec 12)
  /-- BR (R165). -/
  | br (e : Nat) (a : RegF) (imm : BitVec 20)
  /-- JAL (R165). -/
  | jal (e : Nat) (a : RegF) (imm : BitVec 20)
  /-- JALR (R165). -/
  | jalr (e : Nat) (f : BitVec 3) (a b : RegF) (imm : BitVec 12)
  /-- DLD (R164). -/
  | dld (e : Nat) (a b : RegF) (imm : BitVec 12)
  /-- DST (R164). -/
  | dst (e : Nat) (a b : RegF) (imm : BitVec 12)
  /-- DLDG (R164). -/
  | dldg (e : Nat) (a b : RegF) (imm : BitVec 12)
  /-- DSTG (R164). -/
  | dstg (e : Nat) (a b : RegF) (imm : BitVec 12)
  /-- DRD (R164). -/
  | drd (e : Nat) (a b : RegF) (imm : BitVec 12)
  /-- DWR (R164). -/
  | dwr (e : Nat) (a b : RegF) (imm : BitVec 12)
  /-- DCOPY (R164). -/
  | dcopy (e : Nat) (a b : RegF) (imm : BitVec 12)
  /-- FETCH (R166). -/
  | fetch (e : Nat) (w : MoveF)
  /-- PUT (R166). -/
  | put (e : Nat) (w : MoveF)
  /-- TRACK_OP_COMPLETE (R169). -/
  | trackOpComplete (e : Nat) (track : Nat)
  /-- TAKE (R172). -/
  | take (e : Nat) (k : BitVec 7) (a b c : RegF)
  /-- TSET (R172). -/
  | tset (e : Nat) (k : BitVec 7) (a b c : RegF)
  /-- WAIT (R174). -/
  | waitI (e : Nat) (k : BitVec 7) (a b c : RegF)
  /-- WAIT_SATISFIED (R174). -/
  | waitSatisfied (e : Nat)
  /-- RING (R175). -/
  | ring (e : Nat) (k : BitVec 7) (a b c : RegF)
  /-- POST (R176). -/
  | post (e : Nat) (k : BitVec 7) (a b c : RegF)
  /-- COLLECT (R176). -/
  | collect (e : Nat) (k : BitVec 7) (a b c : RegF)
  /-- BARRIER (R177). -/
  | barrier (e : Nat) (k : BitVec 7) (a b c : RegF)
  /-- DISPATCH (R179). -/
  | dispatch (e : Nat) (k : BitVec 7) (f : BitVec 3) (a b c : RegF)
  /-- LEAF_START (R151). -/
  | leafStart (e : Nat)
  /-- LEAF_HALTED (R179). -/
  | leafHalted (e : Nat)
  /-- ATELIER_COMPLETE (R32). -/
  | atelierComplete (unit : U16)
  /-- ECRR (R173). -/
  | ecrr (e : Nat) (a b : RegF) (imm : BitVec 12)
  /-- ECRW (R173). -/
  | ecrw (e : Nat) (a b : RegF) (imm : BitVec 12)
  /-- TRAP (R173). -/
  | trap (e : Nat) (a b : RegF) (imm : BitVec 12)
  /-- HALT (R179). -/
  | halt (e : Nat) (a b : RegF) (imm : BitVec 12)
  /-- TWAIT (R173). -/
  | twait (e : Nat) (a b : RegF) (imm : BitVec 12)
  /-- WATCHDOG_EXPIRY (R185). -/
  | watchdogExpiry (e : Nat)
  /-- STROKE (R190). -/
  | stroke (e : Nat) (w : StrokeF)
  /-- EWISE (R211). -/
  | ewise (e : Nat) (w : StrokeF)
  /-- SWAP (R203). -/
  | swap (e : Nat) (rsv : BitVec 25)
  /-- LOADACC (R201). -/
  | loadacc (e : Nat) (k : BitVec 7) (f : BitVec 3) (a b c : RegF)
  /-- DRAIN (R202). -/
  | drain (e : Nat) (k : BitVec 7) (f : BitVec 3) (a b c : RegF)
  /-- PLAUNCH (R260). -/
  | plaunch (e : Nat) (k : BitVec 7) (f : BitVec 3) (a b c : RegF)
  /-- PLAUNCH_F (R260). -/
  | plaunchF (e : Nat) (r rf rg : RegF) (rsv : BitVec 42)
  /-- PWAIT (R260). -/
  | pwait (e : Nat) (k : BitVec 7) (f : BitVec 3) (a b c : RegF)
  /-- VADD (R238). -/
  | vadd (e : Nat) (a b c : RegF)
  /-- VSUB (R238). -/
  | vsub (e : Nat) (a b c : RegF)
  /-- VMUL (R238). -/
  | vmul (e : Nat) (a b c : RegF)
  /-- VMIN (R238). -/
  | vmin (e : Nat) (a b c : RegF)
  /-- VMAX (R238). -/
  | vmax (e : Nat) (a b c : RegF)
  /-- VAND (R238). -/
  | vand (e : Nat) (a b c : RegF)
  /-- VOR (R238). -/
  | vor (e : Nat) (a b c : RegF)
  /-- VXOR (R238). -/
  | vxor (e : Nat) (a b c : RegF)
  /-- VSLL (R238). -/
  | vsll (e : Nat) (a b c : RegF)
  /-- VSRL (R238). -/
  | vsrl (e : Nat) (a b c : RegF)
  /-- VSRA (R238). -/
  | vsra (e : Nat) (a b c : RegF)
  /-- VFADD (R239). -/
  | vfadd (e : Nat) (k : BitVec 7) (a b c : RegF)
  /-- VFSUB (R239). -/
  | vfsub (e : Nat) (k : BitVec 7) (a b c : RegF)
  /-- VFMUL (R239). -/
  | vfmul (e : Nat) (k : BitVec 7) (a b c : RegF)
  /-- VFMIN (R239). -/
  | vfmin (e : Nat) (k : BitVec 7) (a b c : RegF)
  /-- VFMAX (R239). -/
  | vfmax (e : Nat) (k : BitVec 7) (a b c : RegF)
  /-- VFDIV (R239). -/
  | vfdiv (e : Nat) (k : BitVec 7) (a b c : RegF)
  /-- VFSQRT (R239). -/
  | vfsqrt (e : Nat) (k : BitVec 7) (a b c : RegF)
  /-- VFABS (R238). -/
  | vfabs (e : Nat) (k : BitVec 7) (a b c : RegF)
  /-- VCMP (R238). -/
  | vcmp (e : Nat) (k : BitVec 7) (f : BitVec 3) (a b c : RegF)
  /-- VSEL (R238). -/
  | vsel (e : Nat) (k : BitVec 7) (a b c : RegF)
  /-- VBCAST (R238). -/
  | vbcast (e : Nat) (k : BitVec 7) (a b c : RegF)
  /-- VGET (R238). -/
  | vget (e : Nat) (k : BitVec 7) (a b c : RegF)
  /-- VPUT (R238). -/
  | vput (e : Nat) (k : BitVec 7) (a b c : RegF)
  /-- VPERM (R238). -/
  | vperm (e : Nat) (k : BitVec 7) (a b c : RegF)
  /-- VIOTA (R238). -/
  | viota (e : Nat) (k : BitVec 7) (a b c : RegF)
  /-- VCVT (R238). -/
  | vcvt (e : Nat) (k : BitVec 7) (f : BitVec 3) (a b c : RegF)
  /-- VACT (R242). -/
  | vact (e : Nat) (k : BitVec 7) (f : BitVec 3) (a b c : RegF)
  /-- VSUM (R241). -/
  | vsum (e : Nat) (k : BitVec 7) (a b c : RegF)
  /-- VMAXR (R238). -/
  | vmaxr (e : Nat) (k : BitVec 7) (a b c : RegF)
  /-- VARGMAX (R256). -/
  | vargmax (e : Nat) (k : BitVec 7) (a b c : RegF)
  /-- VISUM (R238). -/
  | visum (e : Nat) (k : BitVec 7) (a b c : RegF)
  /-- VLD (R238). -/
  | vld (e : Nat) (k : BitVec 7) (f : BitVec 3) (a b c : RegF)
  /-- VST (R238). -/
  | vst (e : Nat) (k : BitVec 7) (f : BitVec 3) (a b c : RegF)
  /-- VRS (R238). -/
  | vrs (e : Nat) (k : BitVec 7) (f : BitVec 3) (a b c : RegF)
  /-- VCORR (R238). -/
  | vcorr (e : Nat) (k : BitVec 7) (f : BitVec 3) (a b c : RegF)
  /-- VSORT (R256). -/
  | vsort (e : Nat) (k : BitVec 7) (a b c : RegF)
  /-- VMERGE (R256). -/
  | vmerge (e : Nat) (k : BitVec 7) (a b c : RegF)
  /-- VIOU (R257). -/
  | viou (e : Nat) (k : BitVec 7) (a b c : RegF)
  /-- PQUANT (R249). -/
  | pquant (e : Nat) (r : RegF) (rsv : BitVec 52)
  /-- PSOFTMAX (R250). -/
  | psoftmax (e : Nat) (r : RegF) (rsv : BitVec 52)
  /-- PLNORM (R251). -/
  | plnorm (e : Nat) (r : RegF) (rsv : BitVec 52)
  /-- PRMSNORM (R251). -/
  | prmsnorm (e : Nat) (r : RegF) (rsv : BitVec 52)
  /-- PPOOL (R252). -/
  | ppool (e : Nat) (r : RegF) (rsv : BitVec 52)
  /-- PDWCONV (R253). -/
  | pdwconv (e : Nat) (r : RegF) (rsv : BitVec 52)
  /-- PGCONV (R253). -/
  | pgconv (e : Nat) (r : RegF) (rsv : BitVec 52)
  /-- PEWISE (R254). -/
  | pewise (e : Nat) (r : RegF) (rsv : BitVec 52)
  /-- CANVAS_QUEUE_EXECUTE (R208). -/
  | canvasQueueExecute (e : Nat) (back : Bool)
  /-- PALETTE_QUEUE_EXECUTE (R236). -/
  | paletteQueueExecute (e : Nat)
  /-- PRIMER_JOB_START (R264). -/
  | primerJobStart (cluster : Nat)
  /-- PRIMER_JOB_COMPLETE (R263). -/
  | primerJobComplete (cluster : Nat)
  /-- SHIFT_STEP (R488). -/
  | shiftStep
  /-- OP_CHANGE_SETTLE (R482). -/
  | opChangeSettle (mv : Nat)
  /-- STRETCHER_LINK_RETRAIN (R449). -/
  | stretcherLinkRetrain (link goodA goodB : Nat)
  /-- TELEMETRY_SAMPLE (R483). -/
  | telemetrySample (t : Telemetry)
  /-- PM_ALERT (R483). -/
  | pmAlert (anyFault : Bool)
  /-- PWR_ALERT (R491). -/
  | pwrAlert (asserted : Bool)
  /-- ALERT_AUTO_CLEAR (R491). -/
  | alertAutoClear
  /-- THERM_TRIP (R492). -/
  | thermTrip
  /-- SCRUB_READ (R378). -/
  | scrubRead (array : EccArray) (addr : Nat) (bits : List Nat)
  /-- GDDR_REFRESH (R388). -/
  | gddrRefresh (group channel bank : Nat)
  /-- GDDR_RETRACK (R385, R389); `failed`: the access that fails although the channel has re-tracked. -/
  | gddrRetrack (group channel : Nat) (failed : Option EdcFail)
  /-- ROW_IDLE_CLOSE (R387). -/
  | rowIdleClose (group channel bank : Nat)
  /-- MEM_GROUP_TRANSITION_DONE (R393); `retrained`: the short test of a group that returns from self-refresh failed, and the group trained
  from the beginning (R389). -/
  | memGroupTransitionDone (group : Nat) (retrained : Bool)
  /-- SMBUS_READ_STATUS (R526). -/
  | smbusReadStatus
  /-- SMBUS_READ_TEMPERATURE (R526). -/
  | smbusReadTemperature
  /-- SMBUS_READ_POWER (R526). -/
  | smbusReadPower
  /-- SMBUS_READ_DIE_TEMPS (R526). -/
  | smbusReadDieTemps
  /-- SMBUS_READ_IDENTITY (R526). -/
  | smbusReadIdentity
  /-- SMBUS_READ_PWR_STATUS (R526). -/
  | smbusReadPwrStatus
  /-- SMBUS_WRITE_REFUSED (R526). -/
  | smbusWriteRefused (code : Byte)
  /-- SMBUS_COPY_REFRESH (R526). -/
  | smbusCopyRefresh
  /-- BYPASS (R532). -/
  | bypass
  /-- IDCODE (R532). -/
  | idcode
  /-- SAMPLE_PRELOAD (R532). -/
  | samplePreload (pins : List Bool)
  /-- EXTEST (R532). -/
  | extest
  /-- HIGHZ (R532). -/
  | highz
  /-- POR_N_ASSERT (R520). -/
  | porNAssert (us : Nat)
  /-- POWER_LOSS (R454). -/
  | powerLoss
  /-- PCIE_LINK_UP (R400). -/
  | pcieLinkUp (speed width : BitVec 4)
  /-- ETH_PORT_TRAIN_FAIL (R66). -/
  | ethPortTrainFail (port : Nat)
  /-- PTP_DELAY_REQ_SEND (R41). -/
  | ptpDelayReqSend
  /-- FREED_MEMORY_ZEROED (R379). -/
  | freedMemoryZeroed
  deriving DecidableEq, Repr

end Sys2Proof
end

