-- ==== Sys2Proof/Decode.lean ====
section
/-!
DEFINITION. The command that a word spells. The opcode table gives no row any bits, so no word spells a command.
-/
namespace Sys2Proof

/-- None of the table's rows has bits: every word is refused. (Log 4 DESIGN CHOICE) -/
def decodeTableWord (_nbits _w : Nat) : Option Instr := none

end Sys2Proof
end

