-- ==== Sys2Proof/Machine/State.lean ====
section
/-!
DEFINITION. The state of the ML8 as plain data, and its value at reset. Sparse tables are lists of (key, value) in ascending key order
with no entry equal to the table's default; the operations that keep that form stand in Machine/Table.lean. A field's reset
value is its default here; values the manual does not give are named in the assumption log (notes/assumptions).
-/
namespace Sys2Proof.Machine

/-- Why a command stops the model. (Log 7 DESIGN CHOICE) -/
inductive Fault where
  /-- Raised by a command that names a unit (an Easel, queue, ring, engine, MAC, link, memory group ...) that the part does not
  have: the manual gives no such command. Safe: the model stops where no hardware command exists. -/
  | noSuchUnit
  deriving DecidableEq, Repr

/-- Why a command has no meaning in the model. -/
inductive Refusal where
  /-- Raised by an arm of `exec` whose command has no meaning yet. Safe. -/
  | notModelled (mnemonic : String)
  deriving DecidableEq, Repr

/-- A sparse table: ascending keys, no entry equal to the default of its reader. -/
abbrev Tbl (α : Type) := List (Nat × α)
/-- A sparse byte memory, in the canonical form of `Memory.wf`. (Log 13 DESIGN CHOICE) -/
abbrev Cells := List Host.Cell

/-- A mailbox (R431): reset empty. -/
structure Mbx where
  val     : U64 := 0
  full    : Bool := false
  overrun : Bool := false
  deriving DecidableEq, Repr

/-! ### Start, journal, board -/

/-- A journal record (R453): type, start number, body, and whether its commit byte was programmed. -/
structure JRec where
  type   : U16
  start  : U32
  body   : List Byte
  commit : Bool
  deriving DecidableEq, Repr

/-- One half of the journal (R453). -/
structure JHalf where
  /-- the header's magic and commit byte are programmed -/
  valid      : Bool := false
  generation : U32 := 0
  recs       : List JRec := []
  deriving DecidableEq, Repr

/-- JNL_STEPn (R452). -/
structure JStep where
  duration : U32 := 0
  code     : Byte := 0
  attempts : Nat := 0
  result   : Nat := 0
  deriving DecidableEq, Repr

/-- Bring-up state (R441 to R456): GLB_STATUS, JNL_ registers, the journal and the flash behind it, the spare map and the
measured maxima. -/
structure Boot where
  /-- GLB_STATUS.STATE: 0 STARTING, 1 READY, 2 NOT_READY, 3 RECOVERY, 4 RESTARTING -/
  state       : Nat := 0
  jnlFull     : Bool := false
  strapBad    : Bool := false
  /-- BOOT_SEL as sampled when POR_N deasserted (R442) -/
  straps      : BitVec 2 := 0
  kind        : Nat := 0
  step        : Nat := 0
  code        : Byte := 0
  detail      : U16 := 0
  devRestarts : U16 := 0
  steps       : Tbl JStep := []
  half        : BitVec 19 := 0
  rate16      : U16 := 0
  totalMs     : U32 := 0
  number      : U32 := 0
  /-- lowest byte first: physical Easel of each logical Easel (DBG_EASEL_MAP) -/
  easelMap    : Tbl Nat := []
  /-- (8 p + point, units of 25 MHz) -/
  maxima      : Tbl Byte := []
  journalA    : JHalf := {}
  journalB    : JHalf := {}
  /-- the flash outside the journal; an unlisted byte is erased, 0xFF -/
  flash       : Cells := []
  /-- a device-level cause waits for DEVICE_RESTART (R456) -/
  devCause    : Option Byte := none
  deriving DecidableEq, Repr

/-- Board-level pins (R401, R491, R492, R518, R520) and the JTAG and SMBus ports (R526, R532). (Log 101 DESIGN CHOICE) -/
structure Board where
  porAsserted   : Bool := true
  clkreqLow     : Bool := true
  thermTrip     : Bool := false
  clocksStopped : Bool := false
  outputsHighZ  : Bool := true
  /-- ns for which PPS_OUT stays high -/
  ppsHigh       : Nat := 0
  /-- JTAG: last instruction (0 BYPASS, 1 IDCODE, 2 SAMPLE/PRELOAD, 3 EXTEST, 4 HIGHZ) and the register it selects -/
  jtagIr        : Nat := 1
  jtagDr        : U32 := 0x10880879
  /-- boundary cells captured or preloaded -/
  boundary      : List Bool := []
  /-- the boundary register drives the pins (EXTEST) -/
  extestOn      : Bool := false
  highzOn       : Bool := false
  /-- SMBus: the Curator's value copy (codes 0x01 to 0x05), and the last answer; none: NACK -/
  sbTemp        : Byte := 0
  sbPower       : U16 := 0
  sbTemps       : List Byte := []
  sbIdentity    : List Byte := []
  sbPwrStatus   : Byte := 0
  sbAnswer      : Option (List Byte) := none
  deriving DecidableEq, Repr

/-! ### PCI Express -/

/-- Who waits for a host read (R410): a queue's fetch, a command's input block, and of the slow path a header, or the `n` bytes of a frame
for a MAC. -/
inductive ReadOwner where
  | fetch (q : Nat)
  | cmd (q : Nat) (n : U32)
  | slowHead
  | slowBody (mac n : Nat)
  deriving DecidableEq, Repr

/-- A block that is being read from host memory (R408, R409): what has been requested of it, and the pieces that have come, by offset. -/
structure Xfer where
  id     : Nat
  owner  : ReadOwner
  addr   : Nat
  len    : Nat
  issued : Nat := 0
  got    : List (Nat × List Byte) := []
  deriving DecidableEq, Repr

/-- An outstanding read request (R409): its tag, its transfer, its host address, its offset in the block and its bytes. -/
structure ReadReq where
  tag  : Nat
  xfer : Nat
  addr : Nat
  off  : Nat
  len  : Nat
  deriving DecidableEq, Repr

/-- An MSI-X table entry; reset masked (the PCI Express standard's value). -/
structure MsixEntry where
  addr   : U64 := 0
  data   : U32 := 0
  masked : Bool := true
  deriving DecidableEq, Repr

/-- What AER logs (R407, R410). -/
inductive AerKind where
  | discardedWrite | completerAbort | poisonedTlp | completionTimeout | unsupportedRequest
  deriving DecidableEq, Repr

/-- An entry that AER logs (R407, R410): the kind of error, and what the header of the TLP says: read or write, the BAR and the offset, the
address and the bytes. For a Completion Timeout the offset is the tag. -/
structure AerRec where
  kind : AerKind
  read : Bool
  bar  : Nat
  off  : Nat
  addr : Nat
  len  : Nat
  deriving DecidableEq, Repr

/-- The last answer the part gave to a host read (R407). -/
inductive Reply where
  | none
  | data (bytes : List Byte)
  | completerAbort
  | unsupportedRequest
  /-- Request Retry Status, while a function-level reset runs (R414) -/
  | requestRetry
  deriving DecidableEq, Repr

/-- The PCI Express function (R399 to R416). -/
structure Pcie where
  linkUp       : Bool := false
  /-- the link came up degraded before the journal was open: its record is still to be written (R400) -/
  linkDue      : Bool := false
  speed        : Nat := 0
  width        : Nat := 0
  retrains     : U16 := 0
  memSpaceEn   : Bool := false
  busMasterEn  : Bool := false
  parityResp   : Bool := false
  serrEn       : Bool := false
  intxDisable  : Bool := false
  cacheLine    : Byte := 0
  intLine      : Byte := 0
  d3hot        : Bool := false
  extTagEn     : Bool := true
  tenBitTagEn  : Bool := false
  ctoDisable   : Bool := false
  cto          : Nat := 0
  maxPayload   : Nat := 0
  maxRead      : Nat := 2
  bars         : Tbl U32 := []
  /-- Resizable BAR size of BAR4: 2^(28 + n) bytes -/
  bar4Size     : Nat := 0
  msixEnable   : Bool := false
  msixMask     : Bool := false
  msix         : Tbl MsixEntry := []
  /-- pending bits of the 256 vectors -/
  pba          : BitVec 256 := 0
  intaAsserted : Bool := false
  /-- transfers in the order they were asked for, the next one's number, and the path that issued last (R409) -/
  xfers        : List Xfer := []
  nextXfer     : Nat := 0
  lastPath     : Nat := 2
  reads        : List ReadReq := []
  aer          : List AerRec := []
  /-- AER status, mask and severity (R403); resets of the standard -/
  uncStatus    : U32 := 0
  uncMask      : U32 := 0x00400000
  uncSeverity  : U32 := 0x00462030
  corStatus    : U32 := 0
  corMask      : U32 := 0x0000E000
  /-- entry of `aer` whose header the header log shows -/
  firstError   : Option Nat := none
  /-- the error bits of Status (R402) and of Device Status, and the standard's control registers that have no effect here -/
  statusErrors : U16 := 0
  devStatus    : BitVec 4 := 0
  devEnables   : U16 := 0x0810
  linkCtl      : U16 := 0
  linkCtl2     : U16 := 5
  ptmCtl       : U32 := 0
  discards     : BitVec 48 := 0
  aborts       : BitVec 48 := 0
  reply        : Reply := .none
  /-- captured high halves (R497), keyed by 2^32 bar + offset -/
  captures     : Tbl U32 := []
  /-- ns for which a function-level reset still runs (R414) -/
  flrNs        : Nat := 0
  /-- lane margining: last command answered on each lane, with the answer's payload -/
  margin       : Tbl (U16 × Byte) := []
  /-- the part's posted writes as host memory holds them; an unlisted byte is 0 -/
  hostMem      : Cells := []
  /-- the TLPs of the last posted write: address and payload bytes (R408) -/
  posted       : List (Nat × Nat) := []
  deriving DecidableEq, Repr

/-! ### Queues and host registers -/

/-- A submission entry (R420). -/
structure Entry where
  seq    : U32 := 0
  opcode : U16 := 0
  flags  : Byte := 0
  rsv7   : Byte := 0
  tag    : U64 := 0
  addr0  : U64 := 0
  len0   : U32 := 0
  arg2   : U32 := 0
  addr1  : U64 := 0
  len1   : U32 := 0
  rsv44  : U32 := 0
  arg0   : U64 := 0
  arg1   : U64 := 0
  deriving DecidableEq, Repr

/-- An accepted, unanswered command (R426). -/
structure Cmd where
  entry   : Entry
  started : Bool := false
  /-- the input block, once it has been read -/
  block   : Option (List Byte) := none
  /-- the effect has begun and the command waits to complete -/
  waiting : Bool := false
  /-- status and result, once known -/
  answer  : Option (U16 × U64) := none
  deriving DecidableEq, Repr

/-- A queue pair (R417 to R427). -/
structure Queue where
  /-- 0 DISABLED, 1 RUNNING, 2 STOPPED, 3 DRAINING -/
  state     : Nat := 0
  reason    : Nat := 0
  sqBaseS   : U64 := 0
  cqBaseS   : U64 := 0
  cfgS      : U64 := 0
  sqBase    : U64 := 0
  cqBase    : U64 := 0
  cfg       : U64 := 0
  commit    : Bool := false
  busy      : Bool := false
  invalid   : Bool := false
  accepted  : U32 := 0
  tail      : U32 := 0
  written   : U32 := 0
  consumed  : U32 := 0
  fetching  : Bool := false
  /-- the pair has been created since reset -/
  made      : Bool := false
  unsignalled : Nat := 0
  submitted : BitVec 48 := 0
  done      : BitVec 48 := 0
  failed    : BitVec 48 := 0
  dbErr     : BitVec 48 := 0
  consErr   : BitVec 48 := 0
  cmds      : List Cmd := []
  deriving DecidableEq, Repr

/-- The staged settings of the device-wide commit groups (R439, R499), used twice: staged and in force. -/
structure Settings where
  port0      : U64 := 0
  port1      : U64 := 0
  sprxBase   : U64 := 0
  sprxSize   : U64 := 16
  sptxBase   : U64 := 0
  sptxSize   : U64 := 16
  spRate     : U64 := 10000
  srcSel     : U64 := 0
  ptpCfg     : U64 := 0x3000
  ptmInterval : U64 := 10
  ptmOffset  : U64 := 0
  ppsCfg     : U64 := 0
  phaseCount : U64 := 1
  localOffset : U64 := 0
  /-- quadword 2k and 2k + 1 of entry PHk; R502 gives PH0's value after POR -/
  phases     : Tbl U64 := [(0, 0xFFFFFFFF00000000), (1, 0x0000FFFFFFFFFFFF)]
  bar4Map    : U64 := 0
  pwrCtl     : U64 := 0
  deriving DecidableEq, Repr

/-- A host doorbell word (R435). -/
structure Doorbell where
  pend   : U32 := 0
  mask   : U32 := 0
  vector : Byte := 0
  deriving DecidableEq, Repr

/-- The Curator's mailbox for an Easel, and the bits it rang (R433). -/
structure FromMbx where
  mbx    : Mbx := {}
  signal : U32 := 0
  deriving DecidableEq, Repr

/-- A result ring or archive ring (R352 to R357). Size 0: not defined. -/
structure Ring where
  use         : Nat := 0
  sizeLog2    : Nat := 0
  timeEvents  : Bool := false
  partEvents  : U16 := 0
  vector      : Byte := 0
  base        : U64 := 0
  writeback   : U64 := 0
  intrBytes   : Nat := 0
  intrUs      : Nat := 0
  prod        : U64 := 0
  cons        : U64 := 0
  seq         : U64 := 0
  consErr     : BitVec 48 := 0
  lostRecords : Nat := 0
  lostGroups  : Nat := 0
  lostFirst   : U64 := 0
  lostLast    : U64 := 0
  unsignalled : Nat := 0
  /-- a record was written since the last signal -/
  unsigAny    : Bool := false
  deriving DecidableEq, Repr

/-- Host-facing state of the Curator and HUB. -/
structure HostIf where
  queues    : Tbl Queue := []
  rings     : Tbl Ring := []
  staged    : Settings := {}
  live      : Settings := {}
  /-- COMMIT, BUSY and INVALID bits of R499 -/
  commit    : BitVec 7 := 0
  busy      : BitVec 7 := 0
  invalid   : BitVec 7 := 0
  h2c       : Mbx := {}
  c2h       : Mbx := {}
  fromE     : Tbl FromMbx := []
  doorbells : Tbl Doorbell := []
  /-- queue the Curator last took a command from (R426) -/
  lastQueue : Nat := 63
  taiUtc    : U16 := 37
  deriving DecidableEq, Repr

/-! ### Timebase -/

/-- A master that announces in the configured domain (R41): its last Announce, and when it came. -/
structure PtpMaster where
  port   : PtpPort
  data   : PtpData
  logInterval : Int
  at_    : Nat
  deriving DecidableEq, Repr

/-- The PTP client (R41): an ordinary clock, slave only, with the end-to-end delay mechanism. -/
structure PtpClient where
  masters : List PtpMaster := []
  /-- clock at the last Sync of the selected master, and its interval -/
  syncAt  : Option Nat := none
  syncLog : Int := 0
  /-- a two-step Sync that waits for its Follow_Up: sequence number and store time of receipt -/
  twoStep : Option (U16 × Int) := none
  /-- departure at the master and receipt here, in store time, of the last complete Sync -/
  pair    : Option (Int × Int) := none
  /-- the Delay_Req that waits for its answer: sequence number and store time of departure -/
  req     : Option (U16 × Int) := none
  reqSeq  : U16 := 0
  reqLog  : Int := 0
  /-- mean path delay in ns, once measured -/
  delay   : Option Int := none
  deriving DecidableEq, Repr

/-- The timebase (R36 to R54). -/
structure Timebase where
  /-- 0 FREE, 1 ACQUIRING, 2 LOCKED, 3 HOLDOVER -/
  state     : Nat := 0
  time      : U64 := 0
  /-- the part of a ns, in units of 10^-9 ns, that `time` leaves out -/
  frac      : Nat := 0
  /-- frequency correction of store time against SYS_CLK, 0.001 ppm (R40, R44, R45) -/
  corr      : Int := 0
  ptp       : PtpClient := {}
  /-- clock at the last PPS_IN edge (R43, R45) -/
  edgeAt    : Option Nat := none
  /-- frequency error estimate, 0.001 ppm -/
  ferr      : Int := 0
  /-- ns since HOLDOVER was entered -/
  holdNs    : Nat := 0
  ptmFails  : Nat := 0
  /-- edges in a row without a valid message -/
  ppsMissed : Nat := 0
  /-- TAI second that the last valid message gives for the next edge -/
  todSecond : Option Nat := none
  phaseErr  : U32 := 0
  phase     : Nat := 0
  todTx     : List Byte := []
  delayReqs : U64 := 0
  deriving DecidableEq, Repr

/-! ### Ingress -/

/-- An interface table entry (R67). -/
structure Iface where
  mac     : Nat
  vlan    : Nat
  ipv4    : U32
  prefix4 : Nat
  arpCopy : Bool
  echo    : Bool
  macAddr : BitVec 48
  ipv6a   : BitVec 128
  ipv6b   : BitVec 128
  deriving DecidableEq, Repr

/-- A demux entry (R74) with its SSRC latch (R75). -/
structure Dmx where
  kind      : Nat
  family    : Nat
  ssrcMode  : Nat
  copyRtcp  : Bool
  port      : U16
  sitter    : Nat
  ssrc      : U32
  vlan      : U16
  ports     : Byte
  payload   : Byte
  dst       : BitVec 128
  src       : BitVec 128
  reorderMs : U16
  timeMode  : Byte
  srTimeout : Byte
  arrivalOffset : U32
  latch     : Option U32 := none
  deriving DecidableEq, Repr

/-- The interface a frame leaves from: its number, its MAC and VLAN, and its source address (R67, R69). -/
structure Via where
  iface : Nat
  mac   : Nat
  vlan  : Nat
  src   : BitVec 48
  deriving DecidableEq, Repr

/-- What the stack puts on the wire (R69, R70, R73, R41). -/
inductive NetOut where
  | arpReply (via : Via) (dest : BitVec 48) (addr : U32)
  | ndAdvert (via : Via) (dest : BitVec 48) (addr : BitVec 128)
  | echoReply (via : Via) (dest : BitVec 48) (addr : BitVec 128) (payload : Nat)
  /-- a report of a group with its sources, by a version of IGMP or MLD; no source: EXCLUDE of the empty set -/
  | groupReport (iface version : Nat) (group : BitVec 128) (sources : List (BitVec 128))
  /-- the answer to a group-and-source-specific query: the queried sources that the membership takes -/
  | sourceReport (iface version : Nat) (group : BitVec 128) (sources : List (BitVec 128))
  | groupLeave (iface version : Nat) (group : BitVec 128)
  | delayReq (via : Via) (seq : U16)
  | raw (mac : Nat) (bytes : List Byte)
  deriving DecidableEq, Repr

/-- A querier of an older version was heard on an interface (R70; RFC 3376 and RFC 3810): until when, by the ML8's clock. -/
structure OldQuerier where
  iface   : Nat
  v6      : Bool
  version : Nat
  until_  : Nat
  deriving DecidableEq, Repr

/-- One Ethernet port (R66). -/
structure Port where
  link      : BitVec 4 := 0
  trainFail : Bool := false
  deriving DecidableEq, Repr

/-- The ingress engine's device-wide state. -/
structure Ingress where
  ports    : Tbl Port := []
  ifaces   : Tbl Iface := []
  dmx      : Tbl Dmx := []
  /-- membership pairs of interface and group, with the sources of an INCLUDE (R70) -/
  members  : List (Nat × BitVec 128 × List (BitVec 128)) := []
  /-- second state-change reports still to be sent -/
  reports  : List (Nat × BitVec 128) := []
  macCnt   : Tbl (BitVec 48) := []
  sprxProd : U64 := 0
  sprxCons : U64 := 0
  sptxProd : U64 := 0
  sptxCons : U64 := 0
  sprxDrop : BitVec 48 := 0
  /-- datagrams that matched no entry (R96), and transmit entries discarded (R410) -/
  unmatched : BitVec 48 := 0
  sptxDrop : BitVec 48 := 0
  queriers : List OldQuerier := []
  /-- unmatched datagrams and echo replies admitted in second `rateSec` of that clock (R69, R72) -/
  rateSec  : Nat := 0
  spUsed   : Nat := 0
  echoUsed : Tbl Nat := []
  sent     : List NetOut := []
  deriving DecidableEq, Repr

/-- An RTP packet without its contributing sources, header extension and padding (R79). -/
structure RtpPkt where
  payloadType : Nat
  seq         : U16
  ts          : U32
  ssrc        : U32
  marker      : Bool
  /-- bytes of the whole packet -/
  bytes       : Nat
  payload     : List Byte
  deriving DecidableEq, Repr

/-- A packet in a reorder window (R84). -/
structure WinPkt where
  ext     : Int
  ts      : Int
  pkt     : RtpPkt
  arrival : U64
  deriving DecidableEq, Repr

/-- An access unit being put together (R80). -/
structure AuBuild where
  ts      : Int
  bytes   : List Byte
  marks   : U16
  arrival : U64
  fragOpen : Bool
  deriving DecidableEq, Repr

/-- A complete access unit in the elementary-stream ring (R80, R92). -/
structure Au where
  index       : U64
  capture     : U64
  arrival     : U64
  marks       : U16
  bytes       : List Byte
  disposition : Nat
  reason      : Byte
  deriving DecidableEq, Repr

/-- A sitter's ingress state (R80 to R91). -/
structure SitIng where
  /-- head of the reorder window; none before the first accepted packet -/
  head     : Option Int := none
  hiSeq    : Int := 0
  hiTs     : Option Int := none
  window   : List WinPkt := []
  /-- the far-off packet that waits for confirmation (R85) -/
  farSeq   : Option U16 := none
  /-- access unit in progress, and the marks that the next one starts with -/
  build    : Option AuBuild := none
  nextMarks : U16 := 0
  /-- c_sr, t_sr and the ingress clock at acceptance of the last sender report (R87) -/
  sr       : Option (Int × Int × Nat) := none
  prevCapture : Option U64 := none
  /-- arrival stamp of the last injection (R59) -/
  prevArrival : Option U64 := none
  nextIndex : U64 := 0
  params   : List Byte := []
  paramsDue : Bool := false
  esBytes  : Nat := 0
  esUsed   : Nat := 0
  queue    : List Au := []
  cnt      : Tbl (BitVec 48) := []
  deriving DecidableEq, Repr

/-! ### Sitters and decoding -/

/-- A picture in the decoder's DPB (R105, R114). -/
structure DpbPic where
  slot : Nat
  poc  : Int
  d    : Nat
  deriving DecidableEq, Repr

/-- A picture that waits to leave the decoder in output order, with the number of pictures decoded since (R105). -/
structure OutPic where
  au   : U64
  poc  : Int
  late : Nat := 0
  deriving DecidableEq, Repr

/-- A recovery point not yet reached (R118): a number of frames after a frame_num, or an order count. -/
inductive Recovery where
  | frames (start count : Nat)
  | order (poc : Int)
  deriving DecidableEq, Repr

/-- A decoded picture that framing holds (R105, R138). -/
structure Held where
  au      : U64
  slot    : Nat
  capture : U64
  dispX   : Nat
  dispY   : Nat
  dispW   : Nat
  dispH   : Nat
  codedW  : Nat
  codedH  : Nat
  chroma  : Chroma
  jpeg    : Bool
  /-- crops taken and not yet cut, and whether the LAST list has been taken -/
  crops   : Nat := 0
  lastSeen : Bool := false
  /-- deadline of the admitted frame; none before admission -/
  deadline : Option U64 := none
  deriving DecidableEq, Repr

/-- How far a frame has come (R116, R324, R350). -/
inductive FramePhase where
  | coded
  | decoding
  | waiting
  | ready
  | admitted
  | reported
  | dropped
  deriving DecidableEq, Repr

/-- A frame of a sitter, from its access unit's completion until its group is written (R349, R351). -/
structure FrameRec where
  au        : U64
  capture   : U64
  fromArrival : Bool
  adjusted  : Bool
  disposition : Nat := 0
  force     : Byte := 0
  arrival   : U64 := 0
  phase     : FramePhase := .coded
  o         : Nat := 0
  d         : Nat := 0
  concealed : Nat := 0
  /-- damage notice due, with the threshold that gave it (R115) -/
  damage    : Option Nat := none
  /-- staleness limit in µs that the admitting scan read (R318) -/
  staleUs   : Nat := 0
  deadline  : U64 := 0
  sitting   : U64 := 0
  /-- drop reason and origin, once dropped -/
  reason    : Byte := 0
  origin    : Byte := 0
  shapeVar  : U16 := 0xFFFF
  value     : U32 := 0
  /-- the accepted result block's bytes, once taken (R347) -/
  block     : List Byte := []
  /-- the sitter's epoch count when its block was taken (R358) -/
  gen       : Nat := 0
  deriving DecidableEq, Repr

/-- A frame of an older registration that the partition still holds in a batch (R317, R348). -/
structure Orphan where
  sitter  : Nat
  au      : U64
  sitting : U64
  deriving DecidableEq, Repr

/-- A sitter table entry (R316) with the sitter's ingress and decoding state. -/
structure Sitter where
  /-- 0 FREE, 1 JOINING, 2 RUNNING -/
  state      : Nat := 0
  partition  : Nat := 0
  codec      : Nat := 0
  flags      : Byte := 0
  maxWidth   : Nat := 0
  maxHeight  : Nat := 0
  maxRefs    : Nat := 0
  bitDepth   : Nat := 0
  hold       : Nat := 0
  resultRing : Nat := 0
  archiveRing : Nat := 0
  damageTh   : Nat := 0
  staleUs    : Nat := 0
  budgetUs   : Nat := 0
  /-- what the entry shows: the values of the last frame record; of a FREE entry that has been registered, its last epoch (R345, R506) -/
  epoch      : U16 := 0xFFFF
  known      : Bool := false
  nextTrack  : U32 := 0
  /-- the track epoch that runs, with its first ID; epochs begun; and epoch count and epoch of the last frame record (R345, R358) -/
  curEpoch   : U16 := 0xFFFF
  curTrack   : U32 := 0
  epochs     : Nat := 0
  lastRec    : Option (Nat × U16) := none
  /-- the values that a replay registration supplied (R63) -/
  regEpoch   : U16 := 0xFFFF
  regTrack   : U32 := 0
  trackerState : U64 := 0
  slots      : U64 := 0
  slotBytes  : Nat := 0
  esKib      : Nat := 0
  esAddr     : U64 := 0
  ing        : SitIng := {}
  /-- bounds registers (R112): start and length of the sitter's slots -/
  bounds     : Nat × Nat := (0, 0)
  /-- stored parameter sets: sequence, picture, and the H.265 video sets with their bytes (R106) -/
  sets       : List ParamSet := []
  pics       : List PicSet := []
  videos     : List (Nat × Nat) := []
  /-- identifiers of sequence and picture sets that a rejection invalidated (R111) -/
  badSets    : List Nat := []
  badPics    : List Nat := []
  /-- sets stored again after a rejection: their pictures resume at a join point (R111) -/
  rejoin     : List Nat := []
  /-- waits for the first join point after a conforming set with this identifier (R111) -/
  joinNeeds  : Option Nat := none
  /-- recovery points signalled and not reached (R118) -/
  recoveries : List Recovery := []
  /-- order count of the picture at which a recovery-point join completed: pictures before it are not analysed (R118) -/
  joinPoc    : Option Int := none
  /-- picture order count and frame number of the last picture (R106) -/
  lastPoc    : Int := 0
  lastFrameNum : Nat := 0
  /-- RASL pictures of the last random-access picture cannot be decoded (R118) -/
  rasl       : Bool := false
  /-- the active sequence parameter set -/
  active     : Option ParamSet := none
  dpb        : List DpbPic := []
  held       : List Held := []
  /-- pictures decoded and not yet delivered in output order -/
  output     : List OutPic := []
  engine     : Option Nat := none
  /-- running stillness map (R122): offset in the pool and its counters -/
  stillOff   : Nat := 0
  stillLen   : Nat := 0
  decCnt     : Tbl (BitVec 48) := []
  frames     : List FrameRec := []
  deriving DecidableEq, Repr

/-- A picture on an engine (R98). -/
structure DecodeJob where
  sitter : Nat
  au     : Au
  pic    : PicDesc
  slot   : Nat
  /-- damage threshold and DROP action read at the start (R115) -/
  th     : Nat
  drop   : Bool
  /-- missing references built at its start (R109) -/
  built  : Nat := 0
  deriving DecidableEq, Repr

/-- A video or JPEG engine (R126). -/
structure Engine where
  job      : Option DecodeJob := none
  on       : Bool := false
  lastSitter : Option Nat := none
  pictures : BitVec 48 := 0
  busyUs   : BitVec 48 := 0
  deriving DecidableEq, Repr

/-- A slot waiting for a framing unit, or on one (R127, R142). -/
structure SlotJob where
  part    : Nat
  queue   : Nat
  buf     : Nat
  slot    : Nat
  sitter  : Nat
  au      : U64
  capture : U64
  deadline : U64
  profile : Nat
  /-- source box in quarter pixels, scaled by its augmentation record; none: empty -/
  box     : Option (Int × Int × Int × Int)
  /-- the augmentation record, 24 bytes; empty for none -/
  aug     : List Byte
  /-- the picture it is cut from -/
  pic     : Held
  /-- staleness limit in µs of the second check; none: not checked -/
  staleUs : Option Nat
  sitting : U64
  instant : U64
  /-- the sitter was deleted or registered again after the make-up was fixed (R143) -/
  gone    : Bool := false
  deriving DecidableEq, Repr

/-- A framing unit. -/
structure FrameUnit where
  job : Option SlotJob := none
  on  : Bool := false
  deriving DecidableEq, Repr

/-- A flow request on a motion search engine (R343). -/
structure FlowJob where
  part   : Nat
  sitter : Nat
  /-- device address of the completion flag -/
  flag   : Option Nat
  cur    : U64
  ref    : U64
  dst    : U64
  /-- the flow field of the two pictures -/
  field  : List Byte
  deriving DecidableEq, Repr

/-- A motion search engine. -/
structure FlowUnit where
  job : Option FlowJob := none
  on  : Bool := false
  deriving DecidableEq, Repr

/-- MED's engines and pending work. -/
structure Med where
  engines : Tbl Engine := []
  fus     : Tbl FrameUnit := []
  mss     : Tbl FlowUnit := []
  slots   : List SlotJob := []
  /-- the context cache: the sitter of each entry (R106) -/
  contexts : Tbl Nat := []
  deriving DecidableEq, Repr

/-! ### Ateliers and partitions -/

/-- A software atelier descriptor (R28); the built-in ones are computed (R26). -/
structure Atelier where
  entry   : Nat
  members : List U16
  /-- partition whose package's loader defined it (R35) -/
  loader  : Option Nat := none
  deriving DecidableEq, Repr

/-- A prepared-batch buffer as MED follows it (R142): its slot count, the slots named so far, and those filled or masked. -/
structure BufInfo where
  count : Nat := 0
  named : List Nat := []
  done  : List Nat := []
  deriving DecidableEq, Repr

/-- Where a partition stands (R322). -/
inductive PartState where
  | empty | ready | running | restarting | failed
  deriving DecidableEq, Repr

/-- Why a partition restarts (R358, R457). -/
structure PartCause where
  cause  : Byte
  fault  : Byte := 0
  easel  : U16 := 0xFFFF
  detail : U64 := 0
  /-- exception record kept (R187), 64 bytes -/
  exc    : List Byte := []
  others : Nat := 0
  /-- words that caused the restart (R397) -/
  words  : List Nat := []
  /-- the partition was READY -/
  idle   : Bool := false
  deriving DecidableEq, Repr

/-- A stage as the loader assigned it (R292). -/
structure StageRun where
  unit   : U16
  leaves : List Nat
  entry  : Nat
  deriving DecidableEq, Repr

/-- The package a partition holds (R296, R314). -/
structure Pkg where
  bytes    : List Byte
  digest   : List Byte
  copyAddr : Nat
  regions  : List Nat
  stages   : List StageRun
  ateliers : List Nat
  training : Bool
  deriving DecidableEq, Repr

/-- An adaptation job (R363). -/
structure Job where
  job      : U32
  weights  : Nat
  batch    : Nat
  steps    : Nat
  progress : Nat
  order    : U64
  stateA   : U64
  stateB   : U64
  exportTo : U64
  optimiser : Nat
  master   : Nat
  stateBytes : U64
  lr       : U32
  beta1    : U32
  beta2    : U32
  eps      : U32
  decay    : U32
  /-- the descriptor as it was given -/
  desc     : List Byte
  done     : Nat := 0
  loss     : U32 := 0
  /-- restarts in a row without a completed step (R366) -/
  restarts : Nat := 0
  deriving DecidableEq, Repr

/-- A sitting that has run its scan and has stages still to complete (R328). -/
structure SittingRun where
  number  : U64
  instant : U64
  /-- stages whose dispatch has not completed -/
  open_   : List U16
  /-- a training sitting: its step, or the export sitting (R365, R370) -/
  step    : Option Nat := none
  deriving DecidableEq, Repr

/-- A partition (R321, R322). -/
structure Part where
  state     : PartState := .empty
  be        : Bool := false
  replay    : Bool := false
  affinity  : Bool := false
  /-- class weights of the phase that governs lending (R336, R54) -/
  lcWeight  : Nat := 255
  beWeight  : Nat := 255
  root      : U16 := 0
  maxSitters : Nat := 0
  period    : Nat := 50
  offset    : Nat := 0
  lendLead  : Nat := 0
  /-- memory ranges: group, first granule, count -/
  mem       : List (Nat × Nat × Nat) := []
  /-- Gallery granules held: (die, granule) -/
  gallery   : List (Nat × Nat) := []
  chunkRing : U64 := 0
  chunkEntries : Nat := 0
  pkg       : Option Pkg := none
  sitting   : U64 := 0
  framingWait : BitVec 48 := 0
  planWait  : BitVec 48 := 0
  overrun   : BitVec 48 := 0
  duplicate : BitVec 48 := 0
  restarts  : U64 := 0
  /-- first store time from which sittings run (R48, R49, R322) -/
  from_     : U64 := 0
  run       : Option SittingRun := none
  virtualTime : U64 := 0
  /-- REPLAY_ADVANCE in progress: queue, command and T -/
  advance   : Option (Nat × U32 × U64) := none
  /-- PART_STOP waits for the sitting or the restart to end: queue and command -/
  stopping  : Option (Nat × U32) := none
  cause     : Option PartCause := none
  /-- weight sections waiting for the next scan: section index, bytes, new digest (R371) -/
  swaps     : List (Nat × List Byte × List Byte) := []
  /-- marks set by PBQ_MARK since the load (R145) -/
  marks     : Tbl Nat := []
  /-- buffers of its queues; key 256 queue + buffer -/
  bufs      : Tbl BufInfo := []
  cropTaken : U32 := 0
  flowTaken : U32 := 0
  emitTaken : U32 := 0
  orphans   : List Orphan := []
  /-- sample set in force: its area's address and bytes, and the number of samples (R361) -/
  samples   : Option (U64 × Nat × Nat) := none
  job       : Option Job := none
  /-- chunks completed out of ring order, and chunks on loan: absolute ring indices (R331) -/
  chunkDone : List Nat := []
  chunkOut  : List Nat := []
  /-- kept exception record (DBG_EXC) and its valid bit -/
  exc       : List Byte := []
  excValid  : Bool := false
  deriving DecidableEq, Repr

/-- Who issued a dispatch (R179, R328, R333). -/
inductive Issuer where
  | easel (e : Nat) (bit : Nat)
  | sitting (p : Nat)
  | chunk (p : Nat) (index : Nat)
  deriving DecidableEq, Repr

/-- A dispatch that has not completed (R31, R32). -/
structure Disp where
  unit   : U16
  entry  : Nat
  arg    : U64
  issuer : Issuer
  part   : Nat
  /-- leaves it has not reached, and leaves that have not halted, in expansion order -/
  toStart : List Nat
  running : List Nat
  deriving DecidableEq, Repr

/-! ### Easels -/

/-- What a running Easel waits for. -/
inductive Stall where
  | none
  | flag (off : Nat) (gen : U32)
  | doorbell
  | barrier (unit : U16)
  | halting
  deriving DecidableEq, Repr

/-- A tensor movement operation as captured at issue (R180). -/
structure TrackOp where
  put   : Bool
  desc  : BitVec 256
  o     : U64
  rl    : U64
  dev   : Bool
  ta    : Nat
  tb    : Nat
  /-- Gallery offset of the completion flag and its generation -/
  flag  : Option (Nat × U32)
  /-- device bytes that a FETCH has read before another track's operation wrote them (R280) -/
  seen  : List (Nat × Byte) := []
  deriving DecidableEq, Repr

/-- A STROKE or EWISE as captured at issue (R180, R204). -/
structure StrokeOp where
  ewise : Bool
  clr   : Bool
  neg   : Bool
  lt    : Bool
  mode  : Nat
  lf    : Nat
  tf    : Nat
  k     : Nat
  baseL : Nat
  baseT : Nat
  pL    : Nat
  pT    : Nat
  deriving DecidableEq, Repr

/-- An entry of the stroke queue (R208). -/
inductive FrontOp where
  | stroke (s : StrokeOp)
  | swap
  deriving DecidableEq, Repr

/-- An entry of the back queue (R208). -/
inductive BackOp where
  | zero
  | rowv (v : Lanes)
  | colv (v : Lanes)
  | loadLs (addr : Nat) (t : Bool)
  | drainV (first n start : Nat) (t : Bool)
  | drainLs (addr : Nat) (t : Bool)
  deriving DecidableEq, Repr

/-- A queued Palette instruction with its captured operands (R235, R236). -/
inductive PalOp where
  /-- results of a lane instruction: vector writes, scalar write, flags -/
  | write (vs : List (Nat × Lanes)) (s : Option (Nat × U64)) (flags : BitVec 5)
  | load (a : Nat) (fmt : Nat) (addr : Nat)
  | store (v : Lanes) (fmt : Nat) (addr : Nat)
  | tensor (form : Nat) (block : List Byte)
  deriving DecidableEq, Repr

/-- What a lender's Easel gets back when a loan ends (R333, R334), its registers among it (R188). -/
structure Loan where
  lender : Nat
  borrower : Nat
  index  : Nat
  db     : U32
  mask   : U32
  mbx    : Mbx
  wdog   : U32
  pc     : Nat
  s      : Tbl U64
  p      : Byte
  v      : Tbl Lanes
  d      : Tbl (BitVec 256)
  disp   : U32
  lend   : U32
  user   : Tbl U64
  plFlags : BitVec 5
  cvCount : U64
  prDone  : U64
  iBase  : Nat
  iSize  : Nat
  lBase  : Nat
  lSize  : Nat
  deriving DecidableEq, Repr

/-- A logical Easel (R150, R152). -/
structure Easel where
  powered  : Bool := false
  running  : Bool := false
  stall    : Stall := .none
  pc       : Nat := 0
  s        : Tbl U64 := []
  p        : Byte := 0
  v        : Tbl Lanes := []
  d        : Tbl (BitVec 256) := []
  front    : List (BitVec 32) := []
  back     : List (BitVec 32) := []
  /-- ECR_CVSTAT.FRONT: physical set serving as the front canvas -/
  frontIx  : Bool := false
  cvFlags  : BitVec 3 := 0
  cvCount  : U64 := 0
  plFlags  : BitVec 5 := 0
  prDone   : U64 := 0
  disp     : U32 := 0
  db       : U32 := 0
  dbMask   : U32 := 0
  mbx      : Mbx := {}
  wdog     : U32 := 0
  /-- ns that the watchdog has counted (R185) -/
  wdogNs   : Nat := 0
  /-- Easel clock cycles since the partition's last restart, in thousandths (R152) -/
  cycles   : Nat := 0
  /-- cycles of the present shift interval, in thousandths: those in which it was on, and those in which it ran a dispatch of its own partition (R487) -/
  spanCyc  : Nat := 0
  busyCyc  : Nat := 0
  lend     : U32 := 0
  user     : Tbl U64 := []
  ls       : Cells := []
  is       : Cells := []
  tracks   : Tbl (List TrackOp) := []
  frontQ   : List FrontOp := []
  /-- back queue; the number counts the SWAPs in the stroke queue that were issued before the entry (R203) -/
  backQ    : List (Nat × BackOp) := []
  palQ     : List PalOp := []
  loan     : Option Loan := none
  /-- partition of the dispatch the leaf last ran (R337) -/
  lastPart : Option Nat := none
  /-- ns on loan in the lender's current sitting period (R336) -/
  loanNs   : Nat := 0
  deriving DecidableEq, Repr

/-- A Primer job (R259, R261). -/
structure PrimerJob where
  easel : Nat
  block : List Byte
  flag  : Option (Nat × U32)
  part  : Nat
  /-- the launching instruction: its offset and its bits (R186) -/
  pc    : Nat := 0
  insn  : U64 := 0
  started : Bool := false
  /-- activation codes, read when the job starts (R264) -/
  acts  : List Nat := []
  deriving DecidableEq, Repr

/-! ### Memory, power, security -/

/-- A GDDR6 bank (R387): open row, page-policy history, refreshes made. -/
structure Bank where
  openRow : Option Nat := none
  hist    : BitVec 4 := 3
  refreshes : U64 := 0
  deriving DecidableEq, Repr

/-- Device memory (R18, R374 to R398). -/
structure Mem where
  /-- GDDR6, Galleries and MED SRAM by device physical address; an unlisted byte reads 0 -/
  dev      : Cells := []
  /-- state of each memory group: 0 ACTIVE, 1 RETAINED, 2 RELEASED -/
  groups   : Tbl Nat := []
  /-- groups moving to a target state (R393) -/
  moving   : Tbl Nat := []
  /-- groups whose return to ACTIVE a PART_LOAD or PART_START waits for are in moving as well -/
  banks    : Tbl Bank := []
  retracks : Tbl U64 := []
  /-- the scrubber's next device address, and the groups it visits first, each with its next address (R378, R390) -/
  scrubAt  : Nat := 0
  scrubFirst : List (Nat × Nat) := []
  /-- allocations of the Curator: (address, bytes) (R536) -/
  allocs   : List (Nat × Nat) := []
  /-- freed memory still to be zeroed (R379) -/
  zeroing  : List (Nat × Nat) := []
  /-- Gallery granules freed and still to be zeroed -/
  zeroGal  : List (Nat × Nat) := []
  /-- injected flips: (word address, bit positions) (R398) -/
  flips    : Tbl (List Nat) := []
  /-- key 0x100 d + 0x10 a + c (R380) -/
  eccCnt   : Tbl (BitVec 48) := []
  errLog   : Tbl (List Byte) := []
  errCount : U64 := 0
  /-- work counters (R172): key 16 unit + c, value (next, limit) -/
  counters : Tbl (U32 × U32) := []
  /-- barrier arrivals and generations by unit (R177, R28) -/
  arrived  : Tbl (List Nat) := []
  barGen   : Tbl U32 := []
  deriving DecidableEq, Repr

/-- An operating-point change in progress (R482). -/
structure OpChange where
  die : Nat
  to_ : Nat
  deriving DecidableEq, Repr

/-- Power and heat (R477 to R493). -/
structure Power where
  ops      : Tbl Nat := []
  temps    : Tbl Int := []
  /-- occupancy of a compute die over the last shift interval: cycles in dispatches, and all cycles (R487) -/
  occ      : Tbl (Nat × Nat) := []
  /-- the last samples of the regulators' power, 0.1 W, newest first -/
  samples  : List Nat := []
  change   : Option OpChange := none
  todo     : List OpChange := []
  regFault : Bool := false
  railMissing : Bool := false
  skew     : Bool := false
  hot      : Bool := false
  alertPin : Bool := false
  alert    : Bool := false
  changes  : BitVec 48 := 0
  alerts   : BitVec 48 := 0
  retrains : BitVec 48 := 0
  /-- end temperatures of each link at its last training (R493) -/
  linkTemps : Tbl (Int × Int) := []
  /-- links asked to retrain -/
  retrainDue : List Nat := []
  /-- VOUT_COMMANDs sent: (regulator address, mV) -/
  vout     : Tbl Nat := []
  deriving DecidableEq, Repr

/-- A measurement log entry (R472). -/
structure MeasEntry where
  reg     : Nat
  kind    : Byte
  subject : U16
  index   : U32
  time    : U64
  sitting : U64
  d       : List Byte
  deriving DecidableEq, Repr

/-- The security block (R460 to R476). -/
structure Sec where
  idReady    : Bool := false
  identityKey : List Byte := []
  certBad    : Bool := false
  recoveryRun : Bool := false
  logOverflow : Bool := false
  /-- numbers of the licences in force -/
  accepted   : List U64 := []
  rejected   : Byte := 0
  features   : BitVec 4 := 0
  tier       : Nat := 0
  /-- the running manifest (R463): release, Subsystem Vendor ID, Subsystem ID, digests of the Curator image and the Easel image -/
  release    : U32 := 0
  subsys     : U16 × U16 := (0, 0)
  curatorDigest : List Byte := []
  easelDigest : List Byte := []
  /-- the Easel image in HUB SRAM (R447) -/
  easelImage : List Byte := []
  /-- topology of the device certificate, when it was accepted (R467, R468) -/
  topology   : Option Topology := none
  /-- registers M0 to M7 (unlisted: zero), their extension counts, and the measurement log -/
  m          : Tbl (List Byte) := []
  counts     : Tbl U32 := []
  log        : List MeasEntry := []
  flrs       : U32 := 0
  deriving DecidableEq, Repr

/-- The ML8. (Log 8 DESIGN CHOICE, 102 DESIGN CHOICE) -/
structure State where
  /-- commands that wait, first in first out -/
  pending    : List Instr := []
  /-- the model's own counter: the index of the next free value -/
  free       : Nat := 0
  /-- ns of SYS_CLK since the part has run: the clock of everything that steps of store time do not move (R84, R88, R45) -/
  clock      : Nat := 0
  boot       : Boot := {}
  board      : Board := {}
  pcie       : Pcie := {}
  host       : HostIf := {}
  tb         : Timebase := {}
  ing        : Ingress := {}
  sitters    : Tbl Sitter := []
  med        : Med := {}
  ateliers   : Tbl Atelier := []
  parts      : Tbl Part := []
  disps      : List Disp := []
  easels     : Tbl Easel := []
  primers    : Tbl (List PrimerJob) := []
  /-- partition that received the previous loan (R333) -/
  lastLoan   : Nat := 15
  mem        : Mem := {}
  pwr        : Power := {}
  sec        : Sec := {}
  deriving DecidableEq, Repr

/-- The machine right after reset: every register at its Reset column, no command waiting, memory with nothing listed. (Log 1 DESIGN CHOICE, 9 DESIGN CHOICE, 10 DESIGN CHOICE, 11 PRESUMED) -/
def State.reset : State := {}

end Sys2Proof.Machine
end

