-- ==== Sys2Proof/Machine/Table.lean ====
section
/-!
DEFINITION. Sparse tables and byte memories: reading, writing, and the canonical form (ascending keys, no entry equal to the
default) that every write keeps. `Memory` names the same operations on bytes.
-/
namespace Sys2Proof.Machine

/-- The value a sparse table holds at key `k`; `d` where nothing is listed. -/
def tget {α : Type} (d : α) : Tbl α → Nat → α
  | [], _ => d
  | (j, v) :: t, k => if j = k then v else tget d t k

/-- The table without an entry for `k`. -/
def terase {α : Type} : Tbl α → Nat → Tbl α
  | [], _ => []
  | (j, v) :: t, k => if j = k then terase t k else (j, v) :: terase t k

/-- The table with `v` listed at `k`, in key order. -/
def tinsert {α : Type} : Tbl α → Nat → α → Tbl α
  | [], k, v => [(k, v)]
  | (j, w) :: t, k, v =>
    if k < j then (k, v) :: (j, w) :: t
    else if k = j then (k, v) :: t
    else (j, w) :: tinsert t k v

/-- The table with value `v` at `k`: an entry equal to the default is not listed. -/
def tset {α : Type} [DecidableEq α] (d : α) (t : Tbl α) (k : Nat) (v : α) : Tbl α :=
  if v = d then terase t k else tinsert t k v

/-- The entry of a table at key `k`, if one is listed. -/
def tfind {α : Type} : Tbl α → Nat → Option α
  | [], _ => none
  | (j, v) :: t, k => if j = k then some v else tfind t k

/-- The canonical form of a table. -/
def tsorted {α : Type} [DecidableEq α] (d : α) : Tbl α → Bool
  | [] => true
  | (j, v) :: t => v ≠ d && t.all (fun x => decide (j < x.1)) && tsorted d t

/-- The canonical form of a byte memory whose unlisted bytes read `d` (R379: device memory reads zero before it is written; erased
flash reads 0xFF). -/
def Memory.wf (d : Byte) (c : Cells) : Bool := tsorted d c

/-- The byte of a memory at an address. (Log 13 DESIGN CHOICE) -/
def mread (d : Byte) (c : Cells) (a : Nat) : Byte := tget d c a

/-- A memory with one byte written. -/
def mwrite (d : Byte) (c : Cells) (a : Nat) (b : Byte) : Cells := tset d c a b

/-- `n` bytes from address `a`. -/
def mreadN (d : Byte) (c : Cells) (a n : Nat) : List Byte := (List.range n).map (fun i => mread d c (a + i))

/-- Bytes written from address `a` on. -/
def mwriteN (d : Byte) (c : Cells) (a : Nat) : List Byte → Cells
  | [] => c
  | b :: bs => mwriteN d (mwrite d c a b) (a + 1) bs

/-- A memory with `n` bytes from `a` back at the unlisted value. -/
def mclear (c : Cells) (a n : Nat) : Cells := c.filter (fun x => x.1 < a || a + n ≤ x.1)

/-- Bytes written at the listed addresses, in order. -/
def mwriteL (d : Byte) (c : Cells) : List (Nat × Byte) → Cells
  | [] => c
  | (a, b) :: l => mwriteL d (mwrite d c a b) l

/-- The little-endian value of bytes (R4). -/
def leNat : List Byte → Nat
  | [] => 0
  | b :: bs => b.toNat + 256 * leNat bs

/-- `n` little-endian bytes of a value (R4). -/
def leBytes : Nat → Nat → List Byte
  | 0, _ => []
  | n + 1, v => BitVec.ofNat 8 v :: leBytes n (v / 256)

/-- A little-endian value of `n` bytes at an address. -/
def mreadLE (d : Byte) (c : Cells) (a n : Nat) : Nat := leNat (mreadN d c a n)

/-- A little-endian value of `n` bytes written at an address. -/
def mwriteLE (d : Byte) (c : Cells) (a n v : Nat) : Cells := mwriteN d c a (leBytes n v)

/-- Bytes `off` to `off + n - 1` of a block, little-endian; bytes beyond the block are 0. -/
def fieldLE (b : List Byte) (off n : Nat) : Nat := leNat ((List.range n).map (fun i => b.getD (off + i) 0))

/-- `n` bytes of a block from `off`, zeros beyond its end. -/
def fieldBytes (b : List Byte) (off n : Nat) : List Byte := (List.range n).map (fun i => b.getD (off + i) 0)

/-- Bits `hi` to `lo` of a number. -/
def bits (v hi lo : Nat) : Nat := (v / 2 ^ lo) % 2 ^ (hi + 1 - lo)

/-- One bit of a number. -/
def bitAt (v i : Nat) : Bool := (v / 2 ^ i) % 2 = 1

/-- Round to nearest, ties to even (R6), of n / d for d > 0. -/
def rneDiv (n d : Int) : Int :=
  let q := n / d
  let r := 2 * (n % d)
  if d < r || (r = d && q % 2 = 1) then q + 1 else q

/-- Every byte is zero. -/
def allZero (b : List Byte) : Bool := b.all (· = 0)

end Sys2Proof.Machine
end

