-- ==== Sys2Proof/Machine/Float.lean ====
section
/-!
DEFINITION. The number formats of the ML8 (R215 to R221), arithmetic that is exact before its one rounding (R6, R197, R218, R239),
the activation tables (R243 to R245), and the per-row quantiser (R225, R228). A real number that a float stands for is held
as sign, magnitude and exponent, so that rounding happens in `roundBits` and nowhere else.
-/
namespace Sys2Proof.Machine

/-- A binary floating format (R217): precision with the hidden bit, exponent of the smallest subnormal, the code of the
largest exponent (infinity, or none for E4M3), and the canonical NaN (R218). -/
structure Fmt where
  width  : Nat
  prec   : Nat
  emin   : Int
  /-- magnitude code of infinity; for E4M3 the code after the largest finite one -/
  top    : Nat
  hasInf : Bool
  nan    : Nat
  deriving DecidableEq, Repr

def fmtE4M3 : Fmt := ⟨8, 4, -9, 0x7F, false, 0x7F⟩
def fmtE5M2 : Fmt := ⟨8, 3, -16, 0x7C, true, 0x7E⟩
def fmtBF16 : Fmt := ⟨16, 8, -133, 0x7F80, true, 0x7FC0⟩
def fmtFP16 : Fmt := ⟨16, 11, -24, 0x7C00, true, 0x7E00⟩
def fmtF32 : Fmt := ⟨32, 24, -149, 0x7F800000, true, 0x7FC00000⟩

/-- A float's value: `fin neg m e` is ±m × 2^e. -/
inductive FV where
  | nan
  | inf (neg : Bool)
  | fin (neg : Bool) (m : Nat) (e : Int)
  deriving DecidableEq, Repr

/-- The value of a code (R217). -/
def decodeF (f : Fmt) (code : Nat) : FV :=
  let neg := bitAt code (f.width - 1)
  let mag := code % 2 ^ (f.width - 1)
  if f.top < mag || (mag = f.top && !f.hasInf) then .nan
  else if mag = f.top then .inf neg
  else
    let ex := mag / 2 ^ (f.prec - 1)
    let fr := mag % 2 ^ (f.prec - 1)
    if ex = 0 then .fin neg fr f.emin
    else .fin neg (fr + 2 ^ (f.prec - 1)) (f.emin + (ex : Int) - 1)

/-- The magnitude code of m × 2^e (plus a fraction below one unit of m when `sticky`), rounded to nearest, ties to even, as
if the exponent had no upper bound (R6, R221). -/
def roundBits (f : Fmt) (m : Nat) (e : Int) (sticky : Bool) : Nat :=
  if m = 0 then 0
  else
    let l : Int := (Nat.log2 m : Int) + 1
    let q : Int := max (e + l - (f.prec : Int)) f.emin
    let n : Nat :=
      if q ≤ e then m * 2 ^ (e - q).toNat
      else
        let sh := (q - e).toNat
        let n := m / 2 ^ sh
        let r := m % 2 ^ sh
        let half := 2 ^ (sh - 1)
        if half < r || (r = half && (sticky || n % 2 = 1)) then n + 1 else n
    (q - f.emin).toNat * 2 ^ (f.prec - 1) + n

/-- The sign bit of a format. -/
def signBit (f : Fmt) (neg : Bool) : Nat := if neg then 2 ^ (f.width - 1) else 0

/-- A value rounded once into a format; overflow gives infinity (R219: FP32, BF16, FP16). -/
def encodeF (f : Fmt) : FV → Nat
  | .nan => f.nan
  | .inf neg => signBit f neg + f.top
  | .fin neg m e => signBit f neg + min (roundBits f m e false) f.top

/-- A saturating conversion and whether it saturated (R221, R219 for ±∞). -/
def encodeSat (f : Fmt) : FV → Nat × Bool
  | .nan => (f.nan, false)
  | .inf neg => (signBit f neg + (f.top - 1), true)
  | .fin neg m e =>
    let b := roundBits f m e false
    if f.top ≤ b then (signBit f neg + (f.top - 1), true) else (signBit f neg + b, false)

/-- The signed integer ±m × 2^(e - e0). -/
def fvInt (neg : Bool) (m : Nat) (e e0 : Int) : Int :=
  let v : Int := (m * 2 ^ (e - e0).toNat : Nat)
  if neg then -v else v

/-- Negation. -/
def fvNeg : FV → FV
  | .nan => .nan
  | .inf n => .inf (!n)
  | .fin n m e => .fin (!n) m e

/-- Exact sum; an exact zero is +0.0 unless both operands are −0.0 (R197). -/
def fvAdd : FV → FV → FV
  | .nan, _ => .nan
  | _, .nan => .nan
  | .inf a, .inf b => if a = b then .inf a else .nan
  | .inf a, .fin _ _ _ => .inf a
  | .fin _ _ _, .inf b => .inf b
  | .fin na ma ea, .fin nb mb eb =>
    let e := min ea eb
    let s := fvInt na ma ea e + fvInt nb mb eb e
    if s = 0 then .fin (ma = 0 && mb = 0 && na && nb) 0 e
    else .fin (s < 0) s.natAbs e

/-- Exact product. -/
def fvMul : FV → FV → FV
  | .nan, _ => .nan
  | _, .nan => .nan
  | .inf a, .inf b => .inf (a != b)
  | .inf a, .fin b m _ => if m = 0 then .nan else .inf (a != b)
  | .fin a m _, .inf b => if m = 0 then .nan else .inf (a != b)
  | .fin na ma ea, .fin nb mb eb => .fin (na != nb) (ma * mb) (ea + eb)

/-- The value of an FP32 register lane. -/
def fv (x : BitVec 32) : FV := decodeF fmtF32 x.toNat

/-- A value rounded once to FP32. -/
def rne32 (v : FV) : BitVec 32 := BitVec.ofNat 32 (encodeF fmtF32 v)

/-- rne_f32(a + b), rne_f32(a − b), rne_f32(a × b) (R218). -/
def fadd (a b : BitVec 32) : BitVec 32 := rne32 (fvAdd (fv a) (fv b))
def fsub (a b : BitVec 32) : BitVec 32 := rne32 (fvAdd (fv a) (fvNeg (fv b)))
def fmul (a b : BitVec 32) : BitVec 32 := rne32 (fvMul (fv a) (fv b))

def fIsNan (x : BitVec 32) : Bool := 0x7F800000 < x.toNat % 2 ^ 31
def fIsInf (x : BitVec 32) : Bool := x.toNat % 2 ^ 31 = 0x7F800000
def fIsZero (x : BitVec 32) : Bool := x.toNat % 2 ^ 31 = 0
def fNeg (x : BitVec 32) : Bool := x.msb
def fNan : BitVec 32 := 0x7FC00000
def fInf (neg : Bool) : BitVec 32 := if neg then 0xFF800000 else 0x7F800000
def fZero (neg : Bool) : BitVec 32 := if neg then 0x80000000 else 0
def fOne : BitVec 32 := 0x3F800000
def fAbs (x : BitVec 32) : BitVec 32 := x &&& 0x7FFFFFFF

/-- A magnitude m × 2^e, not exact when `sticky`, rounded to FP32 with a sign. -/
def round32 (neg : Bool) (m : Nat) (e : Int) (sticky : Bool) : BitVec 32 :=
  BitVec.ofNat 32 (signBit fmtF32 neg + min (roundBits fmtF32 m e sticky) fmtF32.top)

/-- rne_f32(a / b), correctly rounded (R239). -/
def fdiv (a b : BitVec 32) : BitVec 32 :=
  match fv a, fv b with
  | .nan, _ => fNan
  | _, .nan => fNan
  | .inf _, .inf _ => fNan
  | .inf na, .fin nb _ _ => fInf (na != nb)
  | .fin na _ _, .inf nb => fZero (na != nb)
  | .fin na ma ea, .fin nb mb eb =>
    if mb = 0 then (if ma = 0 then fNan else fInf (na != nb))
    else
      let n := ma * 2 ^ 60
      round32 (na != nb) (n / mb) (ea - eb - 60) (n % mb ≠ 0)

/-- The integer square root of v below 2^(2 n), by binary digits from the top: `root` holds the digits found. -/
def isqrtAux (v : Nat) : Nat → Nat → Nat
  | 0, root => root
  | n + 1, root =>
    let t := root + 2 ^ n
    if t * t ≤ v then isqrtAux v n t else isqrtAux v n root

/-- floor of the square root of v, for v below 2^(2 n). -/
def isqrt (n v : Nat) : Nat := isqrtAux v n 0

/-- The correctly rounded square root (R239); a negative non-zero operand gives the canonical NaN. -/
def fsqrt (a : BitVec 32) : BitVec 32 :=
  match fv a with
  | .nan => fNan
  | .inf n => if n then fNan else fInf false
  | .fin n m e =>
    if m = 0 then fZero n
    else if n then fNan
    else
      let odd : Bool := e % 2 ≠ 0
      let m' := (if odd then 2 * m else m) * 2 ^ 60
      let e' := if odd then e - 1 else e
      let r := isqrt 44 m'
      round32 false r ((e' - 60) / 2) (r * r ≠ m')

/-- Numerical order of two FP32 values that are not NaN, with −0.0 equal to +0.0. -/
def fLtV : FV → FV → Bool
  | .fin na ma ea, .fin nb mb eb => let e := min ea eb; fvInt na ma ea e < fvInt nb mb eb e
  | .inf a, .inf b => a && !b
  | .inf a, .fin _ _ _ => a
  | .fin _ _ _, .inf b => !b
  | _, _ => false

/-- x < y; false with a NaN (R239). -/
def fLt (x y : BitVec 32) : Bool := !fIsNan x && !fIsNan y && fLtV (fv x) (fv y)
/-- x = y; false with a NaN, −0.0 equals +0.0 (R239). -/
def fEq (x y : BitVec 32) : Bool := !fIsNan x && !fIsNan y && (x = y || (fIsZero x && fIsZero y))
def fLe (x y : BitVec 32) : Bool := fLt x y || fEq x y

/-- VFMIN and VFMAX: canonical NaN with a NaN operand, −0.0 below +0.0 (R239). -/
def fmin (x y : BitVec 32) : BitVec 32 :=
  if fIsNan x || fIsNan y then fNan
  else if fLt x y then x else if fLt y x then y else if fNeg x then x else y
def fmax (x y : BitVec 32) : BitVec 32 :=
  if fIsNan x || fIsNan y then fNan
  else if fLt x y then y else if fLt y x then x else if fNeg x then y else x

/-- i32 to FP32 (R219). -/
def i32ToF (x : BitVec 32) : BitVec 32 := rne32 (.fin x.msb x.toInt.natAbs 0)

/-- An integer as an FP32 value, rounded once. -/
def intToF (n : Int) : BitVec 32 := rne32 (.fin (n < 0) n.natAbs 0)

/-- rne_int (R220); infinities give ±2^62, for the caller to clamp. -/
def rneInt (x : BitVec 32) : Int :=
  match fv x with
  | .nan => 0
  | .inf n => if n then -(2 ^ 62 : Int) else 2 ^ 62
  | .fin n m e =>
    let v : Nat :=
      if 0 ≤ e then m * 2 ^ e.toNat
      else
        let sh := (-e).toNat
        let q := m / 2 ^ sh
        let r := m % 2 ^ sh
        let half := 2 ^ (sh - 1)
        if half < r || (r = half && q % 2 = 1) then q + 1 else q
    if n then -(v : Int) else v

/-- clamp. -/
def clampI (x lo hi : Int) : Int := max lo (min hi x)

/-- FP32 to an integer in a range, and whether it clamped (R219, R237 SAT). -/
def fToInt (x : BitVec 32) (lo hi : Int) : Int × Bool :=
  let v := rneInt x
  (clampI v lo hi, v < lo || hi < v)

/-- A narrow float code widened to FP32 (exact; NaN gives the canonical NaN) (R219). -/
def widenF (f : Fmt) (code : Nat) : BitVec 32 := rne32 (decodeF f code)

/-! ### Activation tables (R243) -/

/-- Bits of the fixed-point enclosure the table entries are formed with; 2^-256 lies far below the distance of any entry's exact
value from a rounding boundary. -/
def tblP : Nat := 256

/-- ln 2 and 1/√(2π), floor of 2^320 times the value. -/
def ln2C : Nat := 1480553391661173448385607439722553250922680800745876974795605978609098082859138712941075737848984
def invSqrt2PiC : Nat := 852135539018184763820396513245673747463731821652439675318870577517399952981679869195813084020151

/-- The sum of `term`, term·y/(n + 1), term·y²/((n + 1)(n + 2)), ... for `fuel` terms; y and the sum in units of 2^-tblP. -/
def expSum (y : Nat) : Nat → Nat → Nat → Nat
  | 0, _, _ => 0
  | fuel + 1, n, term => term + expSum y fuel (n + 1) (term * y / 2 ^ tblP / (n + 1))

/-- e^y in units of 2^-tblP for a y of at most 64 in the same units. (Log 92 DEDUCED) -/
def expFix (y : Nat) : Nat := expSum y 400 0 (2 ^ tblP)

/-- Σ x^(2n+1) / (1·3·…·(2n+1)), in units of 2^-tblP. (Log 92 DEDUCED) -/
def phiSum (x2 : Nat) : Nat → Nat → Nat → Nat
  | 0, _, _ => 0
  | fuel + 1, n, term => term + phiSum x2 fuel (n + 1) (term * x2 / 2 ^ tblP / (2 * n + 3))

/-- The four table functions. -/
inductive ActTable where
  | sig | tanh | phi | exp2
  deriving DecidableEq, Repr

/-- Units per 1.0 of the points a table's entries are taken at: half a segment (R243). -/
def tblUnits : ActTable → Nat
  | .sig => 16 | .tanh => 32 | .phi => 32 | .exp2 => 512

/-- The magnitude of a fixed-point value rounded to FP32; `exact` marks the points where it is exact. -/
def fixTo32 (neg : Bool) (v : Nat) (exact : Bool) : BitVec 32 := round32 neg v (-(tblP : Int)) (!exact)

/-- cr_f32(g(j / units)) (R243). (Log 92 DEDUCED) -/
def tblPoint (t : ActTable) (j : Int) : BitVec 32 :=
  let one := 2 ^ tblP
  let a := j.natAbs
  match t with
  | .sig =>
    let E := expFix (a * one / 16)
    if 0 ≤ j then fixTo32 false (E * one / (E + one)) (a = 0) else fixTo32 false (one * one / (E + one)) false
  | .tanh =>
    let E := expFix (a * one / 16)
    fixTo32 (j < 0) ((E - one) * one / (E + one)) (a = 0)
  | .phi =>
    let x := a * one / 32
    let x2 := a * a * one / 1024
    -- φ(x) = e^(-x²/2) / √(2π)
    let dens := one * (invSqrt2PiC / 2 ^ 64) / expFix (x2 / 2)
    let half := dens * phiSum x2 800 0 x / one
    if 0 ≤ j then fixTo32 false (one / 2 + half) (a = 0) else fixTo32 false (one / 2 - half) false
  | .exp2 => fixTo32 false (expFix (a * (ln2C / 2 ^ 64) / 512)) (a % 512 = 0)

/-- Left end and segment width of a table: a as an integer, h = 1 / 2^hbits. -/
def tblStart : ActTable → Int
  | .sig => -16 | .tanh => -8 | .phi => -8 | .exp2 => 0
def tblHBits : ActTable → Nat
  | .sig => 3 | .tanh => 4 | .phi => 4 | .exp2 => 8

/-- An integer times 2^e as a value. -/
def fvScaled (n : Nat) (e : Int) : FV := .fin false n e

/-- c0, c1 and c2 of segment k (R243): each expression is exact before its one rounding. (Log 92 DEDUCED) -/
def tblCoef (t : ActTable) (k : Nat) : BitVec 32 × BitVec 32 × BitVec 32 :=
  let j0 : Int := tblStart t * (tblUnits t : Int) + 2 * (k : Int)
  let f0 := tblPoint t j0
  let f1 := tblPoint t (j0 + 1)
  let f2 := tblPoint t (j0 + 2)
  let n (x : FV) := fvNeg x
  let invH := fvScaled 1 (tblHBits t : Int)
  let d1 := fvAdd (fvAdd (fvMul (fvScaled 4 0) (fv f1)) (n (fvMul (fvScaled 3 0) (fv f0)))) (n (fv f2))
  let d2 := fvAdd (fvAdd (fvMul (fvScaled 2 0) (fv f0)) (n (fvMul (fvScaled 4 0) (fv f1)))) (fvMul (fvScaled 2 0) (fv f2))
  (f0, rne32 (fvMul d1 invH), rne32 (fvMul d2 (fvMul invH invH)))

/-- floor((x - a) / h) of a finite x (R244). -/
def tblIndex (t : ActTable) (x : FV) : Int :=
  match fvMul (fvAdd x (fvNeg (.fin (tblStart t < 0) (tblStart t).natAbs 0))) (fvScaled 1 (tblHBits t : Int)) with
  | .fin n m e => if 0 ≤ e then fvInt n m e 0 else Int.fdiv (if n then -(m : Int) else m) (2 ^ (-e).toNat)
  | _ => 0

/-- eval (R244), for x in the table's domain. -/
def tblEval (t : ActTable) (x : BitVec 32) : BitVec 32 :=
  let k := (tblIndex t (fv x)).toNat
  let (c0, c1, c2) := tblCoef t k
  let left : Int := tblStart t * (2 ^ tblHBits t : Int) + (k : Int)
  let d := rne32 (fvAdd (fv x) (fvNeg (.fin (left < 0) left.natAbs (-(tblHBits t : Int)))))
  fadd (fmul (fadd (fmul c2 d) c1) d) c0

/-- The FP32 code of an integer, for comparisons with constants. -/
def fInt (n : Int) : BitVec 32 := intToF n

/-- σ, th and Φ (R244) of an input that is not NaN. -/
def actSigma (x : BitVec 32) : BitVec 32 :=
  if fLt x (fInt (-16)) then 0 else if fLe (fInt 16) x then fOne else tblEval .sig x
def actTh (x : BitVec 32) : BitVec 32 :=
  if fLt x (fInt (-8)) then fInt (-1) else if fLe (fInt 8) x then fOne else tblEval .tanh x
def actPhi (x : BitVec 32) : BitVec 32 :=
  if fLt x (fInt (-8)) then 0 else if fLe (fInt 8) x then fOne else tblEval .phi x

/-- floor of a finite FP32 value. -/
def fFloor (x : BitVec 32) : Int :=
  match fv x with
  | .fin n m e => if 0 ≤ e then fvInt n m e 0 else Int.fdiv (if n then -(m : Int) else m) (2 ^ (-e).toNat)
  | _ => 0

/-- EXP (R245) of an input that is not NaN. -/
def actExp (x : BitVec 32) : BitVec 32 :=
  if x = 0x7F800000 then fInf false
  else
    let z := fmul x 0x3FB8AA3B
    if fLe (fInt 128) z then fInf false
    else if fLt z (fInt (-150)) then 0
    else
      let n := fFloor z
      let f := rne32 (fvAdd (fv z) (fvNeg (.fin (n < 0) n.natAbs 0)))
      let n' := if f = fOne then n + 1 else n
      let f' := if f = fOne then 0 else f
      rne32 (fvMul (fv (tblEval .exp2 f')) (.fin false 1 n'))

/-- An FP32 value with the Palette flags its computation raised (R237): bit 4 SAT, 3 INF, 2 NAN, 1 QINF, 0 QNAN. -/
structure FX where
  v : BitVec 32
  f : BitVec 5
  deriving DecidableEq, Repr

/-- A value that no operation has touched yet. -/
def fx (v : BitVec 32) : FX := ⟨v, 0⟩

/-- NAN: operands that were not NaN gave the canonical NaN; INF: finite operands gave an infinity (R237). -/
def opFlags (a b r : BitVec 32) : BitVec 5 :=
  if fIsNan a || fIsNan b then 0
  else if fIsNan r then 4
  else if fIsInf r && !fIsInf a && !fIsInf b then 8
  else 0

/-- An operation on two values with its flags. -/
def xop (op : BitVec 32 → BitVec 32 → BitVec 32) (a b : FX) : FX :=
  ⟨op a.v b.v, a.f ||| b.f ||| opFlags a.v b.v (op a.v b.v)⟩

def xadd : FX → FX → FX := xop fadd
def xsub : FX → FX → FX := xop fsub
def xmul : FX → FX → FX := xop fmul
def xdiv : FX → FX → FX := xop fdiv
def xmin : FX → FX → FX := xop fmin
def xmax : FX → FX → FX := xop fmax
def xsqrt (a : FX) : FX := xop (fun x _ => fsqrt x) a a

/-- activate (R242): the codes of R242, the canonical NaN for a NaN. -/
def activate (code : Nat) (a : FX) : FX :=
  let x := a.v
  if fIsNan x then ⟨fNan, a.f⟩
  else
    let relu := if fLt 0 x then x else 0
    match code with
    | 0 => a
    | 1 => ⟨relu, a.f⟩
    | 2 => ⟨if fLe (fInt 6) x then fInt 6 else relu, a.f⟩
    | 3 => if fLt x (fInt (-16)) then ⟨fZero true, a.f⟩ else if fLe (fInt 16) x then a else xmul a (fx (actSigma x))
    | 4 => if fLt x (fInt (-8)) then ⟨fZero true, a.f⟩ else if fLe (fInt 8) x then a else xmul a (fx (actPhi x))
    | 5 => ⟨actSigma x, a.f⟩
    | 6 => ⟨actTh x, a.f⟩
    | _ => ⟨actExp x, a.f ||| opFlags x x (actExp x)⟩

/-! ### Ordered sum, key order, intersection over union -/

/-- One level of the lane tree of R241: lanes l and l + w added. -/
def treeStep (w : Nat) (v : List FX) : List FX :=
  (List.range w).map (fun l => xadd (v.getD l (fx 0)) (v.getD (l + w) (fx 0)))

/-- The lane tree of R241 over 64 lanes. -/
def laneTree (v : List FX) : FX :=
  (treeStep 1 (treeStep 2 (treeStep 4 (treeStep 8 (treeStep 16 (treeStep 32 v)))))).getD 0 (fx 0)

/-- Lane l of osum's accumulation: the elements l, l + 64, ... in ascending order. -/
def osumLane : List FX → FX
  | [] => fx 0
  | v :: vs => vs.foldl xadd v

/-- osum (R241). -/
def osum (v : List FX) : FX :=
  laneTree ((List.range 64).map (fun l =>
    osumLane ((List.range ((v.length + 63 - l) / 64)).map (fun i => v.getD (l + 64 * i) (fx 0)))))

/-- Pair a comes before pair b in the key order (R256). -/
def keyBefore (a b : BitVec 32 × BitVec 32) : Bool :=
  if fIsNan a.1 && fIsNan b.1 then a.2.toNat < b.2.toNat
  else if fIsNan b.1 then true
  else if fIsNan a.1 then false
  else if fLt b.1 a.1 then true
  else if fLt a.1 b.1 then false
  else a.2.toNat < b.2.toNat

/-- A pair put behind every listed pair that does not come after it. -/
def keyInsert (x : BitVec 32 × BitVec 32) : List (BitVec 32 × BitVec 32) → List (BitVec 32 × BitVec 32)
  | [] => [x]
  | y :: ys => if keyBefore x y then x :: y :: ys else y :: keyInsert x ys

/-- Pairs in the key order; pairs that the order does not tell apart keep their places. -/
def keySort (l : List (BitVec 32 × BitVec 32)) : List (BitVec 32 × BitVec 32) := l.foldl (fun acc x => keyInsert x acc) []

/-- iou (R257) of two boxes (x0, y0, x1, y1). -/
def iou (a b : BitVec 32 × BitVec 32 × BitVec 32 × BitVec 32) : FX :=
  let (ax0, ay0, ax1, ay1) := a
  let (bx0, by0, bx1, by1) := b
  if [ax0, ay0, ax1, ay1, bx0, by0, bx1, by1].any (fun x => fIsNan x || fIsInf x) then fx 0
  else
    let d (p q : BitVec 32) : FX := xmax (fx 0) (xsub (fx p) (fx q))
    let inter := xmul (d (fmin ax1 bx1) (fmax ax0 bx0)) (d (fmin ay1 by1) (fmax ay0 by0))
    let aa := xmul (d ax1 ax0) (d ay1 ay0)
    let ab := xmul (d bx1 bx0) (d by1 by0)
    let u := xsub (xadd aa ab) inter
    if fLt 0 u.v then xdiv inter u else ⟨0, u.f⟩

/-! ### The per-row quantiser -/

/-- What a quantisation gives: codes, row scale, outlier list (channel, value), and flags. -/
structure QRow where
  codes : List Byte
  scale : BitVec 32
  out   : List (Nat × BitVec 32)
  qnan  : Bool
  qinf  : Bool
  sat   : Bool
  /-- NAN and INF of the quantiser's own operations (R237) -/
  f     : BitVec 5 := 0
  deriving DecidableEq, Repr

/-- Step 0 of R225. -/
def qStep0 (x : BitVec 32) : BitVec 32 :=
  if fIsNan x then 0 else if fIsInf x then (if fNeg x then 0xFF7FFFFF else 0x7F7FFFFF) else x

/-- The largest magnitude, or +0.0 of an empty list. -/
def maxAbs (l : List (BitVec 32)) : BitVec 32 := l.foldl (fun m x => if fLt m (fAbs x) then fAbs x else m) 0

/-- A candidate put behind every listed one of at least its magnitude. -/
def candInsert (x : Nat × BitVec 32) : List (Nat × BitVec 32) → List (Nat × BitVec 32)
  | [] => [x]
  | y :: ys => if fLt (fAbs y.2) (fAbs x.2) then x :: y :: ys else y :: candInsert x ys

/-- The elements that escape, largest magnitude first, lower index on a tie (R225 step 1). -/
def escapes (x : List (BitVec 32)) (tau : BitVec 32) (eMax : Nat) : List (Nat × BitVec 32) :=
  ((((List.range x.length).zip x).filter (fun c => fLt tau (fAbs c.2))).foldl (fun acc c => candInsert c acc) []).take eMax

/-- 2^-121 (R225). -/
def qBound : BitVec 32 := 0x03000000

/-- quantise (R225). -/
def quantise (x0 : List (BitVec 32)) (tau : BitVec 32) (eMax : Nat) : QRow :=
  let x := x0.map qStep0
  let esc := escapes x tau eMax
  let isEsc (c : Nat) : Bool := esc.any (fun e => e.1 = c)
  let m := maxAbs ((((List.range x.length).zip x).filter (fun c => !isEsc c.1)).map (·.2))
  let tiny := fLt m qBound
  let r := fdiv (fInt 127) m
  let code (c : Nat × BitVec 32) : Byte × Bool :=
    if isEsc c.1 then (0x80, false)
    else if tiny then (0, false)
    else let v := fToInt (fmul c.2 r) (-127) 127; (BitVec.ofInt 8 v.1, v.2)
  let cs := ((List.range x.length).zip x).map code
  { codes := cs.map (·.1)
    scale := if tiny then 0 else fdiv m (fInt 127)
    out   := ((List.range x.length).zip x).filter (fun c => isEsc c.1)
    qnan  := x0.any fIsNan
    qinf  := x0.any fIsInf
    sat   := cs.any (·.2) }

/-- The FP8 row quantiser (R228). -/
def quantiseF8 (f : Fmt) (x0 : List (BitVec 32)) : QRow :=
  let x := x0.map qStep0
  let m := maxAbs x
  let tiny := fLt m qBound
  let big := fInt (if f = fmtE4M3 then 448 else 57344)
  let r := fdiv big m
  let cs := x.map (fun v => if tiny then (0, false) else encodeSat f (fv (fmul v r)))
  { codes := cs.map (fun c => BitVec.ofNat 8 c.1)
    scale := if tiny then 0 else fdiv m big
    out   := []
    qnan  := x0.any fIsNan
    qinf  := x0.any fIsInf
    sat   := cs.any (·.2)
    f     := if tiny then 0
             else x.foldl (fun g v => g ||| opFlags v r (fmul v r)) (opFlags big m r ||| opFlags m big (fdiv m big)) }

/-- An outlier list of R226: used entries, then unused ones, `eMax` in all. -/
def listBytes (eMax : Nat) (out : List (Nat × BitVec 32)) : List Byte :=
  (out.take eMax).flatMap (fun e => leBytes 2 e.1 ++ [0, 0] ++ leBytes 4 e.2.toNat)
    ++ (List.replicate (eMax - out.length) (leBytes 2 0xFFFF ++ [0, 0, 0, 0, 0, 0])).flatten

/-- The entries of a list in memory order (R227): channel and value. -/
def listEntries (eMax : Nat) (b : List Byte) : List (Nat × BitVec 32) :=
  (List.range eMax).map (fun i => (fieldLE b (8 * i) 2, BitVec.ofNat 32 (fieldLE b (8 * i + 4) 4)))

/-! ### Rescale (R231) -/

/-- A reduction segment: its accumulator as FP32, its row scale, and its outlier corrections: weight code and value of each list
entry that counts (R227). -/
structure Seg where
  acc  : BitVec 32
  sa   : BitVec 32
  corr : List (BitVec 32 × BitVec 32)
  /-- flags of the sums that gave the accumulator (R237) -/
  f    : BitVec 5 := 0
  deriving DecidableEq, Repr

/-- Steps 1 to 3 of R231 for one segment. -/
def segTerm (sw : BitVec 32) (g : Seg) : FX := xmul (xmul ⟨g.acc, g.f⟩ (fx g.sa)) (fx sw)

/-- One correction of step 5. -/
def addCorr (sw : BitVec 32) (y : FX) (c : BitVec 32 × BitVec 32) : FX :=
  xadd y (xmul (xmul (fx c.1) (fx c.2)) (fx sw))

/-- Steps 1 to 5 of R231 over the segments that are not padding (R232); `bias` none: step 4 is skipped. -/
def rescale (segs : List Seg) (sw : BitVec 32) (bias : Option (BitVec 32)) : FX :=
  let y0 := match segs with
    | [] => fx 0
    | g :: gs => gs.foldl (fun y g => xadd y (segTerm sw g)) (segTerm sw g)
  let y1 := match bias with | none => y0 | some b => xadd y0 (fx b)
  segs.foldl (fun y g => g.corr.foldl (addCorr sw) y) y1

end Sys2Proof.Machine
end

