-- ==== Sys2Proof/Machine/CanvasMath.lean ====
section
/-!
DEFINITION. What strokes compute (R189 to R199, R211), the copies of LOADACC and DRAIN (R201, R202), and the operand addresses and
checks of R193 and R194. A canvas is a list of 4,096 cells, cell (i, j) at index 64 i + j; the empty list is all zero.
-/
namespace Sys2Proof.Machine

/-- Cells of a canvas (R200). -/
def cells (c : List (BitVec 32)) : List (BitVec 32) := if c.isEmpty then List.replicate 4096 0 else c

/-- The canvas as State holds it: all-zero sets are the empty list. -/
def packCells (c : List (BitVec 32)) : List (BitVec 32) := if c.all (· = 0) then [] else c

/-- An operand element as a stroke reads it. -/
inductive Elem where
  | int (v : Int)
  | flt (v : FV)
  deriving DecidableEq, Repr

/-- Bytes per element (R191, R193); I4 counts its byte. -/
def elemSize (mode fmt : Nat) : Nat := if mode = 1 then 2 else if mode = 2 then 4 else if fmt = 5 then 2 else 1

/-- A format the Canvas treats as an integer. -/
def isIntFmt (fmt : Nat) : Bool := fmt ≤ 2

/-- The value of an element's code (R191, R216, R217). -/
def elemVal (mode fmt : Nat) (code : Nat) : Elem :=
  if mode = 1 then .int (BitVec.ofNat 16 code).toInt
  else if mode = 2 then .flt (decodeF fmtF32 code)
  else match fmt with
    | 0 => .int (if code = 0x80 then 0 else (BitVec.ofNat 8 code).toInt)
    | 1 => .int code
    | 2 => .int (if code = 8 then 0 else (BitVec.ofNat 4 code).toInt)
    | 3 => .flt (decodeF fmtE4M3 code)
    | 4 => .flt (decodeF fmtE5M2 code)
    | _ => .flt (decodeF fmtBF16 code)

/-- A signed product term added to an i32 accumulator, with WRAP (R196). -/
def addInt (neg : Bool) (p : Int) (a : BitVec 32 × BitVec 3) : BitVec 32 × BitVec 3 :=
  let s := if neg then a.1.toInt - p else a.1.toInt + p
  (BitVec.ofInt 32 s, if s < -2147483648 || 2147483647 < s then a.2 ||| 1 else a.2)

/-- A product added to an f32 accumulator with one rounding, with NAN and INF (R197). -/
def addFlt (neg : Bool) (p : FV) (a : BitVec 32 × BitVec 3) : BitVec 32 × BitVec 3 :=
  let e := fvAdd (fv a.1) (if neg then fvNeg p else p)
  let r := rne32 e
  (r, match e with
      | .nan => a.2 ||| 4
      | .inf _ => a.2
      | .fin _ _ _ => if fIsInf r then a.2 ||| 2 else a.2)

/-- hi and lo of R198. -/
def hi16 (x : Int) : Int := Int.fdiv x 256
def lo16 (x : Int) : Int := x % 256

/-- hi and lo of R199. -/
def hiBf (x : FV) : FV :=
  match x with
  | .nan => .nan
  | _ => let b := encodeF fmtF32 x; decodeF fmtF32 (b / 2 ^ 16 * 2 ^ 16)
def loBf (x : FV) : FV :=
  match x with
  | .fin _ _ _ => decodeF fmtBF16 (encodeF fmtBF16 (fvAdd x (fvNeg (hiBf x))))
  | _ => .fin false 0 0

/-- One cell's stroke. -/
def strokeCell (mode : Nat) (neg : Bool) (l t : Elem) (a : BitVec 32 × BitVec 3) : BitVec 32 × BitVec 3 :=
  match l, t with
  | .int x, .int y =>
    if mode = 1 then
      addInt neg (lo16 x * lo16 y) (addInt neg (lo16 x * hi16 y * 256) (addInt neg (hi16 x * lo16 y * 256)
        (addInt neg (hi16 x * hi16 y * 65536) a)))
    else addInt neg (x * y) a
  | .flt x, .flt y =>
    if mode = 2 then
      addFlt neg (fvMul (hiBf x) (hiBf y)) (addFlt neg (fvMul (hiBf x) (loBf y))
        (addFlt neg (fvMul (loBf x) (hiBf y)) a))
    else addFlt neg (fvMul x y) a
  | _, _ => a

/-- One stroke over the whole canvas (R189). -/
def strokeAll (mode : Nat) (neg : Bool) (L T : List Elem) (c : List (BitVec 32) × BitVec 3) :
    List (BitVec 32) × BitVec 3 :=
  let r := ((L.flatMap (fun l => T.map (fun t => (l, t)))).zip c.1).map (fun x => strokeCell mode neg x.1.1 x.1.2 (x.2, 0))
  (r.map (·.1), r.foldl (fun f x => f ||| x.2) c.2)

/-- One step of EWISE: the diagonal cells (R211). -/
def ewiseAll (neg : Bool) (L T : List Elem) (c : List (BitVec 32) × BitVec 3) : List (BitVec 32) × BitVec 3 :=
  let r := ((List.range 4096).zip c.1).map (fun x =>
    if x.1 / 64 = x.1 % 64 then
      strokeCell 0 neg (L.getD (x.1 / 64) (.int 0)) (T.getD (x.1 % 64) (.int 0)) (x.2, 0)
    else (x.2, 0))
  (r.map (·.1), r.foldl (fun f x => f ||| x.2) c.2)

/-- Address of element (k, x) of an operand and, for I4, whether the high nibble holds it (R193). -/
def operandAddr (mode fmt : Nat) (lt left : Bool) (base pitch k x : Nat) : Nat × Bool :=
  let e := elemSize mode fmt
  if left && mode = 0 && fmt = 2 then
    if lt then (base + x * pitch + k / 2, k % 2 = 1) else (base + k / 2 * pitch + k % 2 * 32 + x / 2, x % 2 = 1)
  else if left && lt then (base + x * pitch + k * e, false)
  else (base + k * pitch + x * e, false)

/-- Operand vector k; `rd a n` reads n local-store bytes. -/
def operandVec (rd : Nat → Nat → List Byte) (mode fmt : Nat) (lt left : Bool) (base pitch k : Nat) : List Elem :=
  (List.range 64).map (fun x =>
    let a := operandAddr mode fmt lt left base pitch k x
    let v := leNat (rd a.1 (elemSize mode fmt))
    elemVal mode fmt (if left && mode = 0 && fmt = 2 then (if a.2 then v / 16 else v % 16) else v))

/-- K strokes in ascending k (R190). -/
def strokes (rd : Nat → Nat → List Byte) (o : StrokeOp) : Nat → List (BitVec 32) × BitVec 3 → List (BitVec 32) × BitVec 3
  | 0, c => c
  | n + 1, c =>
    let k := o.k - (n + 1)
    let L := operandVec rd o.mode o.lf o.lt true o.baseL o.pL k
    let T := operandVec rd o.mode o.tf false false o.baseT o.pT k
    strokes rd o n (if o.ewise then ewiseAll o.neg L T c else strokeAll o.mode o.neg L T c)

/-- A whole STROKE or EWISE on the front canvas: cells and sticky flags (NAN, INF, WRAP). -/
def runStroke (rd : Nat → Nat → List Byte) (o : StrokeOp) (front : List (BitVec 32)) : List (BitVec 32) × BitVec 3 :=
  strokes rd o o.k (if o.clr then List.replicate 4096 0 else cells front, 0)

/-- A pair of formats that MODE 0 accepts (R192). -/
def pairOk (lf tf : Nat) : Bool :=
  (lf ≤ 2 && tf ≤ 1) || ((lf = 3 || lf = 4) && (tf = 3 || tf = 4)) || (lf = 5 && tf = 5)

/-- Bytes one line of an operand needs (R194). -/
def lineNeed (o : StrokeOp) (left : Bool) : Nat :=
  let fmt := if left then o.lf else o.tf
  let e := elemSize o.mode fmt
  let i4 := left && o.mode = 0 && fmt = 2
  if left && o.lt then (if i4 then (o.k + 1) / 2 else o.k * e) else if i4 then 64 else 64 * e

/-- Bytes from an operand's base to its last byte read (R194), for K ≥ 1. -/
def operandExtent (o : StrokeOp) (left : Bool) : Nat :=
  let fmt := if left then o.lf else o.tf
  let e := elemSize o.mode fmt
  let p := if left then o.pL else o.pT
  let i4 := left && o.mode = 0 && fmt = 2
  if left && o.lt then 63 * p + (if i4 then (o.k + 1) / 2 else o.k * e)
  else if i4 then (o.k - 1) / 2 * p + (if o.k % 2 = 0 then 64 else 32)
  else (o.k - 1) * p + 64 * e

/-- The first check of R194 that a STROKE with K ≥ 1 fails, by R213's detail codes; `wide` marks pitch bits above [31:0]. -/
def strokeCheck (o : StrokeOp) (wide : Bool) (limit : Nat) : Option Nat :=
  if o.k = 0 then none
  else if o.baseL % 64 ≠ 0 || o.baseT % 64 ≠ 0 then some 1
  else if 65536 < o.k then some 2
  else if wide || o.pL = 0 || o.pT = 0 || o.pL < lineNeed o true || o.pT < lineNeed o false then some 3
  else if limit < o.baseL + operandExtent o true then some 4
  else if limit < o.baseT + operandExtent o false then some 5
  else none

/-- The transpose of a canvas. -/
def canvasT (c : List (BitVec 32)) : List (BitVec 32) :=
  (List.range 4096).map (fun n => c.getD (64 * (n % 64) + n / 64) 0)

/-- ROWV and COLV of R201. -/
def fromRowV (v : Lanes) : List (BitVec 32) := (List.range 4096).map (fun n => v.getD (n / 64) 0)
def fromColV (v : Lanes) : List (BitVec 32) := (List.range 4096).map (fun n => v.getD (n % 64) 0)

/-- The 16 KiB of the LS layout as cells, and cells as bytes (R201, R202). -/
def fromLs (t : Bool) (b : List Byte) : List (BitVec 32) :=
  let c := (List.range 4096).map (fun n => BitVec.ofNat 32 (fieldLE b (4 * n) 4))
  if t then canvasT c else c
def toLs (t : Bool) (c : List (BitVec 32)) : List Byte :=
  (if t then canvasT c else c).flatMap (fun x => leBytes 4 x.toNat)

/-- Row or column s of a canvas as a vector (R202). -/
def canvasVec (t : Bool) (c : List (BitVec 32)) (s : Nat) : Lanes :=
  (List.range 64).map (fun x => if t then c.getD (64 * x + s) 0 else c.getD (64 * s + x) 0)

end Sys2Proof.Machine
end

