-- ==== Sys2Proof/Config.lean ====
section
/-!
DEFINITION. What the manual leaves open or leaves to the device: free values, and the functions of the security block whose definition
is another standard's (FIPS 204) or the silicon's own (R460, R465). None of them has a body: nothing can be proved about a value.
-/
namespace Sys2Proof.Config

/-- The n-th free value: a value that the manual does not fix (device timing, an abandoned PUT, a word with four or more
bits in error). State.free counts the values used. -/
opaque freeValue : Nat → U64

/-- The public key of ML-DSA-65 key generation (FIPS 204) from a seed (R465). -/
opaque mldsaKey : List Byte → List Byte

/-- ML-DSA-65 signing (FIPS 204, R461, R475) with the key pair of an identity public key: the private key never leaves the security
block (R466). -/
opaque mldsaSign : List Byte → List Byte → List Byte

/-- Bits of a configuration-space dword that only the PCI Express standard defines and that the part holds fixed (latencies, lane
presets ...), by dword number (R403). -/
opaque cfgFree : Nat → U32

/-- Requester identifier and tag of the host request behind an entry that AER logs, by the entry's index (R407). -/
opaque tlpIds : Nat → U32

/-- The product of a crop box's side and an augmentation scale where it leaves signed 32-bit arithmetic (R140). -/
opaque boxProduct : Nat → Nat → BitVec 32

/-- The vector of a flow block whose last candidate set is empty (R344): a function of the block and of the luma of both pictures. -/
opaque flowOpen : Nat → List Int → List Int → U32

/-- A code or scale byte of an exported section (R370): a function of the package, the sample area, the order table, the augmentation
records, the job descriptor and the byte's offset (R372). -/
opaque exported : List Byte → List Byte → List Byte → List Byte → List Byte → Nat → Byte

end Sys2Proof.Config
end

