-- ==== Sys2Proof/Machine/Tensor.lean ====
section
/-!
DEFINITION. Tensor descriptors, the tile walk, padding, the compact layout and Glaze (R270 to R288), as functions of a descriptor, an
origin and the bytes they read. The instructions FETCH and PUT use them in Machine/Movement.lean.
-/
namespace Sys2Proof.Machine

/-- A tensor descriptor's fields (R272). -/
structure TDesc where
  base    : Nat
  format  : Nat
  eMax    : Nat
  glaze   : Nat
  pad     : Nat
  rowScale : Bool
  s1x64   : Bool
  rsv     : Nat
  dim0    : Nat
  dim1    : Nat
  dim2    : Nat
  dim3    : Nat
  tile0   : Nat
  tile1   : Nat
  tile2   : Nat
  tile3   : Nat
  stride1 : Nat
  stride2 : Nat
  stride3 : Nat
  deriving DecidableEq, Repr

/-- The descriptor in a descriptor register (R272). -/
def decodeDesc (d : BitVec 256) : TDesc :=
  let b := leBytes 32 d.toNat
  let fm := fieldLE b 6 1
  let md := fieldLE b 7 1
  { base := fieldLE b 0 6, format := bits fm 3 0, eMax := bits fm 7 4
    glaze := bits md 1 0, pad := bits md 3 2, rowScale := bitAt md 4, s1x64 := bitAt md 5, rsv := bits md 7 6
    dim0 := fieldLE b 8 2, dim1 := fieldLE b 10 2, dim2 := fieldLE b 12 2, dim3 := fieldLE b 14 2
    tile0 := fieldLE b 16 2, tile1 := fieldLE b 18 2, tile2 := fieldLE b 20 1, tile3 := fieldLE b 21 1
    stride1 := fieldLE b 22 2, stride2 := fieldLE b 24 4, stride3 := fieldLE b 28 4 }

/-- Rounded up to a multiple of 64. -/
def up64 (n : Nat) : Nat := (n + 63) / 64 * 64

/-- Bytes of one unit along dimension 0: an element, or for I4 a pair in one byte (R273, R216). -/
def unitBytes (format : Nat) : Nat := if format = 7 || format = 8 then 4 else if format = 5 || format = 6 then 2 else 1

/-- Units along dimension 0 in `n` elements. -/
def unitsOf (format n : Nat) : Nat := if format = 2 then (n + 1) / 2 else n

/-- Effective stride1 (R270). -/
def effS1 (t : TDesc) : Nat := if t.s1x64 then 64 * t.stride1 else t.stride1

/-- Bytes of a Glaze block's payload (R286). -/
def glazeBytes (glaze : Nat) : Nat := if glaze = 1 then 32 else 48

/-- Row size of R283. -/
def rowSize (t : TDesc) : Nat :=
  if t.glaze = 0 then unitsOf t.format t.dim0 * unitBytes t.format else t.dim0 / 64 * glazeBytes t.glaze

/-- Side planes (R271): rows, scale plane, list plane, header plane. -/
def descRows (t : TDesc) : Nat := t.dim1 * t.dim2 * t.dim3
def scalePlane (t : TDesc) : Nat := up64 (t.base + 64 * t.stride3 * t.dim3)
def listPlane (t : TDesc) : Nat := scalePlane t + (if t.rowScale then up64 (4 * descRows t) else 0)
def headerPlane (t : TDesc) : Nat := listPlane t + (if t.eMax = 0 then 0 else up64 (8 * t.eMax * descRows t))

/-- One i16 coordinate of an origin (R158, R274). -/
def originAt (o : U64) (k : Nat) : Int := (o.extractLsb' (16 * k) 16).toInt

/-- A coordinate is in bounds in a dimension (R274). -/
def inDim (x : Int) (dim : Nat) : Bool := 0 ≤ x && x < dim

/-- A tile row: its tile coordinates and the tensor position they stand for. -/
structure TRow where
  t1 : Nat
  t2 : Nat
  t3 : Nat
  deriving DecidableEq, Repr

/-- The tile's rows in tile row order (R275). -/
def tileRows (t : TDesc) : List TRow :=
  (List.range (t.tile1 * t.tile2 * t.tile3)).map (fun i => ⟨i % t.tile1, i / t.tile1 % t.tile2, i / t.tile1 / t.tile2⟩)

/-- A tile row is in bounds (R274). -/
def rowIn (t : TDesc) (o : U64) (r : TRow) : Bool :=
  inDim (originAt o 1 + r.t1) t.dim1 && inDim (originAt o 2 + r.t2) t.dim2 && inDim (originAt o 3 + r.t3) t.dim3

/-- Device position of an in-bounds row: row index and address of its codes (R270). -/
def rowIndex (t : TDesc) (o : U64) (r : TRow) : Nat :=
  (originAt o 1 + r.t1).toNat + t.dim1 * ((originAt o 2 + r.t2).toNat + t.dim2 * (originAt o 3 + r.t3).toNat)
def rowAddr (t : TDesc) (o : U64) (r : TRow) : Nat :=
  t.base + (originAt o 1 + r.t1).toNat * effS1 t + (originAt o 2 + r.t2).toNat * t.stride2
    + 64 * (originAt o 3 + r.t3).toNat * t.stride3

/-- First unit of the tile along dimension 0, and the units the tensor has there. -/
def unitOrigin (t : TDesc) (o : U64) : Int := if t.format = 2 then Int.fdiv (originAt o 0) 2 else originAt o 0
def unitDim (t : TDesc) : Nat := unitsOf t.format t.dim0
def unitTile (t : TDesc) : Nat := unitsOf t.format t.tile0

/-- Units of a tile row that are in bounds along dimension 0. -/
def unitsIn (t : TDesc) (o : U64) : List Nat :=
  (List.range (unitTile t)).filter (fun x => inDim (unitOrigin t o + x) (unitDim t))

/-- Every element of the tile is in bounds. -/
def tileInside (t : TDesc) (o : U64) : Bool :=
  0 ≤ originAt o 0 && originAt o 0 + t.tile0 ≤ t.dim0 && 0 ≤ originAt o 1 && originAt o 1 + t.tile1 ≤ t.dim1
    && 0 ≤ originAt o 2 && originAt o 2 + t.tile2 ≤ t.dim2 && 0 ≤ originAt o 3 && originAt o 3 + t.tile3 ≤ t.dim3

/-! ### The compact layout (R275) -/

/-- The exchange of two dimensions. -/
def exch (ta tb k : Nat) : Nat := if k = ta then tb else if k = tb then ta else k

/-- Tile extents in units, and local extents. -/
def tileExt (t : TDesc) (k : Nat) : Nat :=
  match k with | 0 => unitTile t | 1 => t.tile1 | 2 => t.tile2 | _ => t.tile3
def locExt (t : TDesc) (ta tb k : Nat) : Nat := tileExt t (exch ta tb k)

def lineBytes (t : TDesc) (ta tb : Nat) : Nat := locExt t ta tb 0 * unitBytes t.format
def linePitch (t : TDesc) (ta tb : Nat) : Nat := up64 (lineBytes t ta tb)
def codeArea (t : TDesc) (ta tb : Nat) : Nat :=
  linePitch t ta tb * locExt t ta tb 1 * locExt t ta tb 2 * locExt t ta tb 3

/-- Offset of a unit's codes from rl. -/
def locOff (t : TDesc) (ta tb : Nat) (x : Nat) (r : TRow) : Nat :=
  let c (k : Nat) : Nat := match exch ta tb k with | 0 => x | 1 => r.t1 | 2 => r.t2 | _ => r.t3
  linePitch t ta tb * (c 1 + locExt t ta tb 1 * (c 2 + locExt t ta tb 2 * c 3)) + unitBytes t.format * c 0

/-- Index of a tile row. -/
def tileRowIx (t : TDesc) (r : TRow) : Nat := r.t1 + t.tile1 * (r.t2 + t.tile2 * r.t3)

def tileRowCount (t : TDesc) : Nat := t.tile1 * t.tile2 * t.tile3
def locScale (t : TDesc) (ta tb : Nat) (r : TRow) : Nat := codeArea t ta tb + 4 * tileRowIx t r
def locListBase (t : TDesc) (ta tb : Nat) : Nat := up64 (codeArea t ta tb + (if t.rowScale then 4 * tileRowCount t else 0))
def locList (t : TDesc) (ta tb : Nat) (r : TRow) : Nat := locListBase t ta tb + 8 * t.eMax * tileRowIx t r

/-- Bytes of the local extent (R275). -/
def locBytes (t : TDesc) (ta tb : Nat) : Nat :=
  if t.eMax = 0 then codeArea t ta tb + (if t.rowScale then 4 * tileRowCount t else 0)
  else locListBase t ta tb + 8 * t.eMax * tileRowCount t

/-! ### The local extent of an operation (R168) -/

/-- Local-store runs (offset, bytes) that an operation touches in one tile row, named by the ends of its codes: a FETCH writes padding unless
it is skipped; a PUT reads what is in bounds. -/
def rowTouched (put : Bool) (t : TDesc) (o : U64) (ta tb : Nat) (r : TRow) : List (Nat × Nat) :=
  let whole := !put && t.pad ≠ 1
  let xs := if whole then List.range (unitTile t) else if rowIn t o r then unitsIn t o else []
  let ends := match xs.head?, xs.getLast? with | some a, some b => [a, b] | _, _ => []
  let row := whole || rowIn t o r
  ends.map (fun x => (locOff t ta tb x r, unitBytes t.format)) ++ (if t.rowScale && row then [(locScale t ta tb r, 4)] else [])
    ++ (if t.eMax ≠ 0 && row then [(locList t ta tb r, 8 * t.eMax)] else [])

/-- The end of the last line, which a FETCH writes as 0 beyond its codes (R275), and the end of the first. -/
def lineTails (put : Bool) (t : TDesc) (ta tb : Nat) : List (Nat × Nat) :=
  if put || linePitch t ta tb = lineBytes t ta tb then []
  else [(lineBytes t ta tb, 1), (codeArea t ta tb - 1, 1)]

/-- The smallest range of local bytes that holds some runs: offset and bytes. -/
def spanOf : List (Nat × Nat) → Nat × Nat
  | [] => (0, 0)
  | x :: l =>
    let a := l.foldl (fun m y => min m y.1) x.1
    (a, l.foldl (fun m y => max m (y.1 + y.2)) (x.1 + x.2) - a)

/-- The local-store extent of a FETCH or PUT, from s[RL] (R168). -/
def locExtent (put : Bool) (t : TDesc) (o : U64) (ta tb : Nat) : Nat × Nat :=
  spanOf ((tileRows t).flatMap (rowTouched put t o ta tb) ++ lineTails put t ta tb)

/-! ### Checks at issue (R283 to R285) -/

def dFormat (t : TDesc) : Bool :=
  8 < t.format || !([0, 1, 2, 4, 8].contains t.eMax) || (0 < t.eMax && !(t.format = 0 && t.rowScale))
def dMode (t : TDesc) : Bool :=
  t.glaze = 3 || t.pad = 3 || t.rsv ≠ 0 || (t.rowScale && !(t.format = 0 || t.format = 3 || t.format = 4))
    || (t.glaze ≠ 0 && t.format ≠ 0)
def dExtent (t : TDesc) : Bool :=
  [t.dim0, t.dim1, t.dim2, t.dim3, t.tile0, t.tile1, t.tile2, t.tile3].contains 0
def dStride (t : TDesc) : Bool :=
  effS1 t < rowSize t || t.stride2 < effS1 t * t.dim1 || 64 * t.stride3 < t.stride2 * t.dim2
def dAlign (t : TDesc) (o : U64) (rl : Nat) (ta tb : Nat) : Bool :=
  let al := if t.glaze = 0 then unitBytes t.format else 16
  let g := if t.glaze = 0 then (if t.format = 2 then 2 else 1) else 64
  t.base % al ≠ 0 || effS1 t % al ≠ 0 || t.stride2 % al ≠ 0
    || t.dim0 % g ≠ 0 || t.tile0 % g ≠ 0 || originAt o 0 % (g : Int) ≠ 0 || rl % 64 ≠ 0
    || (t.format = 2 && ta ≠ tb && (ta = 0 || tb = 0))

/-- The first failed check of R285; `limit` is the size of the local store or lent window, and `dev` marks a FETCH with DEV = 1. -/
def descCheck (t : TDesc) (o : U64) (rl : Nat) (ta tb : Nat) (dev : Bool) (limit : Nat) : Option Nat :=
  if dFormat t then some 1
  else if dMode t then some 2
  else if dExtent t then some 3
  else if dStride t then some 4
  else if dAlign t o rl ta tb then some 5
  else if !dev && limit < rl + locBytes t ta tb then some 6
  else if t.pad = 2 && !tileInside t o then some 7
  else none

/-! ### Device extent (R277, R282) -/

/-- The device byte ranges (address, bytes) an operation reads or writes for one tile row. -/
def rowRanges (t : TDesc) (o : U64) (r : TRow) : List (Nat × Nat) :=
  if !rowIn t o r then []
  else
    let ix := rowIndex t o r
    let us := unitsIn t o
    let codes : List (Nat × Nat) := match us.head? with
      | none => []
      | some x =>
        let c := (unitOrigin t o + x).toNat
        if t.glaze = 0 then [(rowAddr t o r + c * unitBytes t.format, us.length * unitBytes t.format)]
        else [(rowAddr t o r + c / 64 * glazeBytes t.glaze, us.length / 64 * glazeBytes t.glaze),
              (headerPlane t + ix * (t.dim0 / 64) + c / 64, us.length / 64)]
    codes ++ (if t.rowScale then [(scalePlane t + 4 * ix, 4)] else [])
      ++ (if t.eMax = 0 then [] else [(listPlane t + 8 * t.eMax * ix, 8 * t.eMax)])

/-- The whole device extent. -/
def devRanges (t : TDesc) (o : U64) : List (Nat × Nat) := (tileRows t).flatMap (rowRanges t o)

/-! ### Glaze (R286 to R288) -/

/-- A division by 2^s rounded to nearest, ties to even. -/
def rneShift (q : Int) (s : Nat) : Int :=
  let d : Int := 2 ^ s
  let f := Int.fdiv q d
  let r := q - f * d
  if 2 * r < d then f else if d < 2 * r then f + 1 else if f % 2 = 0 then f else f + 1

/-- Bits of a Glaze field. -/
def glazeB (glaze : Nat) : Nat := if glaze = 1 then 4 else 6

/-- The smallest shift at which the block's largest magnitude fits, from `s` on. -/
def glazeShift (m lim : Nat) : Nat → Nat → Nat
  | 0, s => s
  | fuel + 1, s => if m ≤ lim * 2 ^ s then s else glazeShift m lim fuel (s + 1)

/-- encode (R287): payload bytes and header byte. -/
def glazeEncode (glaze : Nat) (q0 : List Byte) : List Byte × Byte :=
  let b := glazeB glaze
  let lim := 2 ^ (b - 1) - 1
  let q := q0.map (fun x => if x = 0x80 then (0 : Int) else x.toInt)
  let m := q.foldl (fun a x => max a x.natAbs) 0
  let s := glazeShift m lim 7 0
  let v := q.map (fun x => clampG lim (rneShift x s))
  let word := ((List.range v.length).zip v).foldl (fun a x => a + (x.2 % (2 ^ b : Int)).toNat * 2 ^ (b * x.1)) 0
  (leBytes (glazeBytes glaze) word, BitVec.ofNat 8 s)
where
  clampG (lim : Nat) (x : Int) : Int := max (-(lim : Int)) (min (lim : Int) x)

/-- decode (R288) of one block: 64 codes. `list` holds the channels of the row's list entries. -/
def glazeDecode (glaze dim0 k : Nat) (payload : List Byte) (hdr : Byte) (list : List Nat) : List Byte :=
  let b := glazeB glaze
  let word := leNat payload
  let s := hdr.toNat % 8
  (List.range 64).map (fun i =>
    if list.any (fun c => c ≠ 0xFFFF && c < dim0 && c / 64 = k && c % 64 = i) then 0x80
    else
      let f := bits word (b * i + b - 1) (b * i)
      let v : Int := if f < 2 ^ (b - 1) then f else (f : Int) - 2 ^ b
      let w := if f = 2 ^ (b - 1) then 0 else v
      BitVec.ofInt 8 (max (-127) (min 127 (w * 2 ^ s))))

/-! ### Moving the tile (R278, R279) -/

/-- Bytes placed from an address on. -/
def placeBytes (a : Nat) (b : List Byte) : List (Nat × Byte) := ((List.range b.length).map (a + ·)).zip b

/-- The codes of one unit of an in-bounds row as a FETCH reads them. -/
def devUnit (t : TDesc) (o : U64) (r : TRow) (rd : Nat → Nat → List Byte) (x : Nat) : List Byte :=
  let c := (unitOrigin t o + x).toNat
  if t.glaze = 0 then rd (rowAddr t o r + c * unitBytes t.format) (unitBytes t.format)
  else
    let k := c / 64
    let ix := rowIndex t o r
    let list := if t.eMax = 0 then [] else
      (List.range t.eMax).map (fun i => leNat (rd (listPlane t + 8 * t.eMax * ix + 8 * i) 2))
    let q := glazeDecode t.glaze t.dim0 k (rd (rowAddr t o r + k * glazeBytes t.glaze) (glazeBytes t.glaze))
      ((rd (headerPlane t + ix * (t.dim0 / 64) + k) 1).getD 0 0) list
    [q.getD (c % 64) 0]

/-- What a FETCH writes for one tile row, as offsets from s[RL] (R277, R278). `rd a n` reads n device bytes. -/
def fetchRow (t : TDesc) (o : U64) (ta tb : Nat) (rd : Nat → Nat → List Byte) (r : TRow) : List (Nat × Byte) :=
  let inb := rowIn t o r
  let ix := rowIndex t o r
  let codes := (List.range (unitTile t)).flatMap (fun (x : Nat) =>
    if inb && inDim (unitOrigin t o + x) (unitDim t) then placeBytes (locOff t ta tb x r) (devUnit t o r rd x)
    else if t.pad = 1 then []
    else placeBytes (locOff t ta tb x r) (List.replicate (unitBytes t.format) 0))
  let scale := if !t.rowScale then [] else
    if inb then placeBytes (locScale t ta tb r) (rd (scalePlane t + 4 * ix) 4)
    else if t.pad = 1 then [] else placeBytes (locScale t ta tb r) (List.replicate 4 0)
  let list := if t.eMax = 0 then [] else
    if inb then placeBytes (locList t ta tb r) (rd (listPlane t + 8 * t.eMax * ix) (8 * t.eMax))
    else if t.pad = 1 then []
    else placeBytes (locList t ta tb r) (List.replicate t.eMax [0xFF, 0xFF, 0, 0, 0, 0, 0, 0]).flatten
  codes ++ scale ++ list

/-- The bytes of each line beyond its codes, which a FETCH writes as 0 (R275). -/
def fetchTail (t : TDesc) (ta tb : Nat) : List (Nat × Byte) :=
  (List.range (locExt t ta tb 1 * locExt t ta tb 2 * locExt t ta tb 3)).flatMap (fun l =>
    placeBytes (linePitch t ta tb * l + lineBytes t ta tb) (List.replicate (linePitch t ta tb - lineBytes t ta tb) 0))

/-- Every byte a FETCH writes, as offsets from s[RL]. -/
def fetchWrites (t : TDesc) (o : U64) (ta tb : Nat) (rd : Nat → Nat → List Byte) : List (Nat × Byte) :=
  (tileRows t).flatMap (fetchRow t o ta tb rd) ++ fetchTail t ta tb

/-- What a PUT writes to device memory for one tile row (R279, R287). `rl n a` reads n bytes at offset a from s[RL]. -/
def putRow (t : TDesc) (o : U64) (ta tb : Nat) (rd : Nat → Nat → List Byte) (r : TRow) : List (Nat × Byte) :=
  if !rowIn t o r then []
  else
    let ix := rowIndex t o r
    let us := unitsIn t o
    let codes :=
      if t.glaze = 0 then
        us.flatMap (fun (x : Nat) => placeBytes (rowAddr t o r + (unitOrigin t o + x).toNat * unitBytes t.format)
          (rd (locOff t ta tb x r) (unitBytes t.format)))
      else
        (us.filter (fun x => x % 64 = 0)).flatMap (fun (x : Nat) =>
          let k := (unitOrigin t o + x).toNat / 64
          let q := (List.range 64).map (fun i => (rd (locOff t ta tb (x + i) r) 1).getD 0 0)
          let e := glazeEncode t.glaze q
          placeBytes (rowAddr t o r + k * glazeBytes t.glaze) e.1
            ++ [(headerPlane t + ix * (t.dim0 / 64) + k, e.2)])
    codes
      ++ (if t.rowScale then placeBytes (scalePlane t + 4 * ix) (rd (locScale t ta tb r) 4) else [])
      ++ (if t.eMax = 0 then [] else placeBytes (listPlane t + 8 * t.eMax * ix) (rd (locList t ta tb r) (8 * t.eMax)))

/-- Every device byte a PUT writes. -/
def putWrites (t : TDesc) (o : U64) (ta tb : Nat) (rd : Nat → Nat → List Byte) : List (Nat × Byte) :=
  (tileRows t).flatMap (putRow t o ta tb rd)

end Sys2Proof.Machine
end

