-- ==== Sys2Proof/Machine/Ops.lean ====
section
/-!
DEFINITION. The named operations on the state that every family uses: finding and replacing a unit's record, free values, unit
references and their expansions (R24 to R28), device memory (R18), who owns what (R21, R22, R295, R396), the error counters and
log (R380), and the host doorbells (R435, R437).
-/
namespace Sys2Proof.Machine

/-- What a command answers. -/
abbrev Out := Host.Outcome State Fault Refusal

/-- A command that names a unit the part does not have. (Log 7 DESIGN CHOICE) -/
def noUnit : Out := .fault .noSuchUnit

/-- The effect on a unit that exists. (Log 5 DESIGN CHOICE) -/
def onUnit (ok : Bool) (s : State) : Out := if ok then .next s else noUnit

/-! ### Records of units -/

def State.easel (s : State) (e : Nat) : Easel := tget {} s.easels e
def State.setEasel (s : State) (e : Nat) (E : Easel) : State := { s with easels := tset {} s.easels e E }

/-- A partition that exists has an entry, EMPTY or not (R322). -/
def State.part? (s : State) (p : Nat) : Option Part := tfind s.parts p
def State.part (s : State) (p : Nat) : Part := (s.part? p).getD {}
def State.setPart (s : State) (p : Nat) (P : Part) : State := { s with parts := tinsert s.parts p P }

def State.sitter (s : State) (n : Nat) : Sitter := tget {} s.sitters n
def State.setSitter (s : State) (n : Nat) (S : Sitter) : State := { s with sitters := tset {} s.sitters n S }

def State.queue (s : State) (q : Nat) : Queue := tget {} s.host.queues q
def State.setQueue (s : State) (q : Nat) (Q : Queue) : State :=
  { s with host := { s.host with queues := tset {} s.host.queues q Q } }

def State.ring (s : State) (r : Nat) : Ring := tget {} s.host.rings r
def State.setRing (s : State) (r : Nat) (R : Ring) : State :=
  { s with host := { s.host with rings := tset {} s.host.rings r R } }

def State.primer (s : State) (c : Nat) : List PrimerJob := tget [] s.primers c
def State.setPrimer (s : State) (c : Nat) (l : List PrimerJob) : State := { s with primers := tset [] s.primers c l }

/-- The part is ready (GLB_STATUS.STATE, R441) and its clocks run (R492). (Log 43 DEDUCED) -/
def State.ready (s : State) : Bool := s.boot.state = 1 && !s.board.clocksStopped

/-! ### Free values -/

/-- The next free value, and the state with its index used. (Log 8 DESIGN CHOICE) -/
def State.draw (s : State) : U64 × State := (Config.freeValue s.free, { s with free := s.free + 1 })

/-! ### Units (R24 to R28) -/

/-- Members of built-in atelier `id` (R26), as unit references. -/
def builtinMembers (id : Nat) : List Nat :=
  if id = 0 then (List.range 6).map (fun n => 0x8000 + 1 + n)
  else if id < 7 then (List.range 4).map (fun n => 0x8000 + 7 + 4 * (id - 1) + n)
  else (List.range 8).map (fun n => 8 * (id - 7) + n)

/-- Members of an atelier; none when it is free. -/
def State.members (s : State) (id : Nat) : Option (List Nat) :=
  if id < 31 then some (builtinMembers id) else (tfind s.ateliers id).map (fun a => a.members.map BitVec.toNat)

/-- The leaves reached from a unit reference, depth first, in descriptor order (R24). A nesting without cycles is at most 257
units deep. -/
def State.leavesOf (s : State) : Nat → Nat → List Nat
  | 0, _ => []
  | fuel + 1, ref =>
    if ref < 0x8000 then (if ref < 192 then [ref] else [])
    else ((s.members (ref - 0x8000)).getD []).flatMap (s.leavesOf fuel)

/-- The expansion of a unit (R24). -/
def State.expansion (s : State) (ref : Nat) : List Nat := s.leavesOf 257 ref

/-- A unit reference that names an Easel or a defined atelier (R25). -/
def State.unitOk (s : State) (ref : Nat) : Bool :=
  ref < 192 || (0x8000 ≤ ref && ref < 0x8100 && (s.members (ref - 0x8000)).isSome)

/-- The lead Easel of a unit (R24). -/
def State.lead (s : State) (ref : Nat) : Nat := (s.expansion ref).headD 0

/-- Levels below a unit (R28 depth). -/
def State.depthOf (s : State) : Nat → Nat → Nat
  | 0, _ => 0
  | fuel + 1, ref =>
    if ref < 0x8000 then 0
    else 1 + (((s.members (ref - 0x8000)).getD []).map (s.depthOf fuel)).foldl max 0

/-- Entry point of a unit's descriptor (R28). A single Easel has no descriptor, and the manual gives the built-in descriptors no entry: both
use 0. (Log 129 DESIGN CHOICE) -/
def State.defaultEntry (s : State) (ref : Nat) : Nat :=
  if ref < 0x8000 then 0 else match tfind s.ateliers (ref - 0x8000) with | some a => a.entry | none => 0

/-- Die, cluster within the die and member position of a logical Easel (R9). -/
def dieOf (e : Nat) : Nat := e / 32
def clusterOf (e : Nat) : Nat := e / 8

/-! ### Partitions and their Easels -/

/-- Numbers of the partitions that exist. -/
def State.partIds (s : State) : List Nat := s.parts.map (·.1)

/-- The leaves of a partition's root atelier (R33). -/
def State.partLeaves (s : State) (p : Nat) : List Nat :=
  match s.part? p with | none => [] | some P => s.expansion P.root.toNat

/-- The partition whose root holds an Easel, lowest number first. -/
def State.owner (s : State) (e : Nat) : Option Nat := s.partIds.find? (fun p => (s.partLeaves p).contains e)

/-- The dispatch an Easel runs. -/
def State.dispOf (s : State) (e : Nat) : Option Disp := s.disps.find? (fun d => d.running.contains e)

/-- ECR_PART.PARTITION (R153): the partition whose work runs on an Easel. -/
def State.workPart (s : State) (e : Nat) : Nat :=
  match (s.easel e).loan with
  | some l => l.borrower
  | none => match s.dispOf e with | some d => d.part | none => (s.owner e).getD 0

/-! ### Device memory (R18 to R22) -/

/-- A device byte (R379: memory that nothing has written reads zero). -/
def State.dev (s : State) (a : Nat) : Byte := mread 0 s.mem.dev a
def State.devN (s : State) (a n : Nat) : List Byte := mreadN 0 s.mem.dev a n
def State.devLE (s : State) (a n : Nat) : Nat := leNat (s.devN a n)

def galleryBase (die : Nat) : Nat := 0x1000000000 + die * 0x4000000
def medBase : Nat := 0x1080000000
def hubBase : Nat := 0x10C0000000
def gallerySize : Nat := 0x2000000
def medSize : Nat := 0x3400000
def groupSize : Nat := 0x60000000

/-- The window an address range lies in (R18). -/
inductive Window where
  | gddr (group : Nat) (off : Nat)
  | gallery (die : Nat) (off : Nat)
  | med (off : Nat)
  | hub (off : Nat)
  | hole
  deriving DecidableEq, Repr

/-- The usable window of an address (R18). -/
def windowOf (a : Nat) : Window :=
  if a < 0x800000000 then (if a % 0x80000000 < groupSize then .gddr (a / 0x80000000) (a % 0x80000000) else .hole)
  else if galleryBase 0 ≤ a && a < galleryBase 6 then
    (if a % 0x4000000 < gallerySize then .gallery ((a - galleryBase 0) / 0x4000000) (a % 0x4000000) else .hole)
  else if medBase ≤ a && a < medBase + medSize then .med (a - medBase)
  else if hubBase ≤ a && a < 0x10C1400000 then .hub (a - hubBase)
  else .hole

/-! ### The GDDR6 banks (R383, R387): an access changes no data -/

/-- Where a group offset lies (R383). -/
structure Placement where
  channel : Nat
  bank    : Nat
  row     : Nat
  column  : Nat
  deriving DecidableEq, Repr

/-- place (R383); `bank` holds bank group in [1:0] and bank in [3:2]. -/
def place (a : Nat) : Placement :=
  let unit := a / 128
  let w := unit / 2
  let page := w / 12
  let row := page / 16
  { channel := unit % 2, bank := Nat.xor (page % 16) (row % 16), row := row, column := 5 * (w % 12) + a % 128 / 32 }

/-- Key of a bank in State. -/
def bankKey (group channel bank : Nat) : Nat := 32 * group + 16 * channel + bank

def State.bank (s : State) (k : Nat) : Bank := tget {} s.mem.banks k
def State.setBank (s : State) (k : Nat) (b : Bank) : State := { s with mem := { s.mem with banks := tset {} s.mem.banks k b } }

/-- Bits set in a bank's history. -/
def ones4 (h : BitVec 4) : Nat := ((List.range 4).filter (fun i => h.getLsbD i)).length

/-- An access to a row of a bank (R387): the history takes 1 for a hit, and the row stays open only when it then holds two or
more 1 bits. (Log 46 DEDUCED) -/
def Bank.access (b : Bank) (row : Nat) : Bank :=
  let hit := b.openRow = some row
  let h := (b.hist <<< 1) ||| (if hit then 1 else 0)
  { b with openRow := if 2 ≤ ones4 h then some row else none, hist := h }

/-- The 128-byte unit of a GDDR6 address is accessed. -/
def touchUnit (t : Tbl Bank) (a : Nat) : Tbl Bank :=
  match windowOf a with
  | .gddr g off =>
    let p := place off
    let k := bankKey g p.channel p.bank
    tset {} t k ((tget {} t k).access p.row)
  | _ => t

/-- The units of a range, in address order. The twelve units of a row leave a bank's history at all ones or all zeros, and further whole
rows then keep it so: of a long range the first and the last units decide. (Log 46 DEDUCED) -/
def rangeUnits (r : Nat × Nat) : List Nat :=
  let n := (r.1 + r.2 - 1) / 128 - r.1 / 128 + 1
  if r.2 = 0 then []
  else ((List.range (min n 1024)) ++ (List.range (min (n - 1024) 1024)).map (fun i => n - min (n - 1024) 1024 + i)).map (fun i => 128 * (r.1 / 128 + i))

/-- Every unit of some ranges is accessed. -/
def touchBanks (t : Tbl Bank) (rs : List (Nat × Nat)) : Tbl Bank := (rs.flatMap rangeUnits).foldl touchUnit t
def State.touch (s : State) (rs : List (Nat × Nat)) : State := { s with mem := { s.mem with banks := touchBanks s.mem.banks rs } }

/-! ### Writes -/

/-- The injected flips that a write leaves: a word written whole loses them (R398). (Log 44 DEDUCED) -/
def State.keepFlips (s : State) (hit : Nat → Bool) : Tbl (List Nat) :=
  s.mem.flips.filter (fun f => !((List.range 8).all (fun i => hit (f.1 + i))))

/-- Ranges of the 128-byte units that single bytes lie in, in the order of their first byte. -/
def byteUnits (l : List (Nat × Byte)) : List (Nat × Nat) :=
  (l.foldl (fun acc x => if acc.head? = some (x.1 / 128) then acc else x.1 / 128 :: acc) []).reverse.map (fun u => (128 * u, 128))

/-- Bytes written to device memory; each write is an access to its banks (R387). -/
def State.setDev (s : State) (l : List (Nat × Byte)) : State :=
  { s with mem := { s.mem with dev := mwriteL 0 s.mem.dev l, flips := s.keepFlips (fun a => l.any (fun x => x.1 = a))
                               banks := touchBanks s.mem.banks (byteUnits l) } }
def State.setDevN (s : State) (a : Nat) (b : List Byte) : State :=
  { s with mem := { s.mem with dev := mwriteN 0 s.mem.dev a b, flips := s.keepFlips (fun x => a ≤ x && x < a + b.length)
                               banks := touchBanks s.mem.banks [(a, b.length)] } }

/-- Memory that loses its contents: it reads as zeros, and no access is made (R393). -/
def State.forgetDev (s : State) (a n : Nat) : State :=
  { s with mem := { s.mem with dev := mclear s.mem.dev a n, flips := s.keepFlips (fun x => a ≤ x && x < a + n) } }

/-- Zeros written over a range. -/
def State.clearDev (s : State) (a n : Nat) : State :=
  { s with mem := { s.mem with dev := mclear s.mem.dev a n, flips := s.keepFlips (fun x => a ≤ x && x < a + n)
                               banks := touchBanks s.mem.banks [(a, n)] } }

/-- Two addresses lie in one usable window. -/
def sameWindow (w v : Window) : Bool :=
  match w, v with
  | .gddr a _, .gddr b _ => a = b
  | .gallery a _, .gallery b _ => a = b
  | .med _, .med _ => true
  | .hub _, .hub _ => true
  | _, _ => false

/-- A byte range that lies whole in one usable window; an empty range does too. -/
def rangeIn (r : Nat × Nat) (ok : Window → Bool) : Bool :=
  r.2 = 0 || (ok (windowOf r.1) && ok (windowOf (r.1 + r.2 - 1)) && sameWindow (windowOf r.1) (windowOf (r.1 + r.2 - 1)))

/-- State of a memory group: 0 ACTIVE (R391). -/
def State.groupState (s : State) (g : Nat) : Nat := tget 0 s.mem.groups g

/-- Windows that FETCH, PUT and a Primer job may reach (R20, R375, R394): GDDR6 in an ACTIVE group, the Galleries, and the
stillness pool. -/
def State.reachable (s : State) (w : Window) : Bool :=
  match w with
  | .gddr g _ => s.groupState g = 0
  | .gallery _ _ => true
  | .med off => off < 0x400000
  | _ => false

/-- Offset of a Gallery granule (R295). -/
def granuleOff (g : Nat) : Nat := 0x40000 + 0x10000 * g

/-- A partition owns a byte (R21, R22, R295); the stillness maps belong to their sitters' partition (R123, R396). -/
def State.ownsByte (s : State) (p a : Nat) : Bool :=
  match windowOf a with
  | .gddr g off => (s.part p).mem.any (fun m => m.1 = g && m.2.1 * 0x1000000 ≤ off && off < (m.2.1 + m.2.2) * 0x1000000)
  | .gallery d off => 0x40000 ≤ off && (s.part p).gallery.contains (d, (off - 0x40000) / 0x10000)
  | .med off => s.sitters.any (fun x => x.2.state ≠ 0 && x.2.partition = p && x.2.stillOff ≤ off && off < x.2.stillOff + x.2.stillLen)
  | _ => false

/-- An address in each 64 KiB granule that a range touches. -/
def rangePoints (r : Nat × Nat) : List Nat :=
  if r.2 = 0 then []
  else (r.1 + r.2 - 1) :: (List.range (r.2 / 0x10000 + 1)).map (fun i => r.1 + 0x10000 * i)

/-- Where a stillness map begins or ends within a range (R123). -/
def State.mapEdges (s : State) (r : Nat × Nat) : List Nat :=
  (s.sitters.flatMap (fun x => [medBase + x.2.stillOff, medBase + x.2.stillOff + x.2.stillLen])).filter (fun a => r.1 ≤ a && a < r.1 + r.2)

/-- A partition owns every byte of a range: ownership changes only at 64 KiB boundaries and, in the stillness pool, where a map begins or ends. -/
def State.ownsRange (s : State) (p : Nat) (r : Nat × Nat) : Bool :=
  (rangePoints r ++ s.mapEdges r).all (fun a => (a < r.1 + r.2 && s.ownsByte p a) || r.1 + r.2 ≤ a)

/-! ### Host doorbells and vectors (R412, R435, R437) -/

def State.doorbell (s : State) (w : Nat) : Doorbell := tget {} s.host.doorbells w
def State.setDoorbell (s : State) (w : Nat) (d : Doorbell) : State :=
  { s with host := { s.host with doorbells := tset {} s.host.doorbells w d } }

/-- An MSI-X vector is raised: its pending bit is set until the message is sent (R412). -/
def State.raise (s : State) (v : Nat) : State :=
  { s with pcie := { s.pcie with pba := s.pcie.pba ||| BitVec.ofNat 256 (2 ^ (v % 256)) } }

/-- A host doorbell word gains bits: its vector is raised when a masked-in bit goes from 0 to 1 (R435). -/
def State.ringHost (s : State) (w : Nat) (b : U32) : State :=
  let d := s.doorbell w
  let s' := s.setDoorbell w { d with pend := d.pend ||| b }
  if (b &&& ~~~d.pend) &&& d.mask ≠ 0 then s'.raise d.vector.toNat else s'

/-- A bit of the device word DB_HOST16 is set (R436). -/
def State.ringDevice (s : State) (bit : Nat) : State := s.ringHost 16 (BitVec.ofNat 32 (2 ^ bit))

/-! ### Error log and counters (R380) -/

/-- Die number in the counter key: 0 to 5 compute dies, 6 MED, 7 HUB. -/
def dieOfWindow (w : Window) : Nat :=
  match w with
  | .gddr g _ => if g < 4 then 6 else (g - 4) / 2
  | .gallery d _ => d
  | .med _ => 6
  | _ => 7

/-- Array code of R380 for a device address. -/
def arrayOfWindow (w : Window) : Nat :=
  match w with
  | .gddr _ _ => 6
  | .gallery _ _ => 3
  | .med _ => 4
  | _ => 5

/-- Owner byte of an address: its partition, 0xFE device, 0xFF none (R380, R396). The Curator's allocations belong to the sitter's
or package's partition. -/
def State.wordOwner (s : State) (a : Nat) : Nat :=
  match s.partIds.find? (fun p => s.ownsByte p a) with
  | some p => p
  | none =>
    match s.sitters.find? (fun x => x.2.state ≠ 0 &&
        ((x.2.slots.toNat ≤ a && a < x.2.slots.toNat + x.2.slotBytes * 32) && s.mem.allocs.any (fun m => m.1 = x.2.slots.toNat && a < m.1 + m.2)
          || x.2.esAddr.toNat ≤ a && s.mem.allocs.any (fun m => m.1 = x.2.esAddr.toNat && a < m.1 + m.2))) with
    | some x => x.2.partition
    | none =>
      match s.parts.find? (fun x => match x.2.pkg with
          | some k => k.copyAddr ≤ a && s.mem.allocs.any (fun m => m.1 = k.copyAddr && a < m.1 + m.2)
          | none => false) with
      | some x => x.1
      | none => match windowOf a with
        | .gddr g _ =>
          -- decoder contexts, 64 KiB for each sitter from the start of MG0 (R106)
          if g = 0 && a < 0x8000000 && (s.sitter (a / 0x10000)).state ≠ 0 then (s.sitter (a / 0x10000)).partition
          else if s.mem.allocs.any (fun m => m.1 ≤ a && a < m.1 + m.2) then 0xFE else 0xFF
        | .gallery _ off => if off < 0x40000 then 0xFE else 0xFF
        | .med off =>
          -- the context cache: entry k holds the context of one sitter (R106, R375)
          if off < 0x400000 then 0xFF
          else if off < 0x1400000 then (match tfind s.med.contexts ((off - 0x400000) / 0x10000) with | some n => (s.sitter n).partition | none => 0xFF)
          else 0xFE
        | _ => 0xFE

/-- A record of the error log (R380). -/
def errRecord (kind array agent easel owner : Nat) (addr : Nat) (time : U64) (b0 b1 : Nat) : List Byte :=
  [1, BitVec.ofNat 8 kind, BitVec.ofNat 8 array, BitVec.ofNat 8 agent] ++ leBytes 2 easel ++ [BitVec.ofNat 8 owner, 0]
    ++ leBytes 8 addr ++ leBytes 8 time.toNat ++ [BitVec.ofNat 8 b0, BitVec.ofNat 8 b1] ++ List.replicate 6 0

/-- A record appended to the log of 64: a new record overwrites the oldest, and ERROR_LOG is set (R380, R436). -/
def State.logError (s : State) (r : List Byte) : State :=
  { s with mem := { s.mem with errLog := tset [] s.mem.errLog (s.mem.errCount.toNat % 64) r, errCount := s.mem.errCount + 1 } }.ringDevice 5

/-- One of the three counters of a die and array, 48 bits, stepped (R380); c: 0 one bit, 1 two bits, 2 uncorrectable. -/
def State.countError (s : State) (die array c : Nat) : State :=
  let k := 0x100 * die + 0x10 * array + c
  { s with mem := { s.mem with eccCnt := tset 0 s.mem.eccCnt k (tget 0 s.mem.eccCnt k + 1) } }

end Sys2Proof.Machine
end

