-- ==== Sys2Proof/Machine/PaletteMath.lean ====
section
/-!
DEFINITION. What the Palette's tensor forms (R246 to R254) and the Primer's jobs (R261 to R263) check and compute, as functions of their
blocks and of the bytes they read.
-/
namespace Sys2Proof.Machine

/-- A local tensor reference (R247). -/
structure LRef where
  data   : Nat
  scales : Nat
  list   : Nat
  pitch  : Nat
  format : Nat
  eMax   : Nat
  tau    : BitVec 32
  rsv    : Nat
  deriving DecidableEq, Repr

/-- A parameter block (R248). -/
structure PBlock where
  inp   : LRef
  out   : LRef
  in2   : LRef
  in2Zero : Bool
  bias  : Nat
  gamma : Nat
  hIn   : Nat
  wIn   : Nat
  c     : Nat
  hOut  : Nat
  wOut  : Nat
  cOut  : Nat
  kh : Nat
  kw : Nat
  sy : Nat
  sx : Nat
  dy : Nat
  dx : Nat
  padTop  : Nat
  padLeft : Nat
  act   : Nat
  op    : Nat
  flags : Nat
  cg    : Nat
  eps   : BitVec 32
  rsvZero : Bool
  deriving DecidableEq, Repr

def decodeRef (b : List Byte) (o : Nat) : LRef :=
  { data := fieldLE b o 4, scales := fieldLE b (o + 4) 4, list := fieldLE b (o + 8) 4, pitch := fieldLE b (o + 12) 2
    format := fieldLE b (o + 14) 1, eMax := fieldLE b (o + 15) 1, tau := BitVec.ofNat 32 (fieldLE b (o + 16) 4)
    rsv := fieldLE b (o + 20) 4 }

def decodePBlock (b : List Byte) : PBlock :=
  { inp := decodeRef b 0, out := decodeRef b 24, in2 := decodeRef b 48, in2Zero := allZero (fieldBytes b 48 24)
    bias := fieldLE b 72 4, gamma := fieldLE b 76 4
    hIn := fieldLE b 80 2, wIn := fieldLE b 82 2, c := fieldLE b 84 2
    hOut := fieldLE b 86 2, wOut := fieldLE b 88 2, cOut := fieldLE b 90 2
    kh := fieldLE b 92 1, kw := fieldLE b 93 1, sy := fieldLE b 94 1, sx := fieldLE b 95 1
    dy := fieldLE b 96 1, dx := fieldLE b 97 1, padTop := fieldLE b 98 1, padLeft := fieldLE b 99 1
    act := fieldLE b 100 1, op := fieldLE b 101 1, flags := fieldLE b 102 1, cg := fieldLE b 103 1
    eps := BitVec.ofNat 32 (fieldLE b 104 4), rsvZero := allZero (fieldBytes b 108 20) }

/-- Element size of a local tensor (R247). -/
def refSize (f : Nat) : Nat := if f = 6 then 4 else if f = 4 || f = 5 then 2 else 1

/-- The tensor forms by major opcode less 0x20 (R246). -/
def fQuant : Nat := 0
def fSoftmax : Nat := 1
def fLnorm : Nat := 2
def fRms : Nat := 3
def fPool : Nat := 4
def fDw : Nat := 5
def fGc : Nat := 6
def fEwise : Nat := 7

/-- Forms with a kernel. -/
def hasKernel (form : Nat) : Bool := form = fPool || form = fDw || form = fGc
def isConv (form : Nat) : Bool := form = fDw || form = fGc

/-- Output height, width and channels: a form without a kernel keeps its input's. -/
def outH (form : Nat) (p : PBlock) : Nat := if hasKernel form then p.hOut else p.hIn
def outW (form : Nat) (p : PBlock) : Nat := if hasKernel form then p.wOut else p.wIn
def outC (form : Nat) (p : PBlock) : Nat := if isConv form then p.cOut else p.c

/-- in2 is used by the two convolutions, and by PEWISE unless its op is ACT. -/
def usesIn2 (form : Nat) (p : PBlock) : Bool := isConv form || (form = fEwise && p.op ≠ 3)

/-- A positive finite value or +0.0. -/
def nonNegFinite (x : BitVec 32) : Bool := !fNeg x && !fIsNan x && !fIsInf x

/-- τ under R224. -/
def tauOk (x : BitVec 32) : Bool := !fNeg x && !fIsNan x

/-- First failing field of a tensor reference, as an offset within it (R247); `tauUsed`: an INT8 output. -/
def refCheck (r : LRef) (c : Nat) (out : Bool) : Option Nat :=
  let scaled := r.format = 0 || r.format = 2 || r.format = 3
  if !scaled && r.scales ≠ 0 then some 4
  else if !(r.format = 0 && 0 < r.eMax) && r.list ≠ 0 then some 8
  else if r.pitch = 0 || 32768 < r.pitch || r.pitch * 64 < c * refSize r.format then some 12
  else if 6 < r.format then some 14
  else if !([0, 1, 2, 4, 8].contains r.eMax) || (r.format ≠ 0 && r.eMax ≠ 0) then some 15
  else if (if out && r.format = 0 then !tauOk r.tau else r.tau ≠ 0) then some 16
  else if r.rsv ≠ 0 then some 20
  else none

/-- The check of a field: its offset when it fails. -/
def bad (off : Nat) (fails : Bool) : Option Nat := if fails then some off else none

/-- The first of some checks that fails. -/
def firstBad : List (Option Nat) → Option Nat
  | [] => none
  | some x :: _ => some x
  | none :: l => firstBad l

/-- The field checks of a block, in offset order (EX_PALETTE_PARAM): limits of R248, R252, R253, and unused fields zero (R248). (Log 91 DEDUCED) -/
def pParamCheck (form : Nat) (p : PBlock) : Option Nat :=
  let k := hasKernel form
  let kmax := if form = fPool then 15 else 9
  let smax := if form = fPool then 15 else 4
  let used (u : Bool) (v lo hi : Nat) : Bool := if u then v < lo || hi < v else v ≠ 0
  firstBad [
    (refCheck p.inp p.c false),
    (refCheck p.out (outC form p) true).map (24 + ·),
    (if usesIn2 form p then (if isConv form then
        (firstBad [refCheck p.in2 (if form = fGc then p.cg else 1) false,
          bad 14 (p.in2.format ≠ 0 && p.in2.format ≠ 4), bad 15 (p.in2.eMax ≠ 0)]).map (48 + ·)
      else (refCheck p.in2 p.c false).map (48 + ·)) else bad 48 (!p.in2Zero)),
    bad 72 (!(isConv form || form = fLnorm) && p.bias ≠ 0),
    bad 76 (!(form = fLnorm || form = fRms) && p.gamma ≠ 0),
    bad 80 (p.hIn = 0 || 4096 < p.hIn), bad 82 (p.wIn = 0 || 4096 < p.wIn), bad 84 (p.c = 0),
    bad 86 (!k && p.hOut ≠ 0 && p.hOut ≠ p.hIn), bad 88 (!k && p.wOut ≠ 0 && p.wOut ≠ p.wIn),
    bad 90 (if form = fDw then p.cOut ≠ p.c
      else if form = fGc then p.cg ≠ 0 && (p.c % p.cg ≠ 0 || p.cOut % (p.c / p.cg) ≠ 0 || p.cOut / (p.c / p.cg) = 0
        || 16 < p.cOut / (p.c / p.cg))
      else p.cOut ≠ 0 && p.cOut ≠ p.c),
    bad 92 (used k p.kh 1 kmax), bad 93 (used k p.kw 1 kmax), bad 94 (used k p.sy 1 smax), bad 95 (used k p.sx 1 smax),
    bad 96 (used k p.dy 1 (if form = fPool then 1 else 255)), bad 97 (used k p.dx 1 (if form = fPool then 1 else 255)),
    bad 98 (!k && p.padTop ≠ 0), bad 99 (!k && p.padLeft ≠ 0),
    bad 100 (7 < p.act),
    bad 101 (used (form = fPool || form = fEwise) p.op 0 (if form = fPool then 1 else 3)),
    bad 102 (if form = fPool && p.op = 1 then 1 < p.flags else p.flags ≠ 0),
    bad 103 (used (form = fGc) p.cg 1 16),
    bad 104 (if form = fLnorm || form = fRms then !nonNegFinite p.eps else p.eps ≠ 0),
    bad 108 (!p.rsvZero)]

/-- Extents (offset of the field in the reference, address, bytes) of a tensor of `rows` rows of c elements: codes, scales, lists. -/
def refExtents (r : LRef) (rows c : Nat) : List (Nat × Nat × Nat) :=
  if rows = 0 then [] else
    [(0, r.data, 64 * (rows - 1) * r.pitch + c * refSize r.format)]
      ++ (if r.format = 0 || r.format = 2 || r.format = 3 then [(4, r.scales, 4 * rows)] else [])
      ++ (if r.eMax = 0 then [] else [(8, r.list, 8 * r.eMax * rows)])

/-- Rows of the weights tensor, and elements in one (R248). -/
def weightRows (p : PBlock) : Nat := p.cOut * p.kh * p.kw

/-- Extents a form reads, with the block offset of the field that names each. -/
def pInputs (form : Nat) (p : PBlock) : List (Nat × Nat × Nat) :=
  let tag (off : Nat) (l : List (Nat × Nat × Nat)) := l.map (fun x => (off + x.1, x.2))
  let ch := outC form p
  tag 0 (refExtents p.inp (p.hIn * p.wIn) p.c)
    ++ (if !usesIn2 form p then []
        else if isConv form then
          tag 48 ((refExtents { p.in2 with format := if p.in2.format = 0 then 1 else p.in2.format } (weightRows p)
            (if form = fGc then p.cg else 1)) ++ (if p.in2.format = 0 then [(4, p.in2.scales, 4 * p.cOut)] else []))
        else tag 48 (refExtents p.in2 (p.hIn * p.wIn) p.c))
    ++ (if p.bias = 0 then [] else [(72, p.bias, 4 * ch)])
    ++ (if p.gamma = 0 then [] else [(76, p.gamma, 4 * ch)])

/-- Extents a form writes. -/
def pOutputs (form : Nat) (p : PBlock) : List (Nat × Nat × Nat) :=
  (refExtents p.out (outH form p * outW form p) (outC form p)).map (fun x => (24 + x.1, x.2))

/-- Two byte ranges share a byte. -/
def overlap (a b : Nat × Nat) : Bool := a.1 < b.1 + b.2 && b.1 < a.1 + a.2

/-- The address checks of a block (EX_PALETTE_RANGE) in offset order: alignment, extents and overlap (R246, R247); an overlap counts
against the output's field. (Log 91 DEDUCED) -/
def pRangeCheck (form : Nat) (p : PBlock) (limit : Nat) : Option Nat :=
  let outs := pOutputs form p
  let ins := pInputs form p
  let far (x : Nat × Nat × Nat) : Option Nat := bad x.1 (limit < x.2.1 + x.2.2)
  let meets (o : Nat × Nat × Nat) : Bool := ins.any (fun i => overlap (o.2.1, o.2.2) (i.2.1, i.2.2))
  firstBad (
    bad 0 (p.inp.data % 64 ≠ 0) :: (ins.filter (fun x => x.1 < 24)).map far
      ++ bad 24 (p.out.data % 64 ≠ 0) :: outs.map (fun o => firstBad [far o, bad o.1 (meets o)])
      ++ bad 48 (usesIn2 form p && p.in2.data % 64 ≠ 0) :: (ins.filter (fun x => 48 ≤ x.1)).map far)

/-! ### Elements and rows -/

/-- The code of an element as FP32, an INT8 escape read as 0 (R219, R249). -/
def codeVal (format : Nat) (code : Nat) : BitVec 32 :=
  match format with
  | 0 => if code = 0x80 then 0 else intToF (BitVec.ofNat 8 code).toInt
  | 1 => intToF code
  | 2 => widenF fmtE4M3 code
  | 3 => widenF fmtE5M2 code
  | 4 => widenF fmtBF16 code
  | 5 => widenF fmtFP16 code
  | _ => BitVec.ofNat 32 code

def refCode (rd : Nat → Nat → List Byte) (t : LRef) (row c : Nat) : Nat :=
  leNat (rd (t.data + 64 * row * t.pitch + c * refSize t.format) (refSize t.format))

/-- Row scale of a row; 1.0 where the format carries none (R222). -/
def refScale (rd : Nat → Nat → List Byte) (t : LRef) (row : Nat) : BitVec 32 :=
  if t.format = 0 || t.format = 2 || t.format = 3 then BitVec.ofNat 32 (leNat (rd (t.scales + 4 * row) 4)) else fOne

/-- List entries of a row that count (R227). -/
def refList (rd : Nat → Nat → List Byte) (t : LRef) (row ch : Nat) : List (Nat × BitVec 32) :=
  (listEntries t.eMax (rd (t.list + 8 * t.eMax * row) (8 * t.eMax))).filter (fun e => e.1 ≠ 0xFFFF && e.1 < ch)

/-- The value of an element as a form reads it (R249). -/
def elemX (rd : Nat → Nat → List Byte) (t : LRef) (row ch c : Nat) : FX :=
  let v := codeVal t.format (refCode rd t row c)
  if t.format = 0 || t.format = 2 || t.format = 3 then
    activate 0 (rescale [{ acc := v, sa := refScale rd t row
                           corr := ((refList rd t row ch).filter (fun e => e.1 = c)).map (fun e => (fOne, e.2)) }] fOne none)
  else fx v

def rowX (rd : Nat → Nat → List Byte) (t : LRef) (row ch : Nat) : List FX := (List.range ch).map (elemX rd t row ch)

/-- Bytes placed from an address on. -/
def putAt (a : Nat) (b : List Byte) : List (Nat × Byte) := ((List.range b.length).map (a + ·)).zip b

/-- SAT of a conversion. -/
def satFlag (b : Bool) : BitVec 5 := if b then 16 else 0

/-- One element converted under R219: its code and flags. -/
def convElem (format : Nat) (x : BitVec 32) : Nat × BitVec 5 :=
  match format with
  | 1 => let v := fToInt x 0 255; (v.1.toNat, satFlag v.2)
  | 4 => let r := encodeF fmtBF16 (fv x); (r, if !fIsInf x && r % 2 ^ 15 = fmtBF16.top then 8 else 0)
  | 5 => let r := encodeF fmtFP16 (fv x); (r, if !fIsInf x && r % 2 ^ 15 = fmtFP16.top then 8 else 0)
  | _ => (x.toNat, 0)

/-- Activation and step 7 (R233) of one output row: the bytes written, and the flags. -/
def outRow (t : LRef) (act row : Nat) (ys : List FX) : List (Nat × Byte) × BitVec 5 :=
  let zs := ys.map (activate act)
  let f0 := zs.foldl (fun f z => f ||| z.f) 0
  let at_ := t.data + 64 * row * t.pitch
  let q (r : QRow) : List (Nat × Byte) × BitVec 5 :=
    (putAt at_ r.codes ++ putAt (t.scales + 4 * row) (leBytes 4 r.scale.toNat)
      ++ (if t.eMax = 0 then [] else putAt (t.list + 8 * t.eMax * row) (listBytes t.eMax r.out)),
     f0 ||| r.f ||| satFlag r.sat ||| (if r.qinf then 2 else 0) ||| (if r.qnan then 1 else 0))
  match t.format with
  | 0 => q (quantise (zs.map (·.v)) t.tau t.eMax)
  | 2 => q (quantiseF8 fmtE4M3 (zs.map (·.v)))
  | 3 => q (quantiseF8 fmtE5M2 (zs.map (·.v)))
  | f =>
    let cs := zs.map (fun z => convElem f z.v)
    (putAt at_ (cs.flatMap (fun c => leBytes (refSize f) c.1)), cs.foldl (fun f c => f ||| c.2) f0)

/-- f32 value i of an array in the local store. -/
def f32At (rd : Nat → Nat → List Byte) (a i : Nat) : BitVec 32 := BitVec.ofNat 32 (leNat (rd (a + 4 * i) 4))

/-- PSOFTMAX of one row (R250). -/
def softmaxRow (xs : List FX) : List FX :=
  let fl := xs.foldl (fun f x => f ||| x.f) 0
  if xs.any (fun x => fIsNan x.v) then xs.map (fun _ => ⟨fNan, fl⟩)
  else
    let m := match xs with | [] => 0 | x :: r => r.foldl (fun m y => fmax m y.v) x.v
    if m = 0x7F800000 then
      let n := (xs.filter (fun x => x.v = 0x7F800000)).length
      xs.map (fun x => if x.v = 0x7F800000 then ⟨fdiv fOne (intToF n), fl⟩ else ⟨0, fl⟩)
    else
      let e := xs.map (fun x => activate 7 (xsub x (fx m)))
      let r := xdiv (fx fOne) (osum e)
      e.map (fun x => xmul x r)

/-- PLNORM (`ln`) and PRMSNORM of one row (R251). -/
def normRow (ln : Bool) (eps : BitVec 32) (gamma beta : Option (Nat → BitVec 32)) (xs : List FX) : List FX :=
  let c := fx (intToF xs.length)
  let mu := xdiv (osum xs) c
  let d := if ln then xs.map (fun x => xsub x mu) else xs
  let v := xdiv (osum (d.map (fun x => xmul x x))) c
  let r := xdiv (fx fOne) (xsqrt (xadd v (fx eps)))
  ((List.range d.length).zip d).map (fun x =>
    let y := xmul x.2 r
    let y := match gamma with | none => y | some g => xmul y (fx (g x.1))
    match beta with | none => y | some b => if ln then xadd y (fx (b x.1)) else y)

/-- The in-bounds taps of an output position in kernel raster order: (tap index, input row) (R248). -/
def taps (p : PBlock) (yo xo : Nat) : List (Nat × Nat) :=
  (List.range (p.kh * p.kw)).filterMap (fun t =>
    let yi : Int := (yo * p.sy + t / p.kw * p.dy : Nat) - (p.padTop : Int)
    let xi : Int := (xo * p.sx + t % p.kw * p.dx : Nat) - (p.padLeft : Int)
    if 0 ≤ yi && yi < p.hIn && 0 ≤ xi && xi < p.wIn then some (t, yi.toNat * p.wIn + xi.toNat) else none)

/-- PPOOL of one output position (R252). -/
def poolRow (rd : Nat → Nat → List Byte) (p : PBlock) (yo xo : Nat) : List FX :=
  let ts := taps p yo xo
  (List.range p.c).map (fun c =>
    let vs := ts.map (fun t => elemX rd p.inp t.2 p.c c)
    match vs with
    | [] => fx 0
    | x :: r =>
      if p.op = 0 then r.foldl xmax x
      else xdiv (r.foldl xadd x) (fx (intToF (if p.flags = 1 then p.kh * p.kw else ts.length))))

/-- One tap's accumulator: integer products exact, floating products added under R197 in ascending channel order (R253), with the flags
of the fused additions (R237). -/
def tapAcc (intLayer : Bool) (terms : List (BitVec 32 × BitVec 32)) : FX :=
  if intLayer then fx (rne32 (terms.foldl (fun a x => fvAdd a (fvMul (fv x.1) (fv x.2))) (.fin false 0 0)))
  else terms.foldl (fun a x =>
    let r := rne32 (fvAdd (fv a.v) (fvMul (fv x.1) (fv x.2)))
    ⟨r, a.f ||| (if fIsNan x.1 || fIsNan x.2 then 0 else if fIsInf x.1 || fIsInf x.2 then opFlags a.v x.1 r &&& 4 else opFlags a.v 0 r)⟩) (fx 0)

/-- PDWCONV and PGCONV of one output position (R253). -/
def convRow (rd : Nat → Nat → List Byte) (form : Nat) (p : PBlock) (yo xo : Nat) : List FX :=
  let ts := taps p yo xo
  let cg := if form = fGc then p.cg else 1
  let perGroup := if form = fGc then p.cOut / (p.c / p.cg) else 1
  let intLayer := p.inp.format ≤ 1 && p.in2.format = 0
  (List.range p.cOut).map (fun i =>
    let c0 := i / perGroup * cg
    let w (t k : Nat) : BitVec 32 := codeVal p.in2.format (refCode rd p.in2 (i * (p.kh * p.kw) + t) k)
    let segs := ts.map (fun t =>
      let a := tapAcc intLayer ((List.range cg).map (fun k => (codeVal p.inp.format (refCode rd p.inp t.2 (c0 + k)), w t.1 k)))
      { acc := a.v, f := a.f
        sa := refScale rd p.inp t.2
        corr := ((refList rd p.inp t.2 p.c).filter (fun e => c0 ≤ e.1 && e.1 < c0 + cg)).map (fun e => (w t.1 (e.1 - c0), e.2)) : Seg })
    rescale segs (if p.in2.format = 0 then f32At rd p.in2.scales i else fOne)
      (if p.bias = 0 then none else some (f32At rd p.bias i)))

/-- The values of one output row before its activation. -/
def formRow (rd : Nat → Nat → List Byte) (form : Nat) (p : PBlock) (row : Nat) : List FX :=
  let opt (a : Nat) : Option (Nat → BitVec 32) := if a = 0 then none else some (f32At rd a)
  if form = fPool then poolRow rd p (row / p.wOut) (row % p.wOut)
  else if isConv form then convRow rd form p (row / p.wOut) (row % p.wOut)
  else
    let x := rowX rd p.inp row p.c
    if form = fSoftmax then softmaxRow x
    else if form = fLnorm then normRow true p.eps (opt p.gamma) (opt p.bias) x
    else if form = fRms then normRow false p.eps (opt p.gamma) none x
    else if form = fEwise && p.op ≠ 3 then
      let y := rowX rd p.in2 row p.c
      List.zipWith (if p.op = 0 then xadd else if p.op = 1 then xsub else xmul) x y
    else x

/-- A whole tensor form: the bytes it writes to the local store, and its flags. -/
def runForm (rd : Nat → Nat → List Byte) (form : Nat) (block : List Byte) : List (Nat × Byte) × BitVec 5 :=
  let p := decodePBlock block
  (List.range (outH form p * outW form p)).foldl (fun acc row =>
    let o := outRow p.out p.act row (formRow rd form p row)
    (acc.1 ++ o.1, acc.2 ||| o.2)) ([], 0)

/-! ### The Primer -/

/-- A job block (R261). -/
structure JBlock where
  mode : Nat
  cOut : Nat
  cIn  : Nat
  hIn  : Nat
  wIn  : Nat
  hOut : Nat
  wOut : Nat
  kh : Nat
  kw : Nat
  sy : Nat
  sx : Nat
  dy : Nat
  dx : Nat
  padTop  : Nat
  padLeft : Nat
  box  : Nat
  eMax : Nat
  boxStride : Nat
  src  : Nat
  rowPitch : Nat
  pixPitch : Nat
  srcScales : Nat
  srcLists : Nat
  weights : Nat
  params : Nat
  offset : List Byte
  dst  : Nat
  dstScales : Nat
  dstLists : Nat
  tauOut : BitVec 32
  eMaxOut : Nat
  dstSpace : Nat
  rsv38 : Nat
  rsv80 : Bool
  rsv126 : Nat
  deriving DecidableEq, Repr

def decodeJBlock (b : List Byte) : JBlock :=
  { mode := fieldLE b 0 1, cOut := fieldLE b 1 1, cIn := fieldLE b 2 2, hIn := fieldLE b 4 2, wIn := fieldLE b 6 2
    hOut := fieldLE b 8 2, wOut := fieldLE b 10 2, kh := fieldLE b 12 1, kw := fieldLE b 13 1, sy := fieldLE b 14 1
    sx := fieldLE b 15 1, dy := fieldLE b 16 1, dx := fieldLE b 17 1, padTop := fieldLE b 18 1, padLeft := fieldLE b 19 1
    box := fieldLE b 20 1, eMax := fieldLE b 21 1, boxStride := fieldLE b 22 2, src := fieldLE b 24 8
    rowPitch := fieldLE b 32 4, pixPitch := fieldLE b 36 2, rsv38 := fieldLE b 38 2, srcScales := fieldLE b 40 8
    srcLists := fieldLE b 48 8, weights := fieldLE b 56 8, params := fieldLE b 64 8, offset := fieldBytes b 72 8
    rsv80 := allZero (fieldBytes b 80 16), dst := fieldLE b 96 8, dstScales := fieldLE b 104 8, dstLists := fieldLE b 112 8
    tauOut := BitVec.ofNat 32 (fieldLE b 120 4), eMaxOut := fieldLE b 124 1, dstSpace := fieldLE b 125 1
    rsv126 := fieldLE b 126 2 }

/-- The field checks of a job block, in offset order (EX_PRIMER_PARAM, R261, R264). (Log 91 DEDUCED) -/
def jParamCheck (j : JBlock) : Option Nat :=
  let first : Bool := j.mode = 0
  let out (v lo hi : Nat) : Bool := v < lo || hi < v
  firstBad [
    bad 0 (1 < j.mode), bad 1 (out j.cOut 1 (if first then 64 else 16)), bad 2 (out j.cIn 1 (if first then 8 else 4096)),
    bad 4 (out j.hIn 1 4096), bad 6 (out j.wIn 1 4096), bad 8 (out j.hOut 1 4096), bad 10 (out j.wOut 1 4096),
    bad 12 (out j.kh 1 (if first then 11 else 3)), bad 13 (out j.kw 1 (if first then 11 else 3)),
    bad 14 (out j.sy 1 4), bad 15 (out j.sx 1 4), bad 16 (out j.dy 1 255), bad 17 (out j.dx 1 255),
    bad 20 (if first then j.box ≠ 0 else 1 < j.box || (j.box = 1 && j.cOut < 4)),
    bad 21 (if first then j.eMax ≠ 0 else !([0, 1, 2, 4, 8].contains j.eMax)),
    bad 22 (if j.box = 1 then out j.boxStride 1 1024 else j.boxStride ≠ 0),
    bad 36 (j.pixPitch < j.cIn), bad 38 (j.rsv38 ≠ 0),
    bad 72 (!first && !allZero j.offset), bad 80 (!j.rsv80),
    bad 120 (first && !tauOk j.tauOut), bad 124 (first && !([0, 1, 2, 4, 8].contains j.eMaxOut)),
    bad 125 (1 < j.dstSpace), bad 126 (j.rsv126 ≠ 0)]

/-- What a job writes: (field offset, address, bytes). -/
def jOutputs (j : JBlock) : List (Nat × Nat × Nat) :=
  let n := j.hOut * j.wOut
  [(96, j.dst, 64 * (n - 1) + (if j.mode = 0 then j.cOut else 64))]
    ++ (if j.mode = 0 then [(104, j.dstScales, 4 * n)] ++ (if j.eMaxOut = 0 then [] else [(112, j.dstLists, 8 * j.eMaxOut * n)])
        else [])

/-- What a job reads from device memory. -/
def jInputs (j : JBlock) : List (Nat × Nat) :=
  let n := j.hIn * j.wIn
  [(j.src, (j.hIn - 1) * j.rowPitch + (j.wIn - 1) * j.pixPitch + j.cIn)]
    ++ (if j.mode = 1 then [(j.srcScales, 4 * n)] ++ (if j.eMax = 0 then [] else [(j.srcLists, 8 * j.eMax * n)]) else [])
    ++ [(j.weights, j.cOut * j.kh * j.kw * j.cIn), (j.params, 9 * j.cOut)]

/-- The alignment and local-store checks in offset order (EX_PRIMER_RANGE, R264). (Log 91 DEDUCED) -/
def jRangeCheck (j : JBlock) (limit : Nat) : Option Nat :=
  let far (off : Nat) : Option Nat :=
    if j.dstSpace = 1 then bad off ((jOutputs j).any (fun x => x.1 = off && limit < x.2.1 + x.2.2)) else none
  firstBad [
    bad 24 (j.src % 4 ≠ 0), bad 56 (j.weights % 64 ≠ 0), bad 64 (j.params % 4 ≠ 0), bad 96 (j.dst % 4 ≠ 0), far 96,
    bad 104 (j.mode = 0 && j.dstScales % 4 ≠ 0), far 104, far 112]

/-- The activation codes a job reads when it starts (R261, R264). -/
def jActs (rd : Nat → Nat → List Byte) (j : JBlock) : List Nat := (rd (j.params + 8 * j.cOut) j.cOut).map (·.toNat)

/-- The in-bounds taps of an output position: (tap index, y, x). -/
def jTaps (j : JBlock) (yo xo : Nat) : List (Nat × Nat × Nat) :=
  (List.range (j.kh * j.kw)).filterMap (fun t =>
    let yi : Int := (yo * j.sy + t / j.kw * j.dy : Nat) - (j.padTop : Int)
    let xi : Int := (xo * j.sx + t % j.kw * j.dx : Nat) - (j.padLeft : Int)
    if 0 ≤ yi && yi < j.hIn && 0 ≤ xi && xi < j.wIn then some (t, yi.toNat, xi.toNat) else none)

/-- A weight code (INT8) of output channel i, tap t, channel c (R261). -/
def jWeight (rd : Nat → Nat → List Byte) (j : JBlock) (i t c : Nat) : BitVec 32 :=
  codeVal 0 (leNat (rd (j.weights + (i * (j.kh * j.kw) + t) * j.cIn + c) 1))

/-- One output position's values, before quantisation (R262, R263). -/
def jPosition (rd : Nat → Nat → List Byte) (j : JBlock) (acts : List Nat) (yo xo : Nat) : List (BitVec 32) :=
  let ts := jTaps j yo xo
  let sw (i : Nat) := f32At rd j.params i
  let bias (i : Nat) := f32At rd j.params (j.cOut + i)
  let code (y x c : Nat) : Nat := leNat (rd (j.src + y * j.rowPitch + x * j.pixPitch + c) 1)
  (List.range j.cOut).map (fun i =>
    let segs : List Seg :=
      if j.mode = 0 then
        if ts.isEmpty then [] else
          [{ acc := (tapAcc true (ts.flatMap (fun t => (List.range j.cIn).map (fun c =>
                (intToF ((code t.2.1 t.2.2 c : Int) - ((j.offset.getD c 0).toNat : Int)), jWeight rd j i t.1 c))))).v
             sa := fOne, corr := [] }]
      else ts.map (fun t =>
        let p := t.2.1 * j.wIn + t.2.2
        { acc := (tapAcc true ((List.range j.cIn).map (fun c => (codeVal 0 (code t.2.1 t.2.2 c), jWeight rd j i t.1 c)))).v
          sa := f32At rd j.srcScales p
          corr := ((listEntries j.eMax (rd (j.srcLists + 8 * j.eMax * p) (8 * j.eMax))).filter
              (fun e => e.1 ≠ 0xFFFF && e.1 < j.cIn)).map (fun e => (jWeight rd j i t.1 e.1, e.2)) })
    (activate (acts.getD i 0) (rescale segs (sw i) (some (bias i)))).v)

/-- The box step of R263. -/
def jBox (j : JBlock) (yo xo : Nat) (v : List (BitVec 32)) : List (BitVec 32) :=
  if j.box = 0 then v
  else
    let centre (n : Nat) : BitVec 32 := rne32 (.fin false ((2 * n + 1) * j.boxStride) (-1))
    let s := intToF j.boxStride
    ((List.range v.length).zip v).map (fun x =>
      match x.1 with
      | 0 => fsub (centre xo) (fmul x.2 s)
      | 1 => fsub (centre yo) (fmul x.2 s)
      | 2 => fadd (centre xo) (fmul x.2 s)
      | 3 => fadd (centre yo) (fmul x.2 s)
      | _ => x.2)

/-- What a job writes for output position p, as addresses in its destination space. -/
def jobRow (rd : Nat → Nat → List Byte) (j : JBlock) (acts : List Nat) (p : Nat) : List (Nat × Byte) :=
  let v := jPosition rd j acts (p / j.wOut) (p % j.wOut)
  if j.mode = 0 then
    let q := quantise v j.tauOut j.eMaxOut
    putAt (j.dst + 64 * p) q.codes ++ putAt (j.dstScales + 4 * p) (leBytes 4 q.scale.toNat)
      ++ (if j.eMaxOut = 0 then [] else putAt (j.dstLists + 8 * j.eMaxOut * p) (listBytes j.eMaxOut q.out))
  else
    let w := jBox j (p / j.wOut) (p % j.wOut) v
    putAt (j.dst + 64 * p) ((w ++ List.replicate (16 - w.length) 0).flatMap (fun (x : BitVec 32) => leBytes 4 x.toNat))

/-- What a job writes for its first `n` output positions. -/
def jobPrefix (rd : Nat → Nat → List Byte) (j : JBlock) (acts : List Nat) (n : Nat) : List (Nat × Byte) :=
  (List.range n).flatMap (jobRow rd j acts)

/-- Every byte a job writes. -/
def runJob (rd : Nat → Nat → List Byte) (j : JBlock) (acts : List Nat) : List (Nat × Byte) := jobPrefix rd j acts (j.hOut * j.wOut)

end Sys2Proof.Machine
end

