-- ==== Sys2Proof/Machine/Except.lean ====
section
/-!
DEFINITION. What ends work: the local store behind a loan's window (R153), the abandoning of an Easel's operations (R281), the end of a
loan (R334), a partition's restart cause (R457), an Easel fault with its exception record (R184 to R188), and uncorrectable errors
(R395, R396).
-/
namespace Sys2Proof.Machine

/-! ### The local store as a program sees it -/

/-- Start and size of the local-store and instruction windows an Easel's program uses (R153). -/
def Easel.lsBase (E : Easel) : Nat := match E.loan with | some l => l.lBase * 0x10000 | none => 0
def Easel.lsLimit (E : Easel) : Nat := match E.loan with | some l => l.lSize * 0x10000 | none => 0x200000
/-- (Log 83 DEDUCED) -/
def Easel.codeLimit (E : Easel) : Nat := match E.loan with | some l => l.iSize * 0x1000 | none => 0xE000

/-- `n` local-store bytes at a program's address. -/
def Easel.rdLs (E : Easel) (a n : Nat) : List Byte := mreadN 0 E.ls (E.lsBase + a) n

/-- Bytes written at program addresses of the local store. -/
def Easel.wrLs (E : Easel) (l : List (Nat × Byte)) : Easel :=
  { E with ls := mwriteL 0 E.ls (l.map (fun x => (E.lsBase + x.1, x.2))) }

/-! ### Abandoned work -/

/-- The device bytes an outstanding PUT was to write. -/
def putOpWrites (E : Easel) (o : TrackOp) : List (Nat × Byte) :=
  putWrites (decodeDesc o.desc) o.o o.ta o.tb (fun off n => E.rdLs (o.rl.toNat + off) n)

/-- An abandoned PUT may have written any subset of its 64-byte lines (R281): a free value decides each line. (Log 90 DESIGN CHOICE) -/
def State.abandonPut (s : State) (E : Easel) (o : TrackOp) : State :=
  let keep (a : Nat) : Bool := (Config.freeValue (s.free + a / 64)).getLsbD 0
  { s.setDev ((putOpWrites E o).filter (fun x => keep x.1)) with free := s.free + 2 ^ 42 }

/-- A running Primer job stops at an output position: the positions before it are written (R265). A free value says where.
(Log 90 DESIGN CHOICE) -/
def State.stopJob (s : State) (j : PrimerJob) : State :=
  let b := decodeJBlock j.block
  if !j.started then s
  else
    let (x, s1) := s.draw
    let ws := jobPrefix s.devN b j.acts (x.toNat % (b.hOut * b.wOut + 1))
    if b.dstSpace = 1 then s1.setEasel j.easel ((s1.easel j.easel).wrLs ws) else s1.setDev ws

/-- An Easel's outstanding operations and queued work are abandoned (R184, R265, R281). (Log 90 DESIGN CHOICE) -/
def State.abandon (s : State) (e : Nat) : State :=
  let E := s.easel e
  let puts := (E.tracks.flatMap (·.2)).filter (·.put)
  let s1 := puts.foldl (fun s o => s.abandonPut E o) s
  let s2 := ((s1.primer (clusterOf e)).filter (fun j => j.easel = e)).foldl State.stopJob s1
  let s3 := s2.setEasel e { s2.easel e with tracks := [], frontQ := [], backQ := [], palQ := [] }
  s3.setPrimer (clusterOf e) ((s3.primer (clusterOf e)).filter (fun j => j.easel ≠ e))

/-! ### Loans -/

/-- A dispatch is dropped from the list of those not completed. -/
def State.dropDisps (s : State) (gone : Disp → Bool) : State := { s with disps := s.disps.filter (fun d => !gone d) }

/-- The Easel returns to the lender (R334): operations abandoned, Canvas sets and ECR_CVSTAT 0 (R214), both windows 0, doorbells,
mask, mailbox and watchdog limit of the lender restored, and everything else outside the windows as it was (R188). (Log 117 DEDUCED) -/
def State.endLoan (s : State) (e : Nat) : State :=
  match (s.easel e).loan with
  | none => s
  | some l =>
    let s1 := s.abandon e
    let E := s1.easel e
    let s2 := s1.setEasel e { E with
      running := false, stall := .none, loan := none, front := [], back := [], frontIx := false, cvFlags := 0
      db := l.db, dbMask := l.mask, mbx := l.mbx, wdog := l.wdog, pc := l.pc, s := l.s, p := l.p, v := l.v, d := l.d
      disp := l.disp, lend := l.lend, user := l.user, plFlags := l.plFlags, cvCount := l.cvCount, prDone := l.prDone
      ls := mclear E.ls (l.lBase * 0x10000) (l.lSize * 0x10000)
      is := mclear E.is (l.iBase * 0x1000) (l.iSize * 0x1000) }
    let s3 := s2.dropDisps (fun d => d.issuer = .chunk l.borrower l.index)
    match s3.part? l.borrower with
    | none => s3
    | some P => s3.setPart l.borrower { P with chunkOut := P.chunkOut.filter (· ≠ l.index) }

/-! ### Partition restart causes -/

/-- A cause that comes before the restart begins joins the first: the first exception record is kept, the faults of further Easels are
counted (R187), and every word is (R397). -/
def PartCause.join (k c : PartCause) : PartCause :=
  { k with exc := if k.exc.isEmpty then c.exc else k.exc
           others := if k.exc.isEmpty || c.exc.isEmpty then k.others else min 0xFFFF (k.others + 1)
           words := k.words ++ c.words }

/-- A cause to restart a partition (R457), which PARTITION_RESTART then runs. A READY partition restarts too; one that holds no package, or
has FAILED, has nothing to restart. (Log 96 DEDUCED, 118 DESIGN CHOICE) -/
def State.partFault (s : State) (p : Nat) (c : PartCause) : State :=
  match s.part? p with
  | none => s
  | some P =>
    match P.state, P.cause with
    | .running, _ => s.setPart p { P with state := .restarting, cause := some c }
    | .ready, _ => s.setPart p { P with state := .restarting, cause := some { c with idle := true } }
    | .restarting, some k => s.setPart p { P with cause := some (k.join c) }
    | _, _ => s

/-! ### Easel faults -/

def exIllegal : Nat := 0x01
/-- (Log 83 DEDUCED) -/
def exFetch : Nat := 0x02
def exAlign : Nat := 0x03
def exAddress : Nat := 0x04
def exProtect : Nat := 0x05
def exUnit : Nat := 0x06
def exGated : Nat := 0x07
def exDesc : Nat := 0x08
def exTrap : Nat := 0x09
def exWatchdog : Nat := 0x0A
def exUncorrectable : Nat := 0x0B
def exCanvasFormat : Nat := 0x20
def exCanvasRange : Nat := 0x21
def exCanvasVreg : Nat := 0x22
def exPaletteOperand : Nat := 0x23
def exPaletteRange : Nat := 0x24
def exPaletteParam : Nat := 0x25
def exPrimerParam : Nat := 0x26
def exPrimerRange : Nat := 0x27
def exPrimerUncorrectable : Nat := 0x28

/-- The exception record (R186). (Log 84 DEDUCED) -/
def excRecord (cause e pc insn addr detail : Nat) (E : Easel) (part : Nat) (cycle time : U64) : List Byte :=
  [1, BitVec.ofNat 8 cause] ++ leBytes 2 e ++ leBytes 4 pc ++ leBytes 8 insn ++ leBytes 8 addr ++ leBytes 8 detail
    ++ leBytes 2 (E.disp.toNat % 2 ^ 16) ++ leBytes 1 (E.disp.toNat / 2 ^ 16)
    ++ [BitVec.ofNat 8 part, if E.loan.isSome then 1 else 0, 0] ++ leBytes 2 0
    ++ leBytes 8 cycle.toNat ++ leBytes 8 time.toNat ++ List.replicate 8 0

/-- An Easel fault (R184): the Easel ends its execution, its outstanding operations are abandoned, and the partition whose
work it runs restarts with the exception record (R187). During a loan the lender's Easel returns (R188). (Log 84 DEDUCED) -/
def State.easelFaultAt (s : State) (e pc cause insn addr detail : Nat) : State :=
  let E := s.easel e
  let p := s.workPart e
  let rec_ := excRecord cause e pc insn addr detail E p (BitVec.ofNat 64 (E.cycles / 1000)) s.tb.time
  let s1 := s.abandon e
  let s2 := s1.setEasel e { s1.easel e with running := false, stall := .none }
  let s3 := if E.loan.isSome then s2.endLoan e else s2
  s3.partFault p { cause := 1, fault := BitVec.ofNat 8 cause, easel := BitVec.ofNat 16 e, detail := BitVec.ofNat 64 addr, exc := rec_ }

/-- A fault at the Easel's program counter: the faulting instruction, or the next one to issue (R186). (Log 84 DEDUCED) -/
def State.easelFault (s : State) (e cause insn addr detail : Nat) : State := s.easelFaultAt e (s.easel e).pc cause insn addr detail

/-- The `n` instruction bytes at an Easel's program counter, in the lent window during a loan (R153, R155). (Log 83 DEDUCED) -/
def Easel.codeAt (E : Easel) (n : Nat) : Nat :=
  mreadLE 0 E.is ((match E.loan with | some l => l.iBase * 0x1000 | none => 0) + E.pc) n

/-- Bits of the next instruction to issue (R157, R186); 0 where it lies outside the code region. (Log 84 DEDUCED) -/
def Easel.nextInsn (E : Easel) : Nat :=
  let n := if E.codeAt 4 % 2 = 1 then 8 else 4
  if E.codeLimit < E.pc + n || E.pc % 4 ≠ 0 then 0 else E.codeAt n

/-! ### Errors met by a read -/

/-- Injected flips in the words of some ranges: word address and flipped positions. (Log 104 DESIGN CHOICE) -/
def State.flipsIn (s : State) (rs : List (Nat × Nat)) : List (Nat × List Nat) :=
  s.mem.flips.filter (fun f => rs.any (fun r => f.1 < r.1 + r.2 && r.1 < f.1 + 8))

/-- Corrected words are written back, counted and logged (R377, R380). -/
def State.correctWord (s : State) (agent a : Nat) (bits : List Nat) : State :=
  let w := windowOf a
  let s1 := { s with mem := { s.mem with flips := terase s.mem.flips a } }
  let s2 := s1.countError (dieOfWindow w) (arrayOfWindow w) (bits.length - 1)
  s2.logError (errRecord bits.length (arrayOfWindow w) agent 0xFFFF (s.wordOwner a) a s.tb.time (bits.getD 0 0xFF) (bits.getD 1 0xFF))

/-- A read of device ranges by an agent: their banks are accessed (R387), corrected words are handled, and the words that cannot be
corrected are given back (R376). (Log 104 DESIGN CHOICE) -/
def State.readCheck (s : State) (agent : Nat) (rs : List (Nat × Nat)) : State × List Nat :=
  (s.flipsIn rs).foldl (fun acc f =>
    if f.2.length ≤ 2 then (acc.1.correctWord agent f.1 f.2, acc.2) else (acc.1, acc.2 ++ [f.1])) (s.touch rs, [])

/-- A word is written with zero and valid check bits (R396, R397). -/
def State.zeroWord (s : State) (a : Nat) : State := s.clearDev a 8

/-- The device restarts for a cause, unless an earlier one waits (R456). (Log 47 DEDUCED) -/
def State.raiseDevCause (s : State) (c : Byte) : State :=
  if s.boot.devCause.isNone then { s with boot := { s.boot with devCause := some c } } else s

/-- Words of a partition that cannot be corrected: it restarts (R396); one that has nothing to restart has its words written with zero.
(Log 118 DESIGN CHOICE) -/
def State.ownerFault (s : State) (o a : Nat) (ws : List Nat) : State :=
  if (s.part o).state = .empty || (s.part o).state = .failed then ws.foldl State.zeroWord s
  else s.partFault o { cause := 2, detail := BitVec.ofNat 64 a, words := ws }

/-- An uncorrectable word of a known owner: counted, logged, and its owner restarted when it runs (R395 to R398). -/
def State.uncorrectableOf (s : State) (agent a o : Nat) : State :=
  let w := windowOf a
  let s1 := s.countError (dieOfWindow w) (arrayOfWindow w) 2
  let s2 := s1.logError (errRecord 3 (arrayOfWindow w) agent 0xFFFF o a s.tb.time 0xFF 0xFF)
  if o = 0xFE then s2.raiseDevCause 1
  else if o = 0xFF then s2.zeroWord a
  else s2.ownerFault o a [a]

/-- An uncorrectable word. -/
def State.uncorrectable (s : State) (agent a : Nat) : State := s.uncorrectableOf agent a (s.wordOwner a)

/-- A unit reads a range and goes on with `k`; with a word that cannot be corrected it abandons what needed it, and the word's owner restarts
(R395). -/
def State.readElse (s : State) (agent : Nat) (rs : List (Nat × Nat)) (stop k : State → State) : State :=
  let x := s.readCheck agent rs
  if x.2.isEmpty then k x.1 else x.2.foldl (fun s a => s.uncorrectable agent a) (stop x.1)

/-- A read whose failure leaves nothing to abandon. -/
def State.unitRead (s : State) (agent : Nat) (rs : List (Nat × Nat)) (k : State → State) : State := s.readElse agent rs id k

/-- Runs of bytes in one 8-byte word: the word and how many of its bytes are written. -/
def wordRuns (l : List (Nat × Byte)) : List (Nat × Nat) :=
  l.foldl (fun acc x => match acc with
    | (w, n) :: r => if w = x.1 / 8 then (w, n + 1) :: r else (x.1 / 8, 1) :: acc
    | [] => [(x.1 / 8, 1)]) []

/-- The words that a write covers in part: each is read and written again (R384). -/
def partWords (l : List (Nat × Byte)) : List (Nat × Nat) := ((wordRuns l).filter (fun r => r.2 < 8)).reverse.map (fun r => (8 * r.1, 8))

/-- A write that reads the words it covers in part, with what follows it; a word among them that cannot be corrected ends it (R384, R395). -/
def State.checkedWrite (s : State) (agent : Nat) (l : List (Nat × Byte)) (k : State → State) : State :=
  s.unitRead agent (partWords l) (fun s => k (s.setDev l))

end Sys2Proof.Machine
end

