-- ==== Sys2Proof/Machine/Operands.lean ====
section
/-!
DEFINITION. The operand forms of Caruk (R157 to R160): the instruction words of each format, register reads and writes, immediates; and
what an instruction meets when it would issue: the code region (R155), reserved fields (R159), pending results (R183, R235) and
the local-store interlocks (R168, R209, R246, R264).
-/
namespace Sys2Proof.Machine

/-! ### Instruction words (R157) -/

def wordR (major k f c b a : Nat) : Nat := k * 2 ^ 25 + f * 2 ^ 22 + c * 2 ^ 17 + b * 2 ^ 12 + a * 2 ^ 7 + major * 2
def wordI (major imm f b a : Nat) : Nat := imm * 2 ^ 20 + f * 2 ^ 17 + b * 2 ^ 12 + a * 2 ^ 7 + major * 2
def wordU (major imm a : Nat) : Nat := imm * 2 ^ 12 + a * 2 ^ 7 + major * 2

/-- The 64-bit word of FETCH and PUT (R158). -/
def wordMove (major : Nat) (w : MoveF) : Nat :=
  w.rsv.toNat * 2 ^ 39 + w.dev.toNat * 2 ^ 38 + w.tb.toNat * 2 ^ 36 + w.ta.toNat * 2 ^ 34 + w.rg.toNat * 2 ^ 29
    + w.rf.toNat * 2 ^ 24 + w.rl.toNat * 2 ^ 19 + w.rc.toNat * 2 ^ 14 + w.trk.toNat * 2 ^ 11 + w.dn.toNat * 2 ^ 7 + major * 2 + 1

/-- The 64-bit word of STROKE and EWISE (R204). -/
def wordStroke (major : Nat) (w : StrokeF) : Nat :=
  w.rsv.toNat * 2 ^ 38 + w.clr.toNat * 2 ^ 37 + w.neg.toNat * 2 ^ 36 + w.lt.toNat * 2 ^ 35 + w.mode.toNat * 2 ^ 33
    + w.tf.toNat * 2 ^ 30 + w.lf.toNat * 2 ^ 27 + w.rp.toNat * 2 ^ 22 + w.rk.toNat * 2 ^ 17 + w.rt.toNat * 2 ^ 12
    + w.rl.toNat * 2 ^ 7 + major * 2 + 1

/-- The 64-bit word of a tensor form (R246) and of PLAUNCH.F (R260). -/
def wordForm (major : Nat) (r : RegF) (rsv : BitVec 52) : Nat := rsv.toNat * 2 ^ 12 + r.toNat * 2 ^ 7 + major * 2 + 1

/-! ### Registers (R150) -/

/-- s[r]; s0 reads 0. -/
def Easel.sr (E : Easel) (r : Nat) : U64 := if r = 0 then 0 else tget 0 E.s r
/-- s[r] written; writes to s0 are discarded. -/
def Easel.setSr (E : Easel) (r : Nat) (v : U64) : Easel := if r = 0 then E else { E with s := tset 0 E.s r v }

/-- p[i]; p0 reads 1. -/
def Easel.pr (E : Easel) (i : Nat) : Bool := i = 0 || E.p.getLsbD i
/-- p[i] written; writes to p0 are discarded. -/
def Easel.setPr (E : Easel) (i : Nat) (v : Bool) : Easel :=
  if i = 0 then E else { E with p := if v then E.p ||| BitVec.ofNat 8 (2 ^ i) else E.p &&& ~~~BitVec.ofNat 8 (2 ^ i) }

/-- The 64 lanes of v[r]; an unlisted register is all zero. -/
def Easel.vr (E : Easel) (r : Nat) : Lanes := let l := tget [] E.v r; if l.isEmpty then List.replicate 64 0 else l
/-- v[r] written; all-zero lanes are not listed. -/
def Easel.setVr (E : Easel) (r : Nat) (l : Lanes) : Easel := { E with v := tset [] E.v r (if l.all (· = 0) then [] else l) }

/-- d[n]. -/
def Easel.dr (E : Easel) (n : Nat) : BitVec 256 := tget 0 E.d n
def Easel.setDr (E : Easel) (n : Nat) (v : BitVec 256) : Easel := { E with d := tset 0 E.d n v }

/-! ### Immediates -/

/-- sext to 64 bits. -/
def sext12 (i : BitVec 12) : U64 := i.signExtend 64
def sext20 (i : BitVec 20) : U64 := i.signExtend 64

/-! ### Pending results (R183, R209, R235) -/

/-- Vector registers a back-queue entry writes. -/
def backWrites : BackOp → List Nat
  | .drainV a n _ _ => (List.range n).map (a + ·)
  | _ => []

/-- Vector registers and scalar register a Palette entry writes. -/
def palVWrites : PalOp → List Nat
  | .write vs _ _ => vs.map (·.1)
  | .load a _ _ => [a]
  | _ => []
def palSWrites : PalOp → List Nat
  | .write _ (some x) _ => [x.1]
  | _ => []

def Easel.pendS (E : Easel) : List Nat := E.palQ.flatMap palSWrites
def Easel.pendVPal (E : Easel) : List Nat := E.palQ.flatMap palVWrites
def Easel.pendVBack (E : Easel) : List Nat := E.backQ.flatMap (fun x => backWrites x.2)

def shares (a b : List Nat) : Bool := a.any (fun x => b.contains x)

/-! ### Local-store interlocks -/

/-- A use of the local store that later accesses must respect: program address, bytes, and whether reads stall too (the use
writes) or only writes (the use reads). -/
structure LsUse where
  at_   : Nat
  bytes : Nat
  rdToo : Bool
  deriving DecidableEq, Repr

/-- The local range of a tensor movement (R168). -/
def TrackOp.extent (o : TrackOp) : Nat × Nat :=
  let x := locExtent o.put (decodeDesc o.desc) o.o o.ta o.tb
  (o.rl.toNat + x.1, x.2)

/-- Of an outstanding tensor movement (R168). -/
def trackUse (o : TrackOp) : List LsUse := if o.dev then [] else [⟨o.extent.1, o.extent.2, !o.put⟩]

/-- Of a queued STROKE, EWISE, LOADACC LS or DRAIN to the local store (R209). -/
def frontUse : FrontOp → List LsUse
  | .stroke o => if o.k = 0 then [] else [⟨o.baseL, operandExtent o true, false⟩, ⟨o.baseT, operandExtent o false, false⟩]
  | .swap => []
def backUse : BackOp → List LsUse
  | .loadLs a _ => [⟨a, 16384, false⟩]
  | .drainLs a _ => [⟨a, 16384, true⟩]
  | _ => []

/-- Bytes a VLD of a format reads and a VST writes (R238). (Log 87 DEDUCED) -/
def vldBytes (fmt : Nat) : Nat := if fmt = 0 then 256 else if fmt = 3 || fmt = 4 then 128 else if fmt = 7 then 32 else 64
/-- (Log 87 DEDUCED) -/
def vstBytes (fmt : Nat) : Nat := if fmt = 0 then 256 else if fmt = 1 then 64 else 128

/-- Of a queued Palette instruction (R163, R246). (Log 87 DEDUCED) -/
def palUse : PalOp → List LsUse
  | .write _ _ _ => []
  | .load _ f a => [⟨a, vldBytes f, false⟩]
  | .store _ f a => [⟨a, vstBytes f, true⟩]
  | .tensor f b =>
    (pInputs f (decodePBlock b)).map (fun x => ⟨x.2.1, x.2.2, false⟩) ++ (pOutputs f (decodePBlock b)).map (fun x => ⟨x.2.1, x.2.2, true⟩)

/-- Of a Primer job with a local-store destination (R264). -/
def jobUse (j : PrimerJob) : List LsUse :=
  let b := decodeJBlock j.block
  if b.dstSpace = 1 then (jOutputs b).map (fun x => ⟨x.2.1, x.2.2, true⟩) else []

/-- Every use in progress on an Easel. -/
def State.lsUses (s : State) (e : Nat) : List LsUse :=
  let E := s.easel e
  (E.tracks.flatMap (·.2)).flatMap trackUse ++ E.frontQ.flatMap frontUse ++ E.backQ.flatMap (fun x => backUse x.2)
    ++ E.palQ.flatMap palUse ++ ((s.primer (clusterOf e)).filter (fun j => j.easel = e)).flatMap jobUse

/-- An access stalls (R168, R209, R246, R264). -/
def State.lsStall (s : State) (e a n : Nat) (write : Bool) : Bool :=
  (s.lsUses e).any (fun u => (write || u.rdToo) && overlap (a, n) (u.at_, u.bytes))

/-! ### Issue -/

/-- What an instruction reads and writes, for the scoreboards (R183, R235). -/
structure Uses where
  sr  : List Nat := []
  vr  : List Nat := []
  vwPal : List Nat := []
  vwBack : List Nat := []
  deriving DecidableEq, Repr

/-- An instruction waits for a pending result it reads or would overwrite. Writes from one queue complete in that queue's
order, so only a pending write of the other queue holds back a vector write (R235). (Log 5 DESIGN CHOICE) -/
def Easel.waits (E : Easel) (u : Uses) : Bool :=
  shares u.sr E.pendS || shares u.vr (E.pendVPal ++ E.pendVBack) || shares u.vwPal E.pendVBack || shares u.vwBack E.pendVPal

/-- An instruction of `len` bytes and word `insn` would issue on Easel e. A halted or waiting Easel issues nothing. The fetch is
checked first (R155), then the encoding (`legal`, R159), then the scoreboards; then `f` gives its effect. (Log 5 DESIGN CHOICE, 85 DEDUCED) -/
def issue (e len insn : Nat) (legal : Bool) (u : Uses) (s : State) (f : Easel → State) : Out :=
  if 192 ≤ e then noUnit
  else
    let E := s.easel e
    if s.board.clocksStopped || !E.running || E.stall ≠ .none then .next s
    else if E.codeLimit < E.pc + len || E.pc % 4 ≠ 0 then .next (s.easelFault e exFetch 0 E.pc 0)
    else if !legal then .next (s.easelFault e exIllegal insn 0 0)
    else if E.waits u then .next s
    else .next (f E)

/-- The instruction completes: its effect on the Easel, and the program counter past it. -/
def State.retire (s : State) (e len : Nat) (E : Easel) : State := s.setEasel e { E with pc := E.pc + len }

/-- An instruction whose whole effect is on its Easel's registers. -/
def issueReg (e len insn : Nat) (legal : Bool) (u : Uses) (s : State) (f : Easel → Easel) : Out :=
  issue e len insn legal u s (fun E => s.retire e len (f E))

end Sys2Proof.Machine
end

