-- ==== Sys2Proof/Machine/Flags.lean ====
section
/-!
DEFINITION. Conditions and flags: the comparisons of CMP and CMPI (R160), the lane comparisons of VCMP (R238, R239), and the
sticky flags of ECR_CVSTAT and ECR_PLSTAT (R212, R237).
-/
namespace Sys2Proof.Machine

/-- The condition F of CMP and CMPI: EQ, NE, LT, GE, LTU, GEU (R160). -/
def cond (f : Nat) (x y : U64) : Bool :=
  match f with
  | 0 => x = y
  | 1 => x ≠ y
  | 2 => x.slt y
  | 3 => !x.slt y
  | 4 => x.ult y
  | _ => !x.ult y

/-- VCMP's condition: EQ, NE, LT, LE, as i32 or as f32 (R238, R239). -/
def laneCond (flt : Bool) (f : Nat) (x y : BitVec 32) : Bool :=
  if flt then
    match f with
    | 0 => fEq x y
    | 1 => !fEq x y
    | 2 => fLt x y
    | _ => fLe x y
  else
    match f with
    | 0 => x = y
    | 1 => x ≠ y
    | 2 => x.slt y
    | _ => x.sle y

/-- Sticky flags gained (R212, R237). -/
def Easel.orCv (E : Easel) (f : BitVec 3) : Easel := { E with cvFlags := E.cvFlags ||| f }
def Easel.orPl (E : Easel) (f : BitVec 5) : Easel := { E with plFlags := E.plFlags ||| f }

/-- A W1C write to sticky flags (R7). -/
def w1c (n : Nat) (old w : BitVec n) : BitVec n := old &&& ~~~w

/-- ECR_CVSTAT: FRONT and the flags NAN, INF, WRAP (R212). -/
def Easel.cvstat (E : Easel) : U64 := (if E.frontIx then 8 else 0) + E.cvFlags.setWidth 64

/-- ECR_PLSTAT (R237). -/
def Easel.plstat (E : Easel) : U64 := E.plFlags.setWidth 64

end Sys2Proof.Machine
end

