-- ==== Sys2Proof/Machine/Package.lean ====
section
/-!
DEFINITION. A program package as the Curator and MED read it (R289 to R291, R294, R147), and the prepared-batch buffers of its queues
(R141, R142, R145).
-/
namespace Sys2Proof.Machine

/-! ### Sections (R289, R290) -/

/-- A section table entry (R290). -/
structure Section where
  kind  : Nat
  index : Nat
  off   : Nat
  bytes : Nat
  rsv   : List Nat
  deriving DecidableEq, Repr

def pkgSections (b : List Byte) : List Section :=
  (List.range (fieldLE b 6 2)).map (fun i =>
    let o := 64 + 32 * i
    { kind := fieldLE b o 1, index := fieldLE b (o + 2) 2, off := fieldLE b (o + 8) 8, bytes := fieldLE b (o + 16) 8
      rsv := [fieldLE b (o + 1) 1, fieldLE b (o + 4) 4, fieldLE b (o + 24) 8] })

/-- The contents of a section; the empty list when the package has none of that kind and index. -/
def pkgSection (b : List Byte) (kind index : Nat) : List Byte :=
  match (pkgSections b).find? (fun s => s.kind = kind && s.index = index) with
  | some s => (b.drop s.off).take s.bytes
  | none => []

def hasSection (b : List Byte) (kind : Nat) : Bool := (pkgSections b).any (fun s => s.kind = kind)

/-- A stage table entry (R291). -/
structure StageDef where
  map : Nat
  wMin : Nat
  wMax : Nat
  first : Nat
  last : Nat
  diePref : Nat
  entry : Nat
  localBytes : Nat
  watchdog : Nat
  rsv : List Nat
  deriving DecidableEq, Repr

def pkgStages (b : List Byte) : List StageDef :=
  let t := pkgSection b 0x01 0
  (List.range (t.length / 32)).map (fun i =>
    let o := 32 * i
    { map := fieldLE t o 1, wMin := fieldLE t (o + 1) 1, wMax := fieldLE t (o + 2) 1, first := fieldLE t (o + 3) 1
      last := fieldLE t (o + 4) 1, diePref := fieldLE t (o + 5) 1, entry := fieldLE t (o + 8) 4
      localBytes := fieldLE t (o + 12) 4, watchdog := fieldLE t (o + 16) 4
      rsv := [fieldLE t (o + 6) 2, fieldLE t (o + 20) 8, fieldLE t (o + 28) 4] })

/-- A region table entry (R294). -/
structure RegionDef where
  kind  : Nat
  stage : Nat
  align : Nat
  bytes : Nat
  rsv   : List Nat
  deriving DecidableEq, Repr

def pkgRegions (b : List Byte) : List RegionDef :=
  let t := pkgSection b 0x06 0
  (List.range (t.length / 32)).map (fun i =>
    let o := 32 * i
    { kind := fieldLE t o 1, stage := fieldLE t (o + 1) 1, align := fieldLE t (o + 4) 4, bytes := fieldLE t (o + 8) 8
      rsv := [fieldLE t (o + 2) 2, fieldLE t (o + 16) 8, fieldLE t (o + 24) 8] })

/-! ### The tile table (R301, R303) -/

/-- Layers of the tile headers, as far as the TILES section holds them. -/
def tileCount (b : List Byte) : Nat := fieldLE (pkgSection b 5 0) 0 2

/-- A layer header of the tile table. -/
structure TileHdr where
  layer   : Nat
  stage   : Nat
  counter : Nat
  rsv     : List Nat
  items   : Nat
  comp    : Nat
  halo    : Nat
  compOff : Nat
  tiles   : Nat
  list    : Nat
  haloBytes : Nat
  deriving DecidableEq, Repr

def pkgTiles (b : List Byte) : List TileHdr :=
  let t := pkgSection b 5 0
  (List.range (tileCount b)).map (fun i =>
    let o := 32 + 32 * i
    { layer := fieldLE t o 1, stage := fieldLE t (o + 1) 1, counter := fieldLE t (o + 2) 1, rsv := [fieldLE t (o + 3) 1, fieldLE t (o + 28) 4]
      items := fieldLE t (o + 4) 4, comp := fieldLE t (o + 8) 2, halo := fieldLE t (o + 10) 2, compOff := fieldLE t (o + 12) 4
      tiles := fieldLE t (o + 16) 4, list := fieldLE t (o + 20) 4, haloBytes := fieldLE t (o + 24) 4 })

/-- max_batches (R307). -/
def pkgMaxBatches (b : List Byte) : Nat := fieldLE (pkgSection b 0x0B 0) 0 2

/-- Completion areas of a loaded package (R303): (address, bytes). -/
def Pkg.completions (k : Pkg) : List (Nat × Nat) :=
  (pkgTiles k.bytes).map (fun h => (k.regions.getD h.comp 0 + h.compOff, 8 * h.items * pkgMaxBatches k.bytes))

/-! ### The framing section (R147) -/

/-- A prepared-batch queue with its resolved addresses (R141). -/
structure FQueue where
  base     : Nat
  bufBytes : Nat
  buffers  : Nat
  slots    : Nat
  profile  : Nat
  receiver : Nat
  bit      : Nat
  mark     : Nat
  flags    : Nat
  deriving DecidableEq, Repr

/-- A framing section with its resolved addresses. -/
structure Framing where
  profiles : List (List Byte)
  sets     : List (List Byte)
  queues   : List FQueue
  cropStage : Bool
  flow     : Bool
  cropEntries : Nat
  flowEntries : Nat
  cropRing : Nat
  cropProd : Nat
  flowRing : Nat
  flowProd : Nat
  aug      : Nat
  augRecords : Nat
  deriving DecidableEq, Repr

/-- The framing section of a loaded package. -/
def framingOf (k : Pkg) : Option Framing :=
  let f := pkgSection k.bytes 0x09 0
  if f.isEmpty then none
  else
    let at_ (r o : Nat) : Nat := k.regions.getD r 0 + o
    let packed (v : Nat) : Nat := at_ (v / 2 ^ 48) (v % 2 ^ 48)
    let np := fieldLE f 0 1
    let ns := fieldLE f 1 1
    let nq := fieldLE f 2 1
    let q0 := 64 + 32 * np
    some {
      profiles := (List.range np).map (fun i => fieldBytes f (64 + 32 * i) 32)
      sets := (List.range ns).map (fun i => fieldBytes f (q0 + 32 * nq + 1792 * i) 1792)
      queues := (List.range nq).map (fun i =>
        let o := q0 + 32 * i
        { base := packed (fieldLE f o 8), bufBytes := fieldLE f (o + 8) 4, buffers := fieldLE f (o + 12) 2
          slots := fieldLE f (o + 14) 2, profile := fieldLE f (o + 16) 1, receiver := fieldLE f (o + 18) 2
          bit := fieldLE f (o + 20) 1, mark := fieldLE f (o + 22) 2, flags := packed (fieldLE f (o + 24) 8) })
      cropStage := bitAt (fieldLE f 3 1) 0
      flow := bitAt (fieldLE f 3 1) 1
      cropEntries := fieldLE f 4 2
      flowEntries := fieldLE f 6 2
      cropRing := at_ (fieldLE f 8 2) (fieldLE f 12 4)
      cropProd := at_ (fieldLE f 10 2) (fieldLE f 16 4)
      flowRing := at_ (fieldLE f 20 2) (fieldLE f 24 4)
      flowProd := at_ (fieldLE f 22 2) (fieldLE f 28 4)
      aug := at_ (fieldLE f 32 2) (fieldLE f 36 4)
      augRecords := fieldLE f 34 2 }

/-- The framing section of a partition's package. -/
def State.framing (s : State) (p : Nat) : Option Framing := (s.part p).pkg.bind framingOf

/-- The mark in force of a queue: PBQ_MARK's when it has set one (R145). (Log 62 DEDUCED) -/
def State.markOf (s : State) (p q : Nat) (fq : FQueue) : Nat := (tfind (s.part p).marks q).getD fq.mark

/-! ### Buffers (R142) -/

/-- Start of the slot data, slot stride, and the addresses of a buffer, its descriptors and its slots. -/
def FQueue.dataOff (q : FQueue) : Nat := up64 (64 + 32 * q.slots)
def FQueue.stride (q : FQueue) : Nat := if q.slots = 0 then 0 else (q.bufBytes - q.dataOff) / (64 * q.slots) * 64
def FQueue.bufAddr (q : FQueue) (b : Nat) : Nat := q.base + q.bufBytes * b
def FQueue.descAddr (q : FQueue) (b i : Nat) : Nat := q.bufAddr b + 64 + 32 * i
def FQueue.slotAddr (q : FQueue) (b i : Nat) : Nat := q.bufAddr b + q.dataOff + q.stride * i
def FQueue.flagAddr (q : FQueue) (b : Nat) : Nat := q.flags + 8 * b

/-- State word of a buffer: 0 FREE, 1 BUILT, 2 PREPARED. -/
def State.bufState (s : State) (q : FQueue) (b : Nat) : Nat := s.devLE (q.flagAddr b) 4
def State.setBufState (s : State) (q : FQueue) (b v : Nat) : State := s.setDevN (q.flagAddr b) (leBytes 4 v)

/-- The buffer becomes PREPARED and its flag advances one generation (R142). -/
def State.prepareBuf (s : State) (q : FQueue) (b : Nat) : State :=
  s.setDevN (q.flagAddr b) (leBytes 4 2 ++ leBytes 4 (s.devLE (q.flagAddr b + 4) 4 + 1))

/-- Buffers of a queue in PREPARED. (Log 62 DEDUCED) -/
def State.prepared (s : State) (q : FQueue) : Nat := ((List.range q.buffers).filter (fun b => s.bufState q b = 2)).length

/-- The lowest-numbered FREE buffer (R325). -/
def State.freeBuf (s : State) (q : FQueue) : Option Nat := (List.range q.buffers).find? (fun b => s.bufState q b = 0)

/-! ### Doorbells of units (R23, R175) -/

/-- Doorbell bits set at one Easel; on loan they are held for the lender (R333). -/
def State.ringLeaf (s : State) (e : Nat) (b : U32) : State :=
  let E := s.easel e
  match E.loan with
  | some l => s.setEasel e { E with loan := some { l with db := l.db ||| b } }
  | none => s.setEasel e { E with db := E.db ||| b }

/-- Doorbell bits set at every leaf of a unit. -/
def State.ringUnit (s : State) (ref : Nat) (b : U32) : State := (s.expansion ref).foldl (fun s e => s.ringLeaf e b) s

/-- A queue's receiver is rung: its unit, or the partition's host doorbell word (R141, R435). -/
def State.ringReceiver (s : State) (p : Nat) (q : FQueue) : State :=
  let b : U32 := BitVec.ofNat 32 (2 ^ q.bit)
  if q.receiver = 0xFFFF then s.ringHost p b else s.ringUnit q.receiver b

/-- Buffers of a queue that a program's write released: PREPARED before, FREE after (R142). -/
def State.released (s old : State) (q : FQueue) : Nat :=
  ((List.range q.buffers).filter (fun b => old.bufState q b = 2 && s.bufState q b = 0)).length

/-- What a write by a program of partition p releases (R142, R145): a queue's receiver rings when releases took the number of PREPARED
buffers from the mark or above to below it. `old` is the state before the write. -/
def State.releaseEffects (s old : State) (p : Nat) : State :=
  match s.framing p with
  | none => s
  | some f =>
    ((List.range f.queues.length).zip f.queues).foldl (fun s x =>
      let q := x.2
      let m := s.markOf p x.1 q
      if 0 < m && m ≤ old.prepared q && old.prepared q - s.released old q < m then s.ringReceiver p q else s) s

/-- A write to device memory by a program of partition p, with what it releases (R142, R384). -/
def State.programWrite (s : State) (agent p : Nat) (l : List (Nat × Byte)) (k : State → State) : State :=
  s.checkedWrite agent l (fun t => k (t.releaseEffects s p))

end Sys2Proof.Machine
end

