-- ==== Sys2Proof/Machine/Access.lean ====
section
/-!
DEFINITION. Scalar loads and stores (R162, R163) and the descriptor-register instructions (R164), on the local store and the own-die
Gallery.
-/
namespace Sys2Proof.Machine

/-- Bytes of a load or store by F[1:0]. -/
def accBytes (f : Nat) : Nat := 2 ^ (f % 4)

/-- A loaded value: LB, LH, LW, LD sign-extend, LBU, LHU, LWU zero-extend (R162). -/
def loadVal (f v : Nat) : U64 :=
  match f with
  | 0 => (BitVec.ofNat 8 v).signExtend 64
  | 1 => (BitVec.ofNat 16 v).signExtend 64
  | 2 => (BitVec.ofNat 32 v).signExtend 64
  | _ => BitVec.ofNat 64 v

/-- s[B] + sext(I12) (R162). -/
def effAddr (E : Easel) (b : RegF) (imm : BitVec 12) : Nat := (E.sr b.toNat + sext12 imm).toNat

/-- A local-store access of n bytes: alignment, range, then the interlocks of R168. (Log 85 DEDUCED) -/
def onLocal (s : State) (e insn a n : Nat) (write : Bool) (E : Easel) (f : State) : State :=
  if a % n ≠ 0 then s.easelFault e exAlign insn a 0
  else if E.lsLimit < a + n then s.easelFault e exAddress insn a 0
  else if s.lsStall e a n write then s
  else f

/-- Device address of an offset in the own-die Gallery. -/
def galAddr (e a : Nat) : Nat := galleryBase (dieOf e) + a

/-- A Gallery access of n bytes: alignment, range, then the partition's granules (R162, R21). (Log 85 DEDUCED) -/
def onGallery (s : State) (e insn a n : Nat) (f : State) : State :=
  if a % n ≠ 0 then s.easelFault e exAlign insn a 0
  else if gallerySize < a + n then s.easelFault e exAddress insn a 0
  else if !s.ownsRange (s.workPart e) (galAddr e a, n) then s.easelFault e exProtect insn a 0
  else f

/-- A store into the own-die Gallery with what it releases (R142, R163). -/
def State.storeGallery (s : State) (e a : Nat) (b : List Byte) : State := s.programWrite 1 (s.workPart e) (placeBytes (galAddr e a) b) id

/-- A load from the own-die Gallery; a word that cannot be corrected is not delivered (R395). -/
def State.loadGallery (s : State) (e a n : Nat) (f : State → State) : State := s.unitRead 1 [(galAddr e a, n)] f

/-- LDL (R162). -/
def execLdl (e : Nat) (f : BitVec 3) (a b : RegF) (imm : BitVec 12) (s : State) : Out :=
  let w := wordI 0x08 imm.toNat f.toNat b.toNat a.toNat
  issue e 4 w (f.toNat ≠ 7) { sr := [a.toNat, b.toNat] } s (fun E =>
    let x := effAddr E b imm
    let n := accBytes f.toNat
    onLocal s e w x n false E (s.retire e 4 (E.setSr a.toNat (loadVal f.toNat (leNat (E.rdLs x n))))))

/-- STL (R162). -/
def execStl (e : Nat) (f : BitVec 3) (a b : RegF) (imm : BitVec 12) (s : State) : Out :=
  let w := wordI 0x09 imm.toNat f.toNat b.toNat a.toNat
  issue e 4 w (f.toNat < 4) { sr := [a.toNat, b.toNat] } s (fun E =>
    let x := effAddr E b imm
    let n := accBytes f.toNat
    onLocal s e w x n true E (s.retire e 4 (E.wrLs (placeBytes x (leBytes n (E.sr a.toNat).toNat)))))

/-- LDG (R162). -/
def execLdg (e : Nat) (f : BitVec 3) (a b : RegF) (imm : BitVec 12) (s : State) : Out :=
  let w := wordI 0x0A imm.toNat f.toNat b.toNat a.toNat
  issue e 4 w (f.toNat ≠ 7) { sr := [a.toNat, b.toNat] } s (fun E =>
    let x := effAddr E b imm
    let n := accBytes f.toNat
    onGallery s e w x n (s.loadGallery e x n (fun s => s.retire e 4 (E.setSr a.toNat (loadVal f.toNat (s.devLE (galAddr e x) n))))))

/-- STG (R162), with the release of a prepared-batch buffer when it writes one's state word (R142). -/
def execStg (e : Nat) (f : BitVec 3) (a b : RegF) (imm : BitVec 12) (s : State) : Out :=
  let w := wordI 0x0B imm.toNat f.toNat b.toNat a.toNat
  issue e 4 w (f.toNat < 4) { sr := [a.toNat, b.toNat] } s (fun E =>
    let x := effAddr E b imm
    let n := accBytes f.toNat
    onGallery s e w x n ((s.retire e 4 E).storeGallery e x (leBytes n (E.sr a.toNat).toNat)))

/-! ### Descriptor registers (R164) -/

/-- DLD (R164). -/
def execDld (e : Nat) (a b : RegF) (imm : BitVec 12) (s : State) : Out :=
  let w := wordI 0x13 imm.toNat 0 b.toNat a.toNat
  issue e 4 w (a.toNat < 16) { sr := [b.toNat] } s (fun E =>
    let x := effAddr E b imm
    onLocal s e w x 32 false E (s.retire e 4 (E.setDr a.toNat (BitVec.ofNat 256 (leNat (E.rdLs x 32))))))

/-- DST (R164). -/
def execDst (e : Nat) (a b : RegF) (imm : BitVec 12) (s : State) : Out :=
  let w := wordI 0x13 imm.toNat 1 b.toNat a.toNat
  issue e 4 w (a.toNat < 16) { sr := [b.toNat] } s (fun E =>
    let x := effAddr E b imm
    onLocal s e w x 32 true E (s.retire e 4 (E.wrLs (placeBytes x (leBytes 32 (E.dr a.toNat).toNat)))))

/-- DLDG (R164). -/
def execDldg (e : Nat) (a b : RegF) (imm : BitVec 12) (s : State) : Out :=
  let w := wordI 0x13 imm.toNat 2 b.toNat a.toNat
  issue e 4 w (a.toNat < 16) { sr := [b.toNat] } s (fun E =>
    let x := effAddr E b imm
    onGallery s e w x 32 (s.loadGallery e x 32 (fun s => s.retire e 4 (E.setDr a.toNat (BitVec.ofNat 256 (s.devLE (galAddr e x) 32))))))

/-- DSTG (R164). -/
def execDstg (e : Nat) (a b : RegF) (imm : BitVec 12) (s : State) : Out :=
  let w := wordI 0x13 imm.toNat 3 b.toNat a.toNat
  issue e 4 w (a.toNat < 16) { sr := [b.toNat] } s (fun E =>
    let x := effAddr E b imm
    onGallery s e w x 32 ((s.retire e 4 E).storeGallery e x (leBytes 32 (E.dr a.toNat).toNat)))

/-- DRD: s[A] = quadword I12[1:0] of d[B[3:0]] (R164). -/
def execDrd (e : Nat) (a b : RegF) (imm : BitVec 12) (s : State) : Out :=
  issueReg e 4 (wordI 0x13 imm.toNat 4 b.toNat a.toNat) (b.toNat < 16 && imm.toNat < 4) { sr := [a.toNat] } s
    (fun E => E.setSr a.toNat ((E.dr b.toNat).extractLsb' (64 * imm.toNat) 64))

/-- The quadword q of a descriptor replaced. -/
def setQuad (d : BitVec 256) (q : Nat) (v : U64) : BitVec 256 :=
  (d &&& ~~~((0xFFFFFFFFFFFFFFFF : BitVec 256) <<< (64 * q))) ||| (v.setWidth 256 <<< (64 * q))

/-- DWR: quadword I12[1:0] of d[B[3:0]] = s[A] (R164). -/
def execDwr (e : Nat) (a b : RegF) (imm : BitVec 12) (s : State) : Out :=
  issueReg e 4 (wordI 0x13 imm.toNat 5 b.toNat a.toNat) (b.toNat < 16 && imm.toNat < 4) { sr := [a.toNat] } s
    (fun E => E.setDr b.toNat (setQuad (E.dr b.toNat) imm.toNat (E.sr a.toNat)))

/-- DCOPY: d[A[3:0]] = d[B[3:0]] (R164). -/
def execDcopy (e : Nat) (a b : RegF) (imm : BitVec 12) (s : State) : Out :=
  issueReg e 4 (wordI 0x13 imm.toNat 6 b.toNat a.toNat) (a.toNat < 16 && b.toNat < 16 && imm = 0) {} s
    (fun E => E.setDr a.toNat (E.dr b.toNat))

end Sys2Proof.Machine
end

