-- ==== Sys2Proof/Machine/Alloc.lean ====
section
/-!
DEFINITION. The Curator's allocations in GDDR6 (R22, R536), and freed memory (R379).
-/
namespace Sys2Proof.Machine

/-- Base address of a memory group. -/
def groupBase (g : Nat) : Nat := g * 0x80000000

/-- Decoder contexts (R106) and the firmware copies (R447, R392) in MG0. (Log 39 DESIGN CHOICE) -/
def contextBytes : Nat := 0x8000000
/-- (Log 39 DESIGN CHOICE) -/
def firmwareBase : Nat := 0x8000000
/-- (Log 39 DESIGN CHOICE) -/
def firmwareBytes : Nat := 0x1000000

/-- Address and bytes of a partition's memory ranges. -/
def Part.ranges (P : Part) : List (Nat × Nat) := P.mem.map (fun m => (groupBase m.1 + m.2.1 * 0x1000000, m.2.2 * 0x1000000))

def rangesMeet (x y : Nat × Nat) : Bool := x.1 < y.1 + y.2 && y.1 < x.1 + x.2

/-- Ranges that the Curator may not place anything in: its own, the partitions', and memory still to be zeroed. -/
def State.taken (s : State) : List (Nat × Nat) := s.mem.allocs ++ s.mem.zeroing ++ s.parts.flatMap (fun x => x.2.ranges)

/-- A range free for the Curator: whole in the usable part of one ACTIVE group, clear of everything taken. -/
def State.fits (s : State) (a n : Nat) : Bool :=
  let g := a / 0x80000000
  g < 16 && s.groupState g = 0 && tfind s.mem.moving g = none && a % 0x80000000 + n ≤ groupSize && !s.taken.any (fun r => rangesMeet r (a, n))

def upTo (m a : Nat) : Nat := (a + m - 1) / m * m

/-- First fit (R536): the lowest 4 KiB-aligned address at which an allocation fits. It starts a group or follows something taken. -/
def State.firstFit (s : State) (n : Nat) : Option Nat :=
  let c := (List.range 16).map groupBase ++ s.taken.map (fun r => upTo 0x1000 (r.1 + r.2))
  (c.filter (fun a => s.fits a n)).foldl (fun m a => match m with | none => some a | some b => some (min a b)) none

/-- An allocation made. -/
def State.allocate (s : State) (n : Nat) : Option (Nat × State) :=
  (s.firstFit n).map (fun a => (a, { s with mem := { s.mem with allocs := s.mem.allocs ++ [(a, n)] } }))

/-- An allocation freed: its memory is granted again only after zeros are written over it (R379). -/
def State.deallocate (s : State) (a : Nat) : State :=
  { s with mem := { s.mem with
    allocs := s.mem.allocs.filter (fun m => m.1 ≠ a)
    zeroing := s.mem.zeroing ++ s.mem.allocs.filter (fun m => m.1 = a) } }

/-- Memory that would make room waits for zeros (R379, R536). -/
def State.zerosDue (s : State) : Bool := !s.mem.zeroing.isEmpty

/-- A partition's memory and granules given up (R35, R379). -/
def State.freePart (s : State) (P : Part) : State :=
  { s with mem := { s.mem with zeroing := s.mem.zeroing ++ P.ranges, zeroGal := s.mem.zeroGal ++ P.gallery } }

/-- Device address of a Gallery granule. -/
def granuleAddr (x : Nat × Nat) : Nat := galleryBase x.1 + granuleOff x.2

/-- FREED_MEMORY_ZEROED: zeros stand in all freed memory, which may be granted again (R379). -/
def execFreedMemoryZeroed (s : State) : Out :=
  let s1 := s.mem.zeroing.foldl (fun s r => s.clearDev r.1 r.2) s
  let s2 := s1.mem.zeroGal.foldl (fun s x => s.clearDev (granuleAddr x) 0x10000) s1
  if s.board.clocksStopped then .next s else .next { s2 with mem := { s2.mem with zeroing := [], zeroGal := [] } }

end Sys2Proof.Machine
end

