-- ==== Sys2Proof/Machine/Clock.lean ====
section
/-!
DEFINITION. Operating points and Easel clocks (R479, R481), and the time a partition sees (R58, R152).
-/
namespace Sys2Proof.Machine

/-- Clock ceiling of an operating point, MHz (R479). -/
def opCeiling (op : Nat) : Nat := [800, 1000, 1200, 1400, 1700, 2000, 2200, 2400].getD op 2400

/-- Supply voltage of an operating point, mV (R479). -/
def opVolt (op : Nat) : Nat := [650, 680, 720, 760, 800, 850, 900, 950].getD op 950

/-- The aged maximum of a measured one (R481). -/
def agedMax (mhz : Nat) : Nat := mhz * 97 / 2500 * 25

/-- Operating point of a die (dies 0 to 5 compute, 6 MED, 7 HUB). -/
def State.op (s : State) (die : Nat) : Nat := tget 0 s.pwr.ops die

/-- Physical Easel behind a logical one (R11). -/
def State.physical (s : State) (e : Nat) : Nat := tget 0 s.boot.easelMap e

/-- Measured maximum of a physical Easel at a point, MHz. -/
def State.measuredMax (s : State) (phys op : Nat) : Nat := 25 * (tget 0 s.boot.maxima (8 * phys + op)).toNat

/-- easel_mhz (R481). -/
def State.easelMhz (s : State) (e : Nat) : Nat :=
  let op := s.op (dieOf e)
  min (opCeiling op) (agedMax (s.measuredMax (s.physical e) op))

/-- Store time as a partition's programs see it: virtual in a replay partition (R58, R152). -/
def State.timeOf (s : State) (p : Nat) : U64 := if (s.part p).replay then (s.part p).virtualTime else s.tb.time

/-! ### The passing of time (R36)

Time is counted in ns of SYS_CLK. Store time runs against it with the frequency correction that the timebase holds. -/

/-- Rate of store time, in units of 10^-9 of SYS_CLK's. -/
def Timebase.rate (t : Timebase) : Nat := (1000000000 + t.corr).toNat

/-- Store time after `ns` ns of SYS_CLK, with what is left of a ns (R36, R40). -/
def Timebase.run (t : Timebase) (ns : Nat) : Timebase :=
  let n := ns * t.rate + t.frac
  { t with time := t.time + BitVec.ofNat 64 (n / 1000000000), frac := n % 1000000000 }

/-- ns of SYS_CLK in which store time gains `n` ns. -/
def Timebase.clockFor (t : Timebase) (n : Nat) : Nat := (n * 1000000000 - t.frac + t.rate - 1) / t.rate

/-- What `ns` ns do to an Easel: its watchdog counts while it runs a dispatch (R185), its cycles count while it is powered (R152), a loan
uses loan time (R336), and the cycles of a shift interval count towards the occupancy (R487). -/
def Easel.elapse (E : Easel) (mhz ns : Nat) : Easel :=
  let c := if E.powered then mhz * ns else 0
  { E with wdogNs := if E.running then E.wdogNs + ns else E.wdogNs, cycles := E.cycles + c, spanCyc := E.spanCyc + c
           busyCyc := if E.running && E.loan.isNone then E.busyCyc + c else E.busyCyc
           loanNs := if E.loan.isSome then E.loanNs + ns else E.loanNs }

/-- `ns` ns of SYS_CLK pass for everything but store time: HOLDOVER ages (R45), PPS_OUT falls after its 10 ms (R43), a function-level
reset ends (R414), and the Easels' counts run. (Log 82 DEDUCED, 99 DESIGN CHOICE) -/
def State.elapse (s : State) (ns : Nat) : State :=
  { s with
    clock := s.clock + ns
    tb := { s.tb with holdNs := if s.tb.state = 3 then s.tb.holdNs + ns else s.tb.holdNs }
    board := { s.board with ppsHigh := s.board.ppsHigh - ns }
    pcie := { s.pcie with flrNs := s.pcie.flrNs - ns }
    easels := s.easels.map (fun x => (x.1, x.2.elapse (s.easelMhz x.1) ns)) }

/-- `ns` ns of SYS_CLK pass, and store time runs (R36). -/
def State.pass (s : State) (ns : Nat) : State := { s.elapse ns with tb := (s.elapse ns).tb.run ns }

/-- Store time passes to an instant that lies ahead; an instant that has come needs no time. (Log 82 DEDUCED) -/
def State.passTo (s : State) (t : Nat) : State :=
  if s.tb.time.toNat < t then
    let s1 := s.elapse (s.tb.clockFor (t - s.tb.time.toNat))
    { s1 with tb := { s1.tb with time := BitVec.ofNat 64 t, frac := 0 } }
  else s

/-- The whole second of store time: the present one when it began within this SYS_CLK cycle, else the next one. -/
def nextSecond (now : Nat) : Nat := if now % 1000000000 < 40 then now else (now / 1000000000 + 1) * 1000000000

end Sys2Proof.Machine
end

