-- ==== Sys2Proof/Machine/Records.lean ====
section
/-!
DEFINITION. Records and the rings they go to (R352 to R358), posted writes to host memory (R408, R411), and the time and partition
events (R46, R358).
-/
namespace Sys2Proof.Machine

/-! ### The host link -/

/-- The function may issue requests (R411, R415). (Log 21 DEDUCED) -/
def State.busOn (s : State) : Bool := s.pcie.linkUp && s.pcie.busMasterEn && !s.pcie.d3hot && !s.board.clocksStopped

/-- Max_Payload_Size in bytes (R404). -/
def Pcie.payload (p : Pcie) : Nat := 128 * 2 ^ p.maxPayload

/-- A stretch of host memory as requests of at most `m` bytes: each ends at a multiple of `m`, so that it is naturally aligned and crosses
no 4 KiB boundary (R408). -/
def tlpsOf (m : Nat) : Nat → Nat → Nat → List (Nat × Nat)
  | 0, _, _ => []
  | fuel + 1, a, n => if n = 0 then [] else let k := min n (m - a % m); (a, k) :: tlpsOf m fuel (a + k) (n - k)

/-- A posted write to host memory, in TLPs of at most Max_Payload_Size (R408). (Log 13 DESIGN CHOICE, 21 DEDUCED) -/
def State.hostWrite (s : State) (a : Nat) (b : List Byte) : State :=
  { s with pcie := { s.pcie with
    hostMem := mwriteN 0 s.pcie.hostMem a b, posted := tlpsOf s.pcie.payload (b.length / s.pcie.payload + 2) a b.length } }

/-! ### Records (R358) -/

/-- A record without its sequence number. -/
structure Rec where
  kind      : Nat
  sitter    : Nat
  partition : Nat
  flags     : Nat
  capture   : U64
  body      : List Byte
  deriving DecidableEq, Repr

def recordLen (r : Rec) : Nat := 24 + r.body.length

/-- The bytes of a record with its sequence number. -/
def recordBytes (seq : Nat) (r : Rec) : List Byte :=
  leBytes 8 seq ++ leBytes 2 r.kind ++ leBytes 2 (recordLen r) ++ leBytes 2 r.sitter ++ leBytes 1 r.partition ++ leBytes 1 r.flags
    ++ leBytes 8 r.capture.toNat ++ r.body

def recordsLen (l : List Rec) : Nat := (l.map recordLen).foldl (· + ·) 0

/-! ### Rings (R354 to R356) -/

def Ring.size (R : Ring) : Nat := 2 ^ R.sizeLog2
/-- A defined ring has a size (R352: 16 to 30). -/
def Ring.defined (R : Ring) : Bool := R.sizeLog2 ≠ 0
/-- Bytes before the end of the ring. -/
def Ring.tail (R : Ring) : Nat := R.size - R.prod.toNat % R.size
/-- Free bytes: size − (p − c). -/
def Ring.free (R : Ring) : Nat := R.size - (R.prod - R.cons).toNat

/-- Bytes placed at the producer position, which they advance; the bytes count towards intr_bytes. -/
def State.ringBytes (s : State) (r : Nat) (b : List Byte) : State :=
  let R := s.ring r
  (s.hostWrite (R.base.toNat + R.prod.toNat % R.size) b).setRing r
    { R with prod := R.prod + BitVec.ofNat 64 b.length, unsignalled := R.unsignalled + b.length, unsigAny := true }

/-- A pad record of `n` bytes (R355). Its sitter, partition, flags and capture are free values: the manual states none. (Log 76 DEDUCED) -/
def State.padRecord (s : State) (n : Nat) : List Byte × State :=
  let (x, s1) := s.draw
  let (y, s2) := s1.draw
  (leBytes 8 0 ++ leBytes 2 0 ++ leBytes 2 n ++ leBytes 3 x.toNat ++ leBytes 1 (x.toNat / 2 ^ 24 % 32) ++ leBytes 8 y.toNat
    ++ List.replicate (n - 24) 0, s2)

/-- The tail filled with pad records of at most 65,528 bytes, and zeros when fewer than 24 bytes are left (R355). (Log 76 DEDUCED) -/
def State.padTail (s : State) (r : Nat) : Nat → Nat → State
  | 0, _ => s
  | fuel + 1, left =>
    if left < 24 then s.ringBytes r (List.replicate left 0)
    else
      let n := min left 65528
      let (b, s1) := s.padRecord n
      (s1.ringBytes r b).padTail r fuel (left - n)

/-- The writeback block (R354). -/
def State.writeback (s : State) (r : Nat) : State :=
  let R := s.ring r
  s.hostWrite R.writeback.toNat (leBytes 8 R.prod.toNat ++ leBytes 8 R.seq.toNat)

/-- The ring's vector is raised, and nothing is left unsignalled (R354). -/
def State.ringSignal (s : State) (r : Nat) : State :=
  let R := s.ring r
  (s.setRing r { R with unsignalled := 0, unsigAny := false }).raise R.vector.toNat

/-- The signal that intr_bytes gives (R354). -/
def State.ringCheckSignal (s : State) (r : Nat) : State :=
  let R := s.ring r
  if R.intrBytes ≠ 0 && R.intrBytes ≤ R.unsignalled then s.ringSignal r else s

/-- Records written in sequence. -/
def State.ringRecords (s : State) (r : Nat) : List Rec → State
  | [] => s
  | x :: l =>
    let q := (s.ring r).seq + 1
    ((s.setRing r { s.ring r with seq := q }).ringBytes r (recordBytes q.toNat x)).ringRecords r l

/-- The overflow notice due on a ring (R356, R358). -/
def overflowNotice (R : Ring) (now : U64) : List Rec :=
  if R.lostGroups = 0 then []
  else [{ kind := 6, sitter := 0xFFFF, partition := 0xFF, flags := 0, capture := now
          body := leBytes 4 (min R.lostRecords 0xFFFFFFFF) ++ leBytes 4 (min R.lostGroups 0xFFFFFFFF)
                    ++ leBytes 8 R.lostFirst.toNat ++ leBytes 8 R.lostLast.toNat }]

/-- The pending losses with one more group of `n` records whose capture times lie from `a` to `b`. -/
def Ring.lose (R : Ring) (n : Nat) (a b : U64) : Ring :=
  { R with lostRecords := R.lostRecords + n, lostGroups := R.lostGroups + 1
           lostFirst := if R.lostGroups = 0 then a else (if a.ult R.lostFirst then a else R.lostFirst)
           lostLast := if R.lostGroups = 0 then b else (if R.lostLast.ult b then b else R.lostLast) }

def Ring.noLoss (R : Ring) : Ring := { R with lostRecords := 0, lostGroups := 0, lostFirst := 0, lostLast := 0 }

/-- The least and greatest capture times of a group. -/
def captureSpan (l : List Rec) : U64 × U64 :=
  match l with
  | [] => (0, 0)
  | x :: t => t.foldl (fun a r => (if r.capture.ult a.1 then r.capture else a.1, if a.2.ult r.capture then r.capture else a.2))
      (x.capture, x.capture)

/-- A group of records written to a ring (R354 to R356): whole with its pad and the overflow notice due, or lost. While the function may
issue no request every ring is full (R411). (Log 76 DEDUCED) -/
def State.writeGroup (s : State) (r : Nat) (g : List Rec) : State :=
  let R := s.ring r
  if !R.defined || g.isEmpty then s
  else
    let all := overflowNotice R s.tb.time ++ g
    let n := recordsLen all
    let pad := if R.tail < n then R.tail else 0
    if s.busOn && pad + n ≤ R.free then
      let s1 := if pad = 0 then s else s.padTail r (R.size / 65528 + 2) pad
      let s2 := (s1.setRing r (s1.ring r).noLoss).ringRecords r all
      (s2.writeback r).ringCheckSignal r
    else
      let c := captureSpan g
      s.setRing r (R.lose g.length c.1 c.2)

/-- RING_INTR_TIMER: intr_us has passed since the first unsignalled record (R354). (Log 3 DESIGN CHOICE) -/
def execRingIntrTimer (r : Nat) (s : State) : Out :=
  if 64 ≤ r then noUnit
  else if !s.board.clocksStopped && (s.ring r).unsigAny && (s.ring r).intrUs ≠ 0 then .next (s.ringSignal r) else .next s

/-- HQ_RINGn_CONS (R354): a value below the previous one or above p is ignored and counted. -/
def State.ringCons (s : State) (r : Nat) (v : U64) : State :=
  let R := s.ring r
  if v.ult R.cons || R.prod.ult v then s.setRing r { R with consErr := R.consErr + 1 } else s.setRing r { R with cons := v }

/-! ### Archive rings (R62, R357) -/

/-- An archive entry: sequence number and injection layout (R92), data padded to 8 bytes. -/
def archiveBytes (seq sitter disp reason marks : Nat) (capture arrival : U64) (len : Nat) (data : List Byte) : List Byte :=
  leBytes 8 seq ++ leBytes 2 sitter ++ leBytes 1 disp ++ leBytes 1 reason ++ leBytes 2 marks ++ leBytes 2 0
    ++ leBytes 8 capture.toNat ++ leBytes 8 arrival.toNat ++ leBytes 4 len ++ leBytes 4 0 ++ data
    ++ List.replicate ((8 - data.length % 8) % 8) 0

def archiveLen (n : Nat) : Nat := 40 + (n + 7) / 8 * 8

/-- Pad bytes before an entry of `n` bytes at producer position p. -/
def archivePad (size p n : Nat) : Nat := if size - p % size < n then size - p % size else 0

/-- The tail filled before an entry that would cross the end. -/
def State.archiveTail (s : State) (r n : Nat) : State :=
  let R := s.ring r
  let t := archivePad R.size R.prod.toNat n
  if t = 0 then s
  else if t < 40 then s.ringBytes r (List.replicate t 0)
  else s.ringBytes r (archiveBytes 0 0xFFFF 0 0 0 0 0 (t - 40) (List.replicate (t - 40) 0))

/-- An entry placed with the next archive sequence number, and the writeback that follows it. -/
def State.archiveEntry (s : State) (r n : Nat) (f : Nat → List Byte) : State :=
  let s1 := s.archiveTail r n
  let q := (s1.ring r).seq + 1
  (((s1.setRing r { s1.ring r with seq := q }).ringBytes r (f q.toNat)).writeback r).ringCheckSignal r

/-- An access unit copied into an archive ring (R62, R357). (Log 53 DEDUCED) -/
def State.archive (s : State) (r sitter disp reason marks : Nat) (capture arrival : U64) (data : List Byte) : State :=
  let R := s.ring r
  if !R.defined then s
  else
    let n := archiveLen data.length
    let p := R.prod.toNat
    let loss := if R.lostGroups = 0 then 0 else archivePad R.size p 48 + 48
    if s.busOn && loss + archivePad R.size (p + loss) n + n ≤ R.free then
      let s1 := if R.lostGroups = 0 then s
        else (s.setRing r R.noLoss).archiveEntry r 48 (fun q => archiveBytes q 0xFFFF 0 0 0 R.lostFirst R.lostLast 8
               (leBytes 4 (min R.lostRecords 0xFFFFFFFF) ++ leBytes 4 0))
      s1.archiveEntry r n (fun q => archiveBytes q sitter disp reason marks capture arrival data.length data)
    else s.setRing r (R.lose 1 capture capture)

/-! ### Events -/

/-- Numbers of the defined rings for which `f` holds. -/
def State.ringsWith (s : State) (f : Ring → Bool) : List Nat := (s.host.rings.filter (fun x => x.2.defined && f x.2)).map (·.1)

/-- A time event, to every ring with TIME_EVENTS (R46, R358). -/
def State.timeEvent (s : State) (event : Nat) (a b : Int) : State :=
  let r : Rec := { kind := 8, sitter := 0xFFFF, partition := 0xFF, flags := 0, capture := s.tb.time
                   body := leBytes 1 event ++ leBytes 1 s.host.live.srcSel.toNat ++ leBytes 1 s.tb.state ++ leBytes 5 0
                             ++ leBytes 8 (BitVec.ofInt 64 a).toNat ++ leBytes 8 (BitVec.ofInt 64 b).toNat }
  (s.ringsWith (·.timeEvents)).foldl (fun s i => s.writeGroup i [r]) s

/-- The difference of two store times, saturated to an i64 (R358). -/
def satI64 (x : Int) : Int := max (-2 ^ 63) (min (2 ^ 63 - 1) x)

/-- Store time and the REPLAY flag of a partition's records (R358). -/
def State.replayFlag (s : State) (p : Nat) : Nat := if (s.part p).replay then 4 else 0

/-- Fields of a partition event (R358). -/
structure PartEvt where
  event  : Nat
  cause  : Nat := 8
  fault  : Nat := 0
  easel  : Nat := 0xFFFF
  sitters : Nat := 0
  detail : Nat := 0
  restartUs : Nat := 0
  deriving DecidableEq, Repr

/-- A partition event, to every ring that receives those of partition p (R352, R358). (Log 64 DEDUCED) -/
def State.partEvent (s : State) (p : Nat) (v : PartEvt) : State :=
  let P := s.part p
  let r : Rec := { kind := 7, sitter := 0xFFFF, partition := p, flags := s.replayFlag p, capture := s.timeOf p
                   body := leBytes 1 v.event ++ leBytes 1 v.cause ++ leBytes 1 v.fault ++ leBytes 1 0 ++ leBytes 2 v.easel
                     ++ leBytes 2 v.sitters ++ leBytes 8 P.sitting.toNat ++ leBytes 8 v.detail ++ leBytes 4 v.restartUs ++ leBytes 4 0
                     ++ leBytes 8 P.restarts.toNat }
  (s.ringsWith (fun R => R.partEvents.getLsbD p)).foldl (fun s i => s.writeGroup i [r]) s

/-- An adaptation progress record (R358): state 1 RUNNING, 2 DONE, 3 ABORTED. -/
def State.adaptRecord (s : State) (p : Nat) (job : U32) (st step steps : Nat) (loss : U32) (samples : Nat) : State :=
  let r : Rec := { kind := 9, sitter := 0xFFFF, partition := p, flags := s.replayFlag p, capture := s.timeOf p
                   body := leBytes 4 job.toNat ++ leBytes 1 st ++ leBytes 3 0 ++ leBytes 4 step ++ leBytes 4 steps
                     ++ leBytes 4 loss.toNat ++ leBytes 4 0 ++ leBytes 8 samples ++ leBytes 8 0 }
  (s.ringsWith (fun R => R.partEvents.getLsbD p)).foldl (fun s i => s.writeGroup i [r]) s

end Sys2Proof.Machine
end

