-- ==== Sys2Proof/Machine/SitterTable.lean ====
section
/-!
DEFINITION. The sitter table's 64-byte entries (R316, R506).
-/
namespace Sys2Proof.Machine

/-- Demux entries of a sitter, ascending. -/
def State.dmxOf (s : State) (n : Nat) : List Nat := (s.ing.dmx.filter (fun x => x.2.sitter = n)).map (·.1)

/-- The entry of sitter n. A FREE entry reads 0 except for its last track epoch. -/
def State.sitterEntry (s : State) (n : Nat) : List Byte :=
  let S := s.sitter n
  if S.state = 0 then List.replicate 24 0 ++ leBytes 2 (if S.known then S.epoch.toNat else 0) ++ List.replicate 38 0
  else
    leBytes 1 S.state ++ leBytes 1 S.partition ++ leBytes 1 S.codec ++ [S.flags] ++ leBytes 2 S.maxWidth ++ leBytes 2 S.maxHeight
      ++ leBytes 1 S.maxRefs ++ leBytes 1 S.bitDepth ++ leBytes 1 S.hold ++ leBytes 1 S.resultRing ++ leBytes 1 S.archiveRing ++ [0]
      ++ leBytes 2 S.damageTh ++ leBytes 4 S.staleUs ++ leBytes 4 S.budgetUs ++ leBytes 2 S.epoch.toNat ++ leBytes 2 0
      ++ leBytes 4 S.nextTrack.toNat ++ (List.range 4).flatMap (fun i => leBytes 2 ((s.dmxOf n).getD i 0xFFFF))
      ++ leBytes 8 S.trackerState.toNat ++ leBytes 8 S.slots.toNat ++ leBytes 4 S.slotBytes ++ leBytes 4 S.esKib

/-- Flag bits of an entry. -/
def Sitter.sourceHost (S : Sitter) : Bool := S.flags.getLsbD 0
def Sitter.still (S : Sitter) : Bool := S.flags.getLsbD 1
def Sitter.archive (S : Sitter) : Bool := S.flags.getLsbD 2
def Sitter.dropDamaged (S : Sitter) : Bool := S.flags.getLsbD 3

end Sys2Proof.Machine
end

