-- ==== Sys2Proof/Machine/Frames.lean ====
section
/-!
DEFINITION. A sitter's frames from the completion of an access unit to their records (R116, R324, R350, R351), what a drop, a deletion, a stop
and a restart do to them (R119, R138, R317, R322, R349), and RESULT_GROUP_WRITE (R350, R351, R358).
-/
namespace Sys2Proof.Machine

/-! ### Drop reasons and origins (R358, R359) -/

def dropStale : Nat := 1
def dropDamaged : Nat := 2
def dropShape : Nat := 3
def dropParamSet : Nat := 4
def dropQueueFull : Nat := 5
def dropJoining : Nat := 6
def dropRestarting : Nat := 7
def dropBudget : Nat := 8

def origIngress : Nat := 0
def origDecoder : Nat := 1
def origBuilder : Nat := 2
def origFraming : Nat := 3
def origProgram : Nat := 4
def origCurator : Nat := 5

/-! ### Counters of a sitter (R95, R126) -/

/-- Decode counters in the order of R126. -/
def decPictures : Nat := 0
def decSkipped : Nat := 1
def decConcealed : Nat := 2
def decSyntax : Nat := 3
def decSlices : Nat := 4
def decBuilt : Nat := 5
def decRejected : Nat := 6
def decBudget : Nat := 7
def decBounds : Nat := 8
def decJoining : Nat := 9
def decMisses : Nat := 10

/-- A 48-bit counter of a table stepped by `n`. -/
def bump48 (t : Tbl (BitVec 48)) (k n : Nat) : Tbl (BitVec 48) := tset 0 t k (tget 0 t k + BitVec.ofNat 48 n)

def Sitter.decCount (S : Sitter) (k n : Nat) : Sitter := { S with decCnt := bump48 S.decCnt k n }
def Sitter.ingCount (S : Sitter) (k n : Nat) : Sitter := { S with ing := { S.ing with cnt := bump48 S.ing.cnt k n } }

/-! ### Frames -/

def Sitter.frame? (S : Sitter) (au : U64) : Option FrameRec := S.frames.find? (fun f => f.au = au)

def Sitter.updFrame (S : Sitter) (au : U64) (g : FrameRec → FrameRec) : Sitter :=
  { S with frames := S.frames.map (fun f => if f.au = au then g f else f) }

/-- A frame leaves without a record. -/
def Sitter.forget (S : Sitter) (au : U64) : Sitter := { S with frames := S.frames.filter (fun f => f.au ≠ au) }

/-- Framing releases a picture (R105, R138). -/
def Sitter.release (S : Sitter) (au : U64) : Sitter := { S with held := S.held.filter (fun h => h.au ≠ au) }

/-- The picture still waits to leave the decoder in output order. -/
def Sitter.awaitsOutput (S : Sitter) (au : U64) : Bool := S.output.any (fun x => x.au = au)

/-- Pictures wait in the decoder for their turn in output order; now they leave: a frame still wanted becomes ready, and a dropped one is
released (R105). -/
def Sitter.deliver (S : Sitter) (au : U64) : Sitter :=
  let S1 := { S with output := S.output.filter (fun x => x.au ≠ au) }
  match S1.frame? au with
  | some f => if f.phase = .waiting then S1.updFrame au (fun f => { f with phase := .ready }) else S1.release au
  | none => S1.release au

/-- The next picture in output order. -/
def nextOutput (l : List OutPic) : Option U64 :=
  (l.foldl (fun b x => match b with | none => some x | some y => if x.poc < y.poc then some x else some y) none).map (·.au)

/-- Output for as long as a condition asks for it. -/
def Sitter.bumpWhile (S : Sitter) (more : Sitter → Bool) : Nat → Sitter
  | 0 => S
  | fuel + 1 =>
    if !more S then S else match nextOutput S.output with | some au => (S.deliver au).bumpWhile more fuel | none => S

/-- Every waiting picture leaves. -/
def Sitter.flushOut (S : Sitter) : Sitter := S.bumpWhile (fun _ => true) S.output.length

/-- A frame is dropped with a reason (R116): it has at most one notice. Its picture is released unless it is needed for output. -/
def Sitter.drop (S : Sitter) (au : U64) (reason origin : Nat) : Sitter :=
  let S1 := S.updFrame au (fun f =>
    if f.phase = .dropped || f.phase = .reported then f
    else { f with phase := .dropped, reason := BitVec.ofNat 8 reason, origin := BitVec.ofNat 8 origin })
  if S1.awaitsOutput au then S1 else S1.release au

def State.drop (s : State) (n : Nat) (au : U64) (reason origin : Nat) : State := s.setSitter n ((s.sitter n).drop au reason origin)

/-- The frame that comes first in R351's order: least capture time, then least au_index. (Log 75 DEDUCED) -/
def earliest : List FrameRec → Option FrameRec
  | [] => none
  | f :: t =>
    match earliest t with
    | none => some f
    | some g => if g.capture.ult f.capture || (g.capture = f.capture && g.au.ult f.au) then some g else some f

/-! ### Memory that a sitter's registration holds (R81, R104, R123) -/

/-- The still map cleared to 0 (R119, R122). -/
def State.clearStill (s : State) (n : Nat) : State := s.clearDev (medBase + (s.sitter n).stillOff) (s.sitter n).stillLen

/-- Slots, ring and map given up. -/
def State.freeSitterMem (s : State) (n : Nat) : State :=
  let S := s.sitter n
  ((s.clearStill n).deallocate S.slots.toNat).deallocate S.esAddr.toNat

/-! ### Abandoning (R119) -/

/-- The decoder has read an access unit: its ring space is free (R81). (Log 58 DEDUCED) -/
def Sitter.freeUnit (S : Sitter) (n : Nat) : Sitter := { S with ing := { S.ing with esUsed := S.ing.esUsed - n } }

/-- The picture on an engine for a sitter is abandoned, without samples or records. -/
def State.abandonDecode (s : State) (n : Nat) : State :=
  let S := s.sitter n
  match S.engine with
  | none => s
  | some e =>
    let E := tget {} s.med.engines e
    let S1 : Sitter := { S with engine := none }
    let S2 := match E.job with
      | some j => (S1.forget j.au.index).freeUnit j.au.bytes.length
      | none => S1
    { s with med := { s.med with engines := tset {} s.med.engines e { E with job := none } } }.setSitter n S2

/-- A frame that framing does not hold yet, or that is ready and unadmitted. -/
def FrameRec.unadmitted (f : FrameRec) : Bool := f.phase = .waiting || f.phase = .ready

/-- The decoder's side of the joining state (R117, R119). -/
def Sitter.joining (S : Sitter) : Sitter := { S with state := 1, recoveries := [], joinPoc := none, rasl := false, dpb := [], output := [] }

/-- PART_STOP for a sitter (R322): ready frames get their notice "joining", dropped ones give up their pictures (R119), and the sitter joins
again. Pictures in batches stay. (Log 58 DEDUCED) -/
def State.stopSitter (s : State) (n : Nat) : State :=
  let s1 := (s.abandonDecode n).clearStill n
  let S := (s1.sitter n).flushOut
  let gone := (S.frames.filter FrameRec.unadmitted).map (·.au)
  let S1 := gone.foldl (fun S au => (S.drop au dropJoining origCurator).release au) S.joining
  s1.setSitter n (S1.decCount decJoining gone.length)

/-- A restart for a sitter (R119, R146, R349, R458): every admitted and every ready frame gets its notice "partition restarting"; in a
replay partition so does every injected unit not yet decoded. (Log 58 DEDUCED) -/
def State.restartSitter (s : State) (n : Nat) (replay : Bool) : State :=
  let s1 := (s.abandonDecode n).clearStill n
  let S := s1.sitter n
  let hit (f : FrameRec) : Bool := f.unadmitted || f.phase = .admitted || (replay && f.phase = .coded)
  let gone := (S.frames.filter hit).map (·.au)
  let S1 := gone.foldl (fun S au => S.drop au dropRestarting origCurator) { S.joining with held := [] }
  let S2 := if replay then { S1 with ing := { S1.ing with queue := [], esUsed := 0 } } else S1
  s1.setSitter n { S2 with ing := { S2.ing with paramsDue := true } }

/-- Pending and running framing slots of a sitter lose their registration (R143). -/
def Med.orphanSlots (m : Med) (n : Nat) : Med :=
  let g (j : SlotJob) : SlotJob := if j.sitter = n then { j with gone := true } else j
  { m with slots := m.slots.map g, fus := m.fus.map (fun x => (x.1, { x.2 with job := x.2.job.map g })) }

/-- A registration ends (R317): its unadmitted units and its unwritten records are discarded; frames in a batch are remembered for R348. -/
def State.endRegistration (s : State) (n : Nat) : State :=
  let s1 := (s.abandonDecode n).freeSitterMem n
  let S := s1.sitter n
  let held := S.frames.filter (fun f => f.phase = .admitted)
  let s2 := match s1.part? S.partition with
    | none => s1
    | some P => s1.setPart S.partition { P with orphans := P.orphans ++ held.map (fun (f : FrameRec) => ({ sitter := n, au := f.au, sitting := f.sitting } : Orphan)) }
  { s2 with med := { s2.med.orphanSlots n with contexts := s2.med.contexts.filter (fun x => x.2 ≠ n) } }

/-! ### Records of a frame (R350, R358) -/

/-- Header flags of a frame-related record: REPLAY, TIME_FROM_ARRIVAL, TIME_ADJUSTED. -/
def State.frameFlags (s : State) (S : Sitter) (f : FrameRec) : Nat :=
  s.replayFlag S.partition + (if f.fromArrival then 8 else 0) + (if f.adjusted then 16 else 0)

/-- (Log 54 DEDUCED) -/
def dropNotice (n : Nat) (S : Sitter) (flags : Nat) (f : FrameRec) : Rec :=
  let dmg := f.reason.toNat = dropDamaged
  { kind := 4, sitter := n, partition := S.partition, flags := flags, capture := f.capture
    body := leBytes 8 f.au.toNat ++ [f.reason, f.origin] ++ leBytes 2 (if dmg then f.o else 0) ++ leBytes 2 (if dmg then f.d else 0)
      ++ leBytes 2 f.shapeVar.toNat ++ leBytes 4 (if dmg then f.concealed else 0) ++ leBytes 4 f.value.toNat }

def damageNotice (n : Nat) (S : Sitter) (flags : Nat) (f : FrameRec) (th : Nat) : Rec :=
  { kind := 5, sitter := n, partition := S.partition, flags := flags, capture := f.capture
    body := leBytes 8 f.au.toNat ++ leBytes 2 f.o ++ leBytes 2 f.d ++ leBytes 2 th ++ leBytes 2 0 ++ leBytes 4 f.concealed ++ leBytes 4 0 }

/-- Counts of a result block (R347). -/
def blkObjects (b : List Byte) : Nat := fieldLE b 4 2
def blkEvents (b : List Byte) : Nat := fieldLE b 6 2
def blkPrograms (b : List Byte) : Nat := fieldLE b 8 2

/-- Bodies of the program-defined records in the rest of a block; none when the rest is not `n` whole records of right form. -/
def programBodies : Nat → List Byte → Option (List (List Byte))
  | 0, r => if r.isEmpty then some [] else none
  | n + 1, r =>
    let l := fieldLE r 0 2
    if r.length < 8 + l || l % 8 ≠ 0 || l < 8 || 4064 < l || !allZero (fieldBytes r 2 6) then none
    else (programBodies n (r.drop (8 + l))).map (fun t => fieldBytes (r.drop 8) 0 l :: t)

/-- A frame record is the first of its track epoch: the last one of the sitter carried another (R358). -/
def Sitter.startsEpoch (S : Sitter) (f : FrameRec) : Bool := S.lastRec ≠ some (f.gen, BitVec.ofNat 16 (fieldLE f.block 20 2))

/-- The frame record (R358). (Log 54 DEDUCED) -/
def State.frameRecord (s : State) (n : Nat) (S : Sitter) (f : FrameRec) : Rec :=
  let b := f.block
  let now := s.timeOf S.partition
  { kind := 1, sitter := n, partition := S.partition, capture := f.capture
    flags := s.frameFlags S f + (if f.deadline.ult now then 1 else 0) + (if S.startsEpoch f then 2 else 0)
    body := leBytes 8 f.au.toNat ++ leBytes 8 f.sitting.toNat ++ leBytes 8 now.toNat ++ leBytes 2 (blkObjects b) ++ leBytes 2 (blkEvents b)
      ++ leBytes 2 (fieldLE b 10 2) ++ leBytes 2 (fieldLE b 12 2) ++ leBytes 2 (fieldLE b 20 2) ++ leBytes 2 f.d ++ leBytes 4 (fieldLE b 24 4) }

/-- The group of an analysed frame, or the one notice of a dropped one (R350). -/
def State.frameGroup (s : State) (n : Nat) (S : Sitter) (f : FrameRec) : List Rec :=
  let fl := s.frameFlags S f
  if f.phase = .dropped then [dropNotice n S fl f]
  else
    let b := f.block
    let no := blkObjects b
    let ne := blkEvents b
    let mk (kind : Nat) (body : List Byte) : Rec :=
      { kind := kind, sitter := n, partition := S.partition, flags := fl, capture := f.capture, body := body }
    (match f.damage with | some th => [damageNotice n S fl f th] | none => [])
      ++ s.frameRecord n S f :: ((List.range no).map (fun i => mk 2 (fieldBytes b (48 + 40 * i) 40))
      ++ (List.range ne).map (fun i => mk 3 (fieldBytes b (48 + 40 * no + 24 * i) 24))
      ++ ((programBodies (blkPrograms b) (b.drop (48 + 40 * no + 24 * ne))).getD []).map (mk 0xA))

/-- What the sitter entry shows after a frame's group: epoch and next track ID of its frame record (R345). -/
def Sitter.reported (S : Sitter) (f : FrameRec) : Sitter :=
  let S1 := S.forget f.au
  if f.phase = .dropped then S1
  else
    let ep : U16 := BitVec.ofNat 16 (fieldLE f.block 20 2)
    { S1 with epoch := ep, nextTrack := BitVec.ofNat 32 (fieldLE f.block 24 4), lastRec := some (f.gen, ep) }

/-- RESULT_GROUP_WRITE: the group of the sitter's first frame, once its outcome is known (R351). (Log 75 DEDUCED) -/
def execResultGroupWrite (n : Nat) (s : State) : Out :=
  if 2048 ≤ n then noUnit
  else
    let S := s.sitter n
    match earliest S.frames with
    | none => .next s
    | some f =>
      if !s.ready || !(f.phase = .dropped || f.phase = .reported) then .next s
      else .next ((s.writeGroup S.resultRing (s.frameGroup n S f)).setSitter n (S.reported f))

end Sys2Proof.Machine
end

