-- ==== Sys2Proof/Machine/Slots.lean ====
section
/-!
DEFINITION. Picture slots (R104, R105): their layout, their samples, and the slots in use.
-/
namespace Sys2Proof.Machine

/-! ### Picture slots (R104, R105) -/

def ceilDiv (a b : Nat) : Nat := (a + b - 1) / b
def upTo64 (n : Nat) : Nat := ceilDiv n 64 * 64

/-- Bytes of a sample (e of R104). -/
def Sitter.sampleBytes (S : Sitter) : Nat := if S.bitDepth = 10 then 2 else 1
def Sitter.rowSamples (S : Sitter) : Nat := upTo64 S.maxWidth
def Sitter.planeRows (S : Sitter) : Nat := upTo64 S.maxHeight
def Sitter.lumaBytes (S : Sitter) : Nat := S.rowSamples * S.planeRows * S.sampleBytes
/-- The chroma plane. A JPEG slot is sized for 4:4:4, and what follows the plane has its place there for every sampling. (Log 122 DESIGN CHOICE) -/
def Sitter.chromaBytes (S : Sitter) : Nat := if S.codec = 2 then 2 * S.lumaBytes else S.lumaBytes / 2
def Sitter.statsOff (S : Sitter) : Nat := S.lumaBytes + S.chromaBytes
def Sitter.blocksOff (S : Sitter) : Nat := S.statsOff + 64
def Sitter.stillOffset (S : Sitter) : Nat := S.blocksOff + ceilDiv S.maxWidth 16 * ceilDiv S.maxHeight 16 * 8
/-- Bytes of a slot, and the number of slots. -/
def Sitter.slotSize (S : Sitter) : Nat := ceilDiv (S.stillOffset + upTo64 (ceilDiv S.maxWidth 64 * ceilDiv S.maxHeight 64)) 4096 * 4096
def Sitter.slotCount (S : Sitter) : Nat := S.maxRefs + 1 + S.hold
/-- Address of a slot. -/
def Sitter.slotAt (S : Sitter) (i : Nat) : Nat := S.slots.toNat + i * S.slotBytes

/-- The picture of a sitter that is on an engine. -/
def State.jobOf (s : State) (n : Nat) : Option DecodeJob := (s.sitter n).engine.bind (fun e => (tget {} s.med.engines e).job)

/-- Slots in use: references, pictures that framing or output needs, and the picture on an engine. -/
def State.slotsUsed (s : State) (n : Nat) : List Nat :=
  let S := s.sitter n
  S.dpb.map (·.slot) ++ S.held.map (·.slot) ++ ((s.jobOf n).map (·.slot)).toList

def State.freeSlot (s : State) (n : Nat) : Option Nat := (List.range (s.sitter n).slotCount).find? (fun i => !(s.slotsUsed n).contains i)

/-! ### Samples (R104, R109) -/

/-- Subsampling of the chroma planes: horizontal and vertical. A 4:0:0 picture is held as 4:2:0. -/
def chromaSub (c : Chroma) : Nat × Nat := match c with | .c444 => (1, 1) | .c422 => (2, 1) | _ => (2, 2)

/-- Address of a luma sample, and of a chroma sample (0 Cb, 1 Cr), in a slot. -/
def Sitter.lumaAt (S : Sitter) (slot x y : Nat) : Nat := S.slotAt slot + (y * S.rowSamples + x) * S.sampleBytes
def Sitter.chromaAt (S : Sitter) (slot : Nat) (c : Chroma) (k x y : Nat) : Nat :=
  let row := if c = .c444 then 2 * S.rowSamples else S.rowSamples
  S.slotAt slot + S.lumaBytes + (y * row + 2 * x + k) * S.sampleBytes

/-- A sample as the slot holds it: an 8-bit stream in a 10-bit slot is shifted left by 2, and so a 9-bit one by 1. (Log 122 DESIGN CHOICE) -/
def Sitter.sample (S : Sitter) (depth : Nat) (v : U16) : List Byte :=
  if S.bitDepth = 10 then leBytes 2 (v.toNat * 2 ^ (10 - depth) % 1024) else leBytes 1 v.toNat

/-- Mid-grey as the slot holds it (R109). (Log 122 DESIGN CHOICE) -/
def Sitter.grey (S : Sitter) : List Byte := if S.bitDepth = 10 then leBytes 2 512 else leBytes 1 128

def flatWrites (l : List (Nat × List Byte)) : List (Nat × Byte) :=
  l.flatMap (fun x => (x.2.zipIdx).map (fun b => (x.1 + b.2, b.1)))

/-- The range of a slot. -/
def Sitter.slotRange (S : Sitter) (i : Nat) : Nat × Nat := (S.slotAt i, S.slotBytes)

end Sys2Proof.Machine
end

