-- ==== Sys2Proof/Machine/ParamSets.lean ====
section
/-!
DEFINITION. Parameter sets (R101, R102, R106, R108, R111, R538): what the decoder stores, activates and rejects.
-/
namespace Sys2Proof.Machine

/-! ### What the decoders accept (R101, R102) -/

/-- Profile, level, depth, chroma and size within R101. -/
def profileOk (codec : Nat) (p : ParamSet) : Bool :=
  let h264 := codec = 0
  (match p.profile with
    | .constrainedBaseline => h264 && p.chroma = .c420 && p.depth = 8
    | .main => h264 && p.chroma = .c420 && p.depth = 8
    | .high => h264 && (p.chroma = .c420 || p.chroma = .c400) && p.depth = 8
    | .hevcMain => !h264 && p.chroma = .c420 && p.depth = 8
    | .hevcMain10 => !h264 && p.chroma = .c420 && 8 ≤ p.depth && p.depth ≤ 10
    | .excluded => false)
    && p.framesOnly && !p.extended && p.level ≤ (if h264 then 52 else 62)
    && 16 ≤ p.width && p.width ≤ 8192 && 16 ≤ p.height && p.height ≤ 8192
    && (if h264 then ceilDiv p.width 16 * ceilDiv p.height 16 ≤ 36864 else p.width * p.height ≤ 35389440)

/-- The DPB size that a set declares (R111). -/
def declaredDpb (p : ParamSet) : Nat := p.dpbSize.getD (p.refFrames + 1)

/-- A set within R101, R102 and the sitter's limits (R103, R111). -/
def setOk (S : Sitter) (p : ParamSet) : Bool :=
  profileOk S.codec p && p.width ≤ S.maxWidth && p.height ≤ S.maxHeight && declaredDpb p ≤ S.maxRefs && p.depth ≤ S.bitDepth

/-- A JPEG header within R101, R102 and the sitter's limits, with enough bits in its scan (R111). -/
def jpegOk (S : Sitter) (h : JpegHdr) : Bool :=
  h.mode = .baseline && h.precision = 8 && 1 ≤ h.width && h.width ≤ 8192 && 1 ≤ h.height && h.height ≤ 8192 && h.width ≤ S.maxWidth
    && h.height ≤ S.maxHeight && 2 * ceilDiv h.width 8 * ceilDiv h.height 8 ≤ h.scanBits

/-! ### The stored sets (R106, R108) -/

def Sitter.setNamed (S : Sitter) (id : Nat) : Option ParamSet := S.sets.find? (fun x => x.id = id)
def Sitter.picNamed (S : Sitter) (id : Nat) : Option PicSet := S.pics.find? (fun x => x.id = id)

/-- Stored sets without those that a NAL unit replaces. -/
def Sitter.without (S : Sitter) (x : SetNal) : Sitter :=
  match x with
  | .seq p => { S with sets := S.sets.filter (fun y => y.id ≠ p.id) }
  | .pic p => { S with pics := S.pics.filter (fun y => y.id ≠ p.id) }
  | .video id _ => { S with videos := S.videos.filter (fun y => y.1 ≠ id) }

def nalBytes (x : SetNal) : Nat := match x with | .seq p => p.bytes | .pic p => p.bytes | .video _ n => n

/-- Bytes of the stored sets. -/
def Sitter.setBytes (S : Sitter) : Nat :=
  (S.sets.map (·.bytes) ++ S.pics.map (·.bytes) ++ S.videos.map (·.2)).foldl (· + ·) 0

/-- The set fits the context (R108). -/
def Sitter.setFits (S : Sitter) (x : SetNal) : Bool := (S.without x).setBytes + nalBytes x ≤ 49152

/-- A set is rejected (R111): it replaces and invalidates a stored one, with the picture sets that refer to it. When it is the active one, the
sitter joins again (R117), and its decoded pictures leave in output order. (Log 56 DEDUCED) -/
def State.rejectSet (s : State) (n : Nat) (x : SetNal) : State :=
  let S := ((s.sitter n).without x).decCount decRejected 1
  match x with
  | .video _ _ => s.setSitter n S
  | .pic p => s.setSitter n { S with badPics := S.badPics.filter (· ≠ p.id) ++ [p.id] }
  | .seq p =>
    let refers := (S.pics.filter (fun y => y.sps = p.id)).map (·.id)
    let S1 := { S.decCount decRejected refers.length with
      badSets := S.badSets.filter (· ≠ p.id) ++ [p.id], badPics := S.badPics.filter (!refers.contains ·) ++ refers
      pics := S.pics.filter (fun y => y.sps ≠ p.id), rejoin := S.rejoin.filter (· ≠ p.id) }
    let act := match S.active with | some a => a.id = p.id | none => false
    if act = true then (s.setSitter n { S1.flushOut.joining with active := none, joinNeeds := some p.id }).clearStill n else s.setSitter n S1

/-- A set met in the stream is stored or rejected (R108, R111). A sequence set that takes the place of a rejected one serves from the next
join point. (Log 56 DEDUCED) -/
def State.storeSet (s : State) (n : Nat) (x : SetNal) : State :=
  let S := s.sitter n
  let T := S.without x
  if !S.setFits x then s.rejectSet n x
  else
    match x with
    | .video id k => s.setSitter n { T with videos := T.videos ++ [(id, k)] }
    | .pic p =>
      if S.badSets.contains p.sps then s.rejectSet n x
      else s.setSitter n { T with pics := T.pics ++ [p], badPics := T.badPics.filter (· ≠ p.id) }
    | .seq p =>
      if !setOk S p then s.rejectSet n x
      else
        s.setSitter n { T with
          sets := T.sets ++ [p], badSets := T.badSets.filter (· ≠ p.id)
          rejoin := if S.badSets.contains p.id && S.joinNeeds ≠ some p.id then T.rejoin ++ [p.id] else T.rejoin
          joinNeeds := if S.joinNeeds = some p.id then none else S.joinNeeds }

/-! ### The set that a picture uses (R108, R538) -/

/-- The sequence set of a slice, when both identifiers hold a stored set. -/
def Sitter.sliceSet (S : Sitter) (x : SliceDesc) : Option ParamSet := (S.picNamed x.pps).bind (fun p => S.setNamed p.sps)

/-- A slice names a set that a rejection invalidated. -/
def Sitter.sliceRejected (S : Sitter) (x : SliceDesc) : Bool :=
  S.badPics.contains x.pps || match S.picNamed x.pps with | some p => S.badSets.contains p.sps | none => false

/-- A picture at which the standards let a sequence set take effect: IDR in H.264, IRAP in H.265. -/
def activates (p : PicDesc) : Bool := match p.type with | .idr => true | .cra => true | .bla => true | _ => false

/-- The set in force for a picture: the named one from its activation on; until then the content that is active (R108). -/
def Sitter.picSet (S : Sitter) (p : PicDesc) : Option ParamSet :=
  match p.slices.findSome? (fun x => if x.headerOk then S.sliceSet x else none), S.active with
  | some a, some b => if activates p || a.id ≠ b.id then some a else some b
  | r, _ => r

end Sys2Proof.Machine
end

