-- ==== Sys2Proof/Machine/Damage.lean ====
section
/-!
DEFINITION. Damage (R109, R110, R112 to R114): which blocks of a picture are concealed, from what, and how far the damage reaches.
-/
namespace Sys2Proof.Machine

/-! ### Slices and the decode budget (R110, R113, R538) -/

/-- Coded size of a picture: from its header for JPEG, else from the active set. -/
def codedSize (S : Sitter) (p : PicDesc) : Nat × Nat :=
  if S.codec = 2 then (p.jpeg.width, p.jpeg.height) else match S.active with | some a => (a.width, a.height) | none => (0, 0)

/-- Blocks of a picture. -/
def blockCount (z : Nat × Nat) : Nat := ceilDiv z.1 16 * ceilDiv z.2 16

/-- The blocks in decoding order. -/
def decodeOrder (p : PicDesc) (nb : Nat) : List Nat := if p.order.isEmpty then List.range nb else p.order

/-- A slice that the decoder can use: a decodable header, and for H.264 and H.265 stored sets. -/
def Sitter.usable (S : Sitter) (x : SliceDesc) : Bool := x.headerOk && (S.codec = 2 || (S.sliceSet x).isSome)

/-- Slices decoded and slices discarded: an unstored set (R538), or an address that repeats or goes backwards (R110). -/
def Sitter.takeSlices (S : Sitter) (l : List SliceDesc) : List SliceDesc × List SliceDesc :=
  l.foldl (fun acc x =>
    if !x.headerOk then acc
    else if !S.usable x || acc.1.any (fun y => x.first ≤ y.first) then (acc.1, acc.2 ++ [x])
    else (acc.1 ++ [x], acc.2)) ([], [])

/-- The budget of a picture (R113). -/
def decodeBudget (w h vcl : Nat) : Nat := 16 * vcl + (rneDiv (Int.ofNat (w * h)) 2).toNat + 4096

/-- What the engine has done: work units, and the positions whose blocks were complete before the budget was reached. -/
structure Progress where
  used : Nat := 0
  done : List Nat := []
  deriving DecidableEq, Repr

/-- One slice: its header, then its blocks, each complete when its last unit does not pass the budget. -/
def Progress.slice (g : Progress) (budget : Nat) (x : SliceDesc) : Progress :=
  x.units.zipIdx.foldl (fun g k =>
    let used := g.used + k.1
    { used := used, done := if k.2 < x.good && used ≤ budget then g.done ++ [x.first + k.2] else g.done })
    { g with used := g.used + x.headerUnits }

/-- A picture's slices; the headers of discarded ones are counted first. (Log 57 DEDUCED) -/
def Sitter.progress (S : Sitter) (p : PicDesc) (budget : Nat) : Progress :=
  let l := S.takeSlices p.slices
  l.1.foldl (fun g x => g.slice budget x) { used := (l.2.map (·.headerUnits)).foldl (· + ·) 0 }

/-! ### Bounds (R112) -/

/-- A write within the bounds registers, or within the sitter's stillness map. -/
def Sitter.inBounds (S : Sitter) (a : Nat) : Bool :=
  (S.bounds.1 ≤ a && a < S.bounds.1 + S.bounds.2) || (medBase + S.stillOff ≤ a && a < medBase + S.stillOff + S.stillLen)

/-- The last bytes that a block writes: luma, both chroma planes, and its record. -/
def Sitter.blockEnds (S : Sitter) (slot : Nat) (z : Nat × Nat) (c : Chroma) (b : Nat) : List Nat :=
  let cols := ceilDiv z.1 16
  let x := min (16 * (b % cols) + 15) (z.1 - 1)
  let y := min (16 * (b / cols) + 15) (z.2 - 1)
  let f := chromaSub c
  [S.lumaAt slot x y, S.chromaAt slot c 1 (x / f.1) (y / f.2), S.slotAt slot + S.blocksOff + 8 * b + 7]

/-- The first position whose block would write outside the bounds registers. -/
def Sitter.boundsAt (S : Sitter) (slot : Nat) (z : Nat × Nat) (c : Chroma) (order done : List Nat) : Option Nat :=
  done.find? (fun k => (S.blockEnds slot z c (order.getD k 0)).any (fun a => !S.inBounds a))

/-! ### Concealment (R109) -/

/-- A random-access picture that empties the picture buffer: IDR, BLA, and a CRA used to join. -/
def restartsBuffer (p : PicDesc) (joining : Bool) : Bool :=
  match p.type with | .idr => true | .bla => true | .cra => joining | _ => false

/-- d of a reference. -/
def refDamage (dpb : List DpbPic) (poc : Int) : Nat := match dpb.find? (fun x => x.poc = poc) with | some x => x.d | none => 1024

/-- The nearest reference: least distance in order count, ties to the earlier picture. (Log 57 DEDUCED) -/
def nearestRef (dpb : List DpbPic) (poc : Int) : Option DpbPic :=
  dpb.foldl (fun b x => match b with
    | none => some x
    | some y => if (x.poc - poc).natAbs < (y.poc - poc).natAbs || ((x.poc - poc).natAbs = (y.poc - poc).natAbs && x.poc < y.poc) then some x
                else some y) none

/-- Chroma sampling and bit depth of a picture. -/
def Sitter.picChroma (S : Sitter) (p : PicDesc) : Chroma :=
  if S.codec = 2 then p.jpeg.chroma else match S.active with | some a => a.chroma | none => .c420
def Sitter.picDepth (S : Sitter) : Nat := if S.codec = 2 then 8 else match S.active with | some a => a.depth | none => 8

/-- What a decoded picture is about to write. -/
structure PicWrite where
  slot   : Nat
  w      : Nat
  h      : Nat
  depth  : Nat
  chroma : Chroma
  conc   : List Nat
  src    : Option DpbPic
  deriving DecidableEq, Repr

/-- Bytes of one sample position: from the bitstream, from the nearest reference, or mid-grey. -/
def State.sampleBytesAt (s : State) (S : Sitter) (k : PicWrite) (block : Nat) (v : U16) (refAddr : Nat → Nat) : List Byte :=
  if k.conc.contains block then match k.src with | some r => s.devN (refAddr r.slot) S.sampleBytes | none => S.grey
  else S.sample k.depth v

def State.lumaWrites (s : State) (S : Sitter) (k : PicWrite) (l : List U16) : List (Nat × List Byte) :=
  (List.range k.h).flatMap (fun y => (List.range k.w).map (fun x =>
    (S.lumaAt k.slot x y, s.sampleBytesAt S k (y / 16 * ceilDiv k.w 16 + x / 16) (l.getD (y * k.w + x) 0) (fun r => S.lumaAt r x y))))

/-- A chroma plane; a picture without chroma is held with mid-grey (R102). -/
def State.chromaWrites (s : State) (S : Sitter) (k : PicWrite) (c : Nat) (l : List U16) : List (Nat × List Byte) :=
  let f := chromaSub k.chroma
  let cw := ceilDiv k.w f.1
  (List.range (ceilDiv k.h f.2)).flatMap (fun y => (List.range cw).map (fun x =>
    (S.chromaAt k.slot k.chroma c x y,
      if k.chroma = .c400 then S.grey
      else s.sampleBytesAt S k (y * f.2 / 16 * ceilDiv k.w 16 + x * f.1 / 16) (l.getD (y * cw + x) 0) (fun r => S.chromaAt r k.chroma c x y))))

/-- Every sample of a picture. -/
def State.sampleWrites (s : State) (S : Sitter) (k : PicWrite) (p : PicDesc) : List (Nat × Byte) :=
  flatWrites (s.lumaWrites S k p.luma ++ s.chromaWrites S k 0 p.cb ++ s.chromaWrites S k 1 p.cr)

/-! ### Missing references (R109) -/

/-- References that a picture names and the DPB lacks. -/
def missingRefs (dpb : List DpbPic) (l : List Int) : List Int := l.filter (fun x => !dpb.any (fun y => y.poc = x))

/-- A missing reference is built in a free slot, every block of it concealed; without a free slot it has no slot of its own. (Log 57 DEDUCED) -/
def State.buildRef (s : State) (n : Nat) (p : PicDesc) (poc : Int) : State :=
  match s.freeSlot n with
  | none => s
  | some slot =>
    let S := s.sitter n
    let z := codedSize S p
    let k : PicWrite := { slot := slot, w := z.1, h := z.2, depth := S.picDepth, chroma := S.picChroma p, conc := List.range (blockCount z), src := nearestRef S.dpb poc }
    (s.setDev ((s.sampleWrites S k p).filter (fun x => S.inBounds x.1))).setSitter n { S with dpb := S.dpb ++ [{ slot := slot, poc := poc, d := 1024 }] }

/-! ### A picture's damage (R110, R113, R114) -/

/-- What the decoder found for a picture. -/
structure PicResult where
  w : Nat
  h : Nat
  o : Nat
  d : Nat
  conc : List Nat
  units : Nat
  overBudget : Bool
  outOfBounds : Bool
  recoveryDone : Bool
  errors : Nat
  discarded : Nat
  deriving DecidableEq, Repr

/-- A recovery point is reached by a picture (R118). -/
def Sitter.reaches (S : Sitter) (p : PicDesc) (r : Recovery) : Bool :=
  match r with
  | .frames start count =>
    let m := max 1 (match S.active with | some a => a.maxFrameNum | none => 1)
    decide (count ≤ (p.frameNum + m - start % m) % m)
  | .order poc => decide (poc ≤ p.poc)

def isIntra (p : PicDesc) : Bool := match p.type with | .idr => true | .i => true | .cra => true | .bla => true | _ => false

/-- Damage and outcome of a picture. -/
def picResult (S : Sitter) (p : PicDesc) (slot : Nat) : PicResult :=
  let z := codedSize S p
  let nb := blockCount z
  let budget := decodeBudget z.1 z.2 p.vclBytes
  let g := S.progress p budget
  let order := decodeOrder p nb
  let out := S.boundsAt slot z (S.picChroma p) order g.done
  let done := (match out with | some k => g.done.takeWhile (· ≠ k) | none => g.done).map (fun k => order.getD k nb)
  let conc := (List.range nb).filter (fun b => !done.contains b)
  let o := 1024 * conc.length / max 1 nb
  let rec_ := S.recoveries.any (S.reaches p)
  let refs := if S.codec = 2 || isIntra p then [] else p.refs.map (refDamage S.dpb)
  let l := S.takeSlices p.slices
  { w := z.1, h := z.2, o := o, d := if p.type = .idr || rec_ then o else refs.foldl max o, conc := conc, units := min g.used budget
    overBudget := budget ≤ g.used, outOfBounds := out.isSome, recoveryDone := rec_
    errors := (l.1.filter (·.syntaxError)).length, discarded := l.2.length }

end Sys2Proof.Machine
end

