-- ==== Sys2Proof/Machine/Statistics.lean ====
section
/-!
DEFINITION. Statistics and stillness of a decoded picture (R120 to R122), and the picture written to its slot (R104, R112).
-/
namespace Sys2Proof.Machine

/-! ### Block records (R121) -/

def i16Bytes (v : Int) : List Byte := leBytes 2 (BitVec.ofInt 16 v).toNat

/-- The vectors of a block: of each unit list 0's, or list 1's when it has none. -/
def blockVectors (b : BlockStat) : List (Int × Int) :=
  b.units.filterMap (fun u => match u.l0 with | some v => some v | none => u.l1)

/-- Mean vector of a block. -/
def meanVector (b : BlockStat) : Int × Int :=
  let l := (blockVectors b)
  let m (f : Int × Int → Int) : Int := rneDiv ((l.map f).foldl (· + ·) 0) (Int.ofNat (max 1 l.length))
  (m (·.1), m (·.2))

/-- A block's share of a transform unit: divided evenly, the remainder to the first blocks in raster order. -/
def tuShare (b : Nat) (u : Nat × List Nat) : Nat :=
  if u.2.contains b then u.1 / u.2.length + (if (u.2.filter (· < b)).length < u.1 % u.2.length then 1 else 0) else 0

/-- Residual cost of a block. -/
def residualCost (l : List (Nat × List Nat)) (b : Nat) : Nat := (l.map (tuShare b)).foldl (· + ·) 0

/-- A block record. What it says of a concealed block beyond its vectors and flags is what the coded bits gave for it. (Log 55 DESIGN CHOICE) -/
def blockRecord (jpeg concealed : Bool) (cost : Nat) (b : BlockStat) : List Byte :=
  let mv := !(blockVectors b).isEmpty && !b.intra && !concealed && !jpeg
  i16Bytes (if mv then (meanVector b).1 else 0) ++ i16Bytes (if mv then (meanVector b).2 else 0) ++ leBytes 2 (min cost 65535)
    ++ leBytes 1 (if jpeg then 0 else match b.units with | u :: _ => u.qp | [] => 0)
    ++ leBytes 1 ((if b.skip then 1 else 0) + (if b.intra then 2 else 0) + (if concealed then 4 else 0) + (if mv then 8 else 0))

/-- The record makes no claim of motion or change: SKIP, or a zero vector with no residual (R122). -/
def recordStill (r : List Byte) : Bool :=
  let f := fieldLE r 7 1
  !bitAt f 2 && (bitAt f 0 || (bitAt f 3 && fieldLE r 0 4 = 0 && fieldLE r 4 2 = 0))

def blockRecords (jpeg : Bool) (nb : Nat) (conc : List Nat) (p : PicDesc) : List (List Byte) :=
  (List.range nb).map (fun i => blockRecord jpeg (conc.contains i) (residualCost p.residual i) (p.blocks.getD i { units := [], skip := false, intra := false }))

/-- The still snapshot from the running map (R122). (Log 57 DEDUCED) -/
def snapshot (w h : Nat) (records : List (List Byte)) (running : Nat → Byte) : List Byte :=
  let cols := ceilDiv w 16
  let rows := ceilDiv h 16
  (List.range (ceilDiv w 64 * ceilDiv h 64)).map (fun t =>
    let tx := t % ceilDiv w 64
    let ty := t / ceilDiv w 64
    let inside := (List.range 16).filter (fun i => 4 * tx + i % 4 < cols && 4 * ty + i / 4 < rows)
    if inside.all (fun i => recordStill (records.getD ((4 * ty + i / 4) * cols + 4 * tx + i % 4) [])) then
      (if running t = 255 then 255 else running t + 1)
    else 0)

/-! ### The statistics header (R120) -/

/-- (Log 57 DEDUCED) -/
def picTypeCode (t : PicType) : Nat := match t with | .p => 1 | .b => 2 | .rasl => 2 | .jpeg => 3 | _ => 0

/-- The statistics header. -/
def statsHeader (p : PicDesc) (capture au : U64) (r : PicResult) (cost : Nat) : List Byte :=
  let jpeg := p.type = .jpeg
  leBytes 2 r.w ++ leBytes 2 r.h ++ leBytes 2 (ceilDiv r.w 16) ++ leBytes 2 (ceilDiv r.h 16) ++ leBytes 1 (picTypeCode p.type)
    ++ leBytes 1 ((if p.type = .idr then 1 else 0) + (if p.ref && !jpeg then 2 else 0) + (if r.recoveryDone then 4 else 0))
    ++ leBytes 2 r.o ++ leBytes 2 r.d ++ leBytes 2 0 ++ leBytes 4 r.conc.length
    ++ leBytes 4 (rneDiv (65536 * Int.ofNat cost) (Int.ofNat (max 1 (r.w * r.h)))).toNat
    ++ leBytes 4 (BitVec.ofInt 32 (if jpeg then 0 else p.poc)).toNat ++ leBytes 4 r.units ++ leBytes 8 capture.toNat ++ leBytes 8 au.toNat
    ++ List.replicate 16 0

/-! ### The picture in its slot -/

/-- Samples, statistics and snapshot of a picture, as writes checked against the bounds registers (R104, R109, R112, R120). (Log 55 DESIGN CHOICE) -/
def State.pictureWrites (s : State) (S : Sitter) (slot : Nat) (p : PicDesc) (capture au : U64) (r : PicResult) : List (Nat × Byte) :=
  let jpeg := S.codec = 2
  let dpb := if jpeg || restartsBuffer p (S.state ≠ 2) then [] else S.dpb
  let k : PicWrite := { slot := slot, w := r.w, h := r.h, depth := S.picDepth, chroma := S.picChroma p, conc := r.conc, src := nearestRef dpb p.poc }
  let recs := blockRecords jpeg (blockCount (r.w, r.h)) r.conc p
  let cost := (recs.map (fun b => fieldLE b 4 2)).foldl (· + ·) 0
  let snap := snapshot r.w r.h recs (fun t => s.dev (medBase + S.stillOff + t))
  let at_ := S.slotAt slot
  (s.sampleWrites S k p
    ++ flatWrites ([(at_ + S.statsOff, statsHeader p capture au r cost), (at_ + S.blocksOff, recs.flatten)]
      ++ (if S.still then [(at_ + S.stillOffset, snap)] ++ (if jpeg || p.ref then [(medBase + S.stillOff, snap)] else []) else []))).filter
    (fun x => S.inBounds x.1)

end Sys2Proof.Machine
end

