-- ==== Sys2Proof/Machine/Shake.lean ====
section
/-!
DEFINITION. SHAKE256 (FIPS 202) as R289, R460 and R472 use it: 25 lanes of 64 bits, rate 136 bytes.
-/
namespace Sys2Proof.Machine

/-- The shift register of FIPS 202's round constants: the bit that leaves at 7 comes back at 0, 4, 5 and 6. -/
def rcShift (r : Nat) : Nat := if r < 128 then 2 * r else (2 * r - 256) ^^^ 0b01110001

/-- `n` successive states of that register. -/
def rcStates : Nat → Nat → List Nat
  | 0, _ => []
  | n + 1, r => r :: rcStates n (rcShift r)

/-- The word of one round: its seven bits stand at positions 2^j - 1. -/
def rcWord (bits : List Nat) : U64 :=
  (bits.zipIdx).foldl (fun w p => if p.1 % 2 = 1 then w ||| (1 : U64) <<< (2 ^ p.2 - 1) else w) 0

/-- Round constants of Keccak-f[1600], in the order of the rounds. -/
def keccakRC : List U64 :=
  let states := rcStates 168 1
  (List.range 24).map (fun i => rcWord ((states.drop (7 * i)).take 7))

/-- The walk over the lanes but (0, 0): at step t a lane's place and its rotation, the t-th triangular number. -/
def rotWalk : Nat → Nat → Nat → Nat → List (Nat × Nat)
  | 0, _, _, _ => []
  | n + 1, t, x, y => (x + 5 * y, t * (t + 1) / 2 % 64) :: rotWalk n (t + 1) y ((2 * x + 3 * y) % 5)

/-- Rotation of lane x + 5 y; lane 0 does not turn. -/
def keccakRot : List Nat :=
  let walk := rotWalk 24 1 1 0
  (List.range 25).map (fun i => ((walk.find? (fun p => p.1 = i)).map (fun p => p.2)).getD 0)

/-- One round on the 25 lanes. -/
def keccakRound (a : List U64) (rc : U64) : List U64 :=
  let l (i : Nat) : U64 := a.getD i 0
  let c := (List.range 5).map (fun x => l x ^^^ l (x + 5) ^^^ l (x + 10) ^^^ l (x + 15) ^^^ l (x + 20))
  let d := (List.range 5).map (fun x => c.getD ((x + 4) % 5) 0 ^^^ (c.getD ((x + 1) % 5) 0).rotateLeft 1)
  let t := (List.range 25).map (fun i => (l i ^^^ d.getD (i % 5) 0).rotateLeft (keccakRot.getD i 0))
  -- lane x + 5 y of the permuted state comes from column (x + 3 y) mod 5, row x
  let b := (List.range 25).map (fun i => t.getD ((i % 5 + 3 * (i / 5)) % 5 + 5 * (i % 5)) 0)
  let e := (List.range 25).map (fun i =>
    let y := 5 * (i / 5)
    b.getD i 0 ^^^ (~~~(b.getD (y + (i % 5 + 1) % 5) 0) &&& b.getD (y + (i % 5 + 2) % 5) 0))
  match e with
  | x :: r => (x ^^^ rc) :: r
  | [] => []

def keccakF (a : List U64) : List U64 := keccakRC.foldl keccakRound a

/-- A block of 136 bytes combined into the state. -/
def absorbBlock (a : List U64) (b : List Byte) : List U64 :=
  keccakF ((List.range 25).map (fun i => a.getD i 0 ^^^ (if i < 17 then BitVec.ofNat 64 (fieldLE (b.drop (8 * i)) 0 8) else 0)))

/-- Absorbs a message of whole blocks and its padded last block. -/
def absorb : Nat → List U64 → List Byte → List U64
  | 0, a, _ => a
  | fuel + 1, a, m =>
    if m.length < 136 then
      let p := m ++ 0x1F :: List.replicate (135 - m.length) 0
      absorbBlock a (p.take 135 ++ [p.getD 135 0 ||| 0x80])
    else absorb fuel (absorbBlock a (m.take 136)) (m.drop 136)

/-- `n` output bytes, at most 136. -/
def squeeze (a : List U64) (n : Nat) : List Byte := ((a.take 17).flatMap (fun w => leBytes 8 w.toNat)).take n

/-- The first `n` bytes (at most 136) of SHAKE256 output. (Log 40 DESIGN CHOICE) -/
def shake256 (m : List Byte) (n : Nat) : List Byte :=
  squeeze (absorb (m.length / 136 + 1) (List.replicate 25 0) m) n

/-- A digest (R460): the first 32 bytes of output. (Log 40 DESIGN CHOICE) -/
def digest (m : List Byte) : List Byte := shake256 m 32

end Sys2Proof.Machine
end

