-- ==== Sys2Proof/Machine/Queues.lean ====
section
/-!
DEFINITION. Queue pairs and the commands in them (R417 to R429, R459), the measurement registers that commands extend (R472, R473), and the
read tags of R409.
-/
namespace Sys2Proof.Machine

/-! ### Measurement (R472, R473) -/

/-- Register Mk, 64 bytes; zero at every start. -/
def State.measReg (s : State) (k : Nat) : List Byte :=
  let v := tget [] s.sec.m k
  if v.isEmpty then List.replicate 64 0 else v

/-- Entries the measurement log holds. -/
def measLogSize : Nat := 65536

/-- Register k extended with digest d (R472). -/
def State.measure (s : State) (k : Nat) (kind subject : Nat) (d : List Byte) (sitting : U64) : State :=
  let n := tget 0 s.sec.counts k + 1
  let e : MeasEntry := { reg := k, kind := BitVec.ofNat 8 kind, subject := BitVec.ofNat 16 subject, index := n, time := s.tb.time
                         sitting := sitting, d := d }
  let v := shake256 (s.measReg k ++ leBytes 1 k ++ leBytes 1 kind ++ leBytes 2 subject ++ d) 64
  let full := measLogSize ≤ s.sec.log.length
  { s with sec := { s.sec with m := tset [] s.sec.m k v, counts := tset 0 s.sec.counts k n
                               log := if full then s.sec.log else s.sec.log ++ [e], logOverflow := s.sec.logOverflow || full } }

/-! ### Serial numbers (R422) -/

/-- x is after y. -/
def seqAfter (x y : U32) : Bool := 1 ≤ (x - y).toNat && (x - y).toNat < 2 ^ 31

/-! ### Entries (R420) -/

def decodeEntry (b : List Byte) : Entry :=
  { seq := BitVec.ofNat 32 (fieldLE b 0 4), opcode := BitVec.ofNat 16 (fieldLE b 4 2), flags := b.getD 6 0, rsv7 := b.getD 7 0
    tag := BitVec.ofNat 64 (fieldLE b 8 8), addr0 := BitVec.ofNat 64 (fieldLE b 16 8), len0 := BitVec.ofNat 32 (fieldLE b 24 4)
    arg2 := BitVec.ofNat 32 (fieldLE b 28 4), addr1 := BitVec.ofNat 64 (fieldLE b 32 8), len1 := BitVec.ofNat 32 (fieldLE b 40 4)
    rsv44 := BitVec.ofNat 32 (fieldLE b 44 4), arg0 := BitVec.ofNat 64 (fieldLE b 48 8), arg1 := BitVec.ofNat 64 (fieldLE b 56 8) }

/-! ### The command set (R428, R474) -/

/-- What a command needs of len0. -/
inductive Len0 where
  | unused
  | exactly (n : Nat)
  | atMost (n : Nat)
  | some
  | any
  deriving DecidableEq, Repr

/-- A row of the command set: class, input block, output buffer (least bytes, and a multiple), and the bits of arg0 to arg2 that
the command uses. -/
structure CmdSpec where
  opcode : Nat
  serial : Bool
  len0   : Len0 := .unused
  len1   : Option (Nat × Nat) := none
  arg0   : Nat := 0
  arg1   : Nat := 0
  arg2   : Nat := 0
  deriving DecidableEq, Repr

def all64 : Nat := 2 ^ 64 - 1

def cmdSpecsA : List CmdSpec :=
  [{ opcode := 0x0001, serial := false },
   { opcode := 0x0010, serial := true, len0 := .exactly 192 },
   { opcode := 0x0011, serial := true, arg0 := 0xFF },
   { opcode := 0x0020, serial := true, len0 := .exactly 128 },
   { opcode := 0x0021, serial := true, len0 := .some, len1 := some (32, 1), arg0 := 0xF },
   { opcode := 0x0022, serial := true, arg0 := 0xF, arg1 := 0xFFFFFFFFFFFF },
   { opcode := 0x0023, serial := true, arg0 := 0xF },
   { opcode := 0x0024, serial := true, arg0 := 0xF },
   { opcode := 0x0025, serial := true, arg0 := 0xF },
   { opcode := 0x0026, serial := true, len0 := .any, len1 := some (32, 1), arg0 := 0xFFFF000F },
   { opcode := 0x0030, serial := true, len0 := .exactly 64, arg0 := 0x7FF },
   { opcode := 0x0031, serial := true, len0 := .exactly 64, arg0 := 0x7FF },
   { opcode := 0x0032, serial := true, arg0 := 0x7FF },
   { opcode := 0x0033, serial := true, len0 := .atMost 4096, arg0 := 0x7FF },
   { opcode := 0x0034, serial := true, arg0 := 0x1FF030F },
   { opcode := 0x0040, serial := true, len0 := .exactly 64, arg0 := 0x1F },
   { opcode := 0x0041, serial := true, arg0 := 0x1F },
   { opcode := 0x0042, serial := true, len0 := .exactly 64, arg0 := 0xFFF },
   { opcode := 0x0043, serial := true, arg0 := 0xFFF },
   { opcode := 0x0044, serial := false, len0 := .some }]

def cmdSpecsB : List CmdSpec :=
  [{ opcode := 0x0050, serial := true, arg0 := all64 },
   { opcode := 0x0051, serial := true, arg0 := 0xF, arg1 := all64 },
   { opcode := 0x0052, serial := false, arg0 := 0xF, arg1 := all64 },
   { opcode := 0x0060, serial := true, len0 := .exactly 64 },
   { opcode := 0x0061, serial := true, arg0 := 0x3F },
   { opcode := 0x0070, serial := false, len0 := .some, arg0 := all64, arg1 := all64, arg2 := 0xFF01FFFF },
   { opcode := 0x0071, serial := true, len0 := .exactly 128 },
   { opcode := 0x0072, serial := true, arg0 := 0xF },
   { opcode := 0x0080, serial := true, arg0 := all64 },
   { opcode := 0x0081, serial := true, arg0 := all64, arg1 := all64, arg2 := 0xFFFFFF },
   { opcode := 0x0090, serial := false, len1 := some (15983, 1) },
   { opcode := 0x0091, serial := true, len0 := .exactly 32, len1 := some (3997, 1) },
   { opcode := 0x0092, serial := true, len1 := some (0, 56), arg0 := 0xFFFF },
   { opcode := 0x0093, serial := true, len0 := .exactly 32 },
   { opcode := 0x0094, serial := true, len0 := .some },
   { opcode := 0x0095, serial := true, arg0 := 0xF },
   { opcode := 0x0096, serial := false, len1 := some (54736, 1) }]

/-- The command set; an opcode without a row is undefined. -/
def cmdSpecs : List CmdSpec := cmdSpecsA ++ cmdSpecsB

/-- (Log 16 DEDUCED) -/
def specOf (opcode : U16) : Option CmdSpec := cmdSpecs.find? (fun c => c.opcode = opcode.toNat)

/-- Serial commands; an undefined opcode only completes and is taken as concurrent. (Log 16 DEDUCED) -/
def isSerial (opcode : U16) : Bool := match specOf opcode with | some c => c.serial | none => false

/-- Bits of a value outside a mask. -/
def outside (v mask : Nat) : Bool := v &&& mask ≠ v

/-- The checks of R429 that need no input block: CMD_OPCODE, CMD_FIELD, CMD_LENGTH; 0 when they pass. (Log 16 DEDUCED) -/
def entryError (e : Entry) : Nat :=
  match specOf e.opcode with
  | none => 0x0E01
  | some c =>
    if e.flags &&& 0xFE ≠ 0 || e.rsv7 ≠ 0 || e.rsv44 ≠ 0 || outside e.arg0.toNat c.arg0 || outside e.arg1.toNat c.arg1
        || outside e.arg2.toNat c.arg2 || (c.len0 = .unused && (e.addr0 ≠ 0 || e.len0 ≠ 0)) || (c.len1.isNone && (e.addr1 ≠ 0 || e.len1 ≠ 0))
    then 0x0E02
    else
      let ok0 := match c.len0 with
        | .unused => true
        | .exactly n => e.len0.toNat = n
        | .atMost n => e.len0.toNat ≤ n
        | .some => e.len0 ≠ 0
        | .any => true
      let ok1 := match c.len1 with
        | none => true
        | some (n, m) => n ≤ e.len1.toNat && e.len1.toNat % m = 0
      if ok0 && ok1 then 0 else 0x0E03

/-! ### Queue state -/

def Queue.sqLog2 (Q : Queue) : Nat := bits Q.cfg.toNat 10 6
def Queue.cqLog2 (Q : Queue) : Nat := bits Q.cfg.toNat 15 11
def Queue.coalCount (Q : Queue) : Nat := bits Q.cfg.toNat 23 16
def Queue.coalUs (Q : Queue) : Nat := bits Q.cfg.toNat 39 24
def Queue.vector (Q : Queue) : Nat := bits Q.cfg.toNat 47 40
/-- INFLIGHT (R419). -/
def Queue.inflight (Q : Queue) : Nat := Q.cmds.length

/-- A queue stops with a reason: QUEUE_STOPPED (R424, R436). -/
def State.stopQueue (s : State) (q reason : Nat) : State := (s.setQueue q { s.queue q with state := 2, reason := reason }).ringDevice 0

/-- A draining queue with nothing in flight is DISABLED (R418, R436). -/
def State.drainQueue (s : State) (q : Nat) : State :=
  if (s.queue q).state = 3 && (s.queue q).cmds.isEmpty then (s.setQueue q { s.queue q with state := 0 }).ringDevice 1 else s

/-- DB_SQn (R423, R501): the u32 written; the register's high half is reserved. A t beyond N stops a queue that is RUNNING or STOPPED with TAIL_RANGE; on a DRAINING one it is counted.
(Log 20 DEDUCED) -/
def State.doorbellSq (s : State) (q : Nat) (t : U32) : State :=
  let Q := s.queue q
  let d := (t - Q.accepted).toNat
  if Q.state = 0 || d = 0 || 2 ^ 31 ≤ d || (Q.state = 3 && 2 ^ Q.sqLog2 < d) then s.setQueue q { Q with dbErr := Q.dbErr + 1 }
  else if 2 ^ Q.sqLog2 < d then s.stopQueue q 2
  else s.setQueue q { Q with tail := if seqAfter t Q.tail then t else Q.tail }

/-- RESUME of a STOPPED queue (R425). -/
def State.resumeQueue (s : State) (q : Nat) : State :=
  if (s.queue q).state = 2 then s.setQueue q { s.queue q with state := 1, reason := 0 } else s

/-- HQ_Qn_CQ_CONS (R419): at or after C and not after W, or ignored and counted. -/
def State.consumeCq (s : State) (q : Nat) (v : U32) : State :=
  let Q := s.queue q
  if 2 ^ 31 ≤ (v - Q.consumed).toNat || seqAfter v Q.written then s.setQueue q { Q with consErr := Q.consErr + 1 }
  else s.setQueue q { Q with consumed := v }

/-! ### Host reads (R408, R409) -/

/-- Outstanding reads the part may have. -/
def Pcie.tagLimit (p : Pcie) : Nat := if p.tenBitTagEn then 768 else if p.extTagEn then 256 else 32

/-- The three read paths: command fetch, bulk data, slow-path transmit. -/
def ReadOwner.path : ReadOwner → Nat
  | .fetch _ => 0
  | .cmd _ _ => 1
  | _ => 2

/-- The tag of the next read: command fetch uses the 16 lowest, which are reserved for it (R424), the other paths the rest.
(Log 17 DESIGN CHOICE) -/
def State.freeTag (s : State) (fetch : Bool) : Option Nat :=
  (if fetch then List.range 16 else (List.range (s.pcie.tagLimit - 16)).map (· + 16)).find? (fun t => !s.pcie.reads.any (fun r => r.tag = t))

/-- Max_Read_Request_Size in bytes. -/
def Pcie.readSize (p : Pcie) : Nat := 128 * 2 ^ p.maxRead

/-- The first transfer of a path that has something left to ask for. -/
def State.waiting (s : State) (path : Nat) : Option Xfer := s.pcie.xfers.find? (fun x => x.owner.path = path && x.issued < x.len)

def State.setXfer (s : State) (x : Xfer) : State :=
  { s with pcie := { s.pcie with xfers := s.pcie.xfers.map (fun y => if y.id = x.id then x else y) } }

/-- One read request of a transfer under a tag: naturally aligned, of at most Max_Read_Request_Size (R408). -/
def State.request (s : State) (t : Nat) (x : Xfer) : State :=
  let a := x.addr + x.issued
  let n := min (x.len - x.issued) (s.pcie.readSize - a % s.pcie.readSize)
  let s1 := s.setXfer { x with issued := x.issued + n }
  { s1 with pcie := { s1.pcie with
    reads := s1.pcie.reads ++ [{ tag := t, xfer := x.id, addr := a, off := x.issued, len := n }], lastPath := x.owner.path } }

/-- The path whose turn it is, its transfer and its tag: round-robin among the three paths (R409). -/
def State.nextRead (s : State) : Option (Nat × Xfer) :=
  ((List.range 3).map (fun i => (s.pcie.lastPath + 1 + i) % 3)).findSome? (fun k =>
    match s.waiting k, s.freeTag (k = 0) with
    | some x, some t => some (t, x)
    | _, _ => none)

/-- Requests are issued as long as a path has one and a tag is free for it. -/
def State.issueLoop : Nat → State → State
  | 0, s => s
  | fuel + 1, s => match s.nextRead with | some (t, x) => issueLoop fuel (s.request t x) | none => s

/-- Reads that wait are issued, while the function may issue requests (R409, R411). -/
def State.issueReads (s : State) : State := if s.busOn then State.issueLoop s.pcie.tagLimit s else s

/-- A block of host memory is to be read. -/
def State.addXfer (s : State) (o : ReadOwner) (addr len : Nat) : State :=
  ({ s with pcie := { s.pcie with xfers := s.pcie.xfers ++ [{ id := s.pcie.nextXfer, owner := o, addr := addr, len := len }]
                                  nextXfer := s.pcie.nextXfer + 1 } } : State).issueReads

/-! ### Fetching (R424) -/

/-- Commands accepted and unanswered across all queues, with the entries that are being fetched. -/
def State.openCommands (s : State) : Nat :=
  (s.host.queues.map (fun x => x.2.cmds.length + (if x.2.fetching then 1 else 0))).foldl (· + ·) 0

/-- The queue may accept another entry. -/
def State.mayAccept (s : State) (q : Nat) : Bool :=
  let Q := s.queue q
  Q.state = 1 && seqAfter Q.tail Q.accepted && Q.inflight + (Q.written - Q.consumed).toNat < 2 ^ Q.cqLog2 && s.openCommands < 4096

/-- A fetched slot: accepted, or the queue stops (R424, R410). -/
def State.fetched (s : State) (q : Nat) (b : Option (List Byte)) : State :=
  let s := s.setQueue q { s.queue q with fetching := false }
  let Q := s.queue q
  if Q.state ≠ 1 then s
  else
    match b with
    | none => s.stopQueue q 3
    | some b =>
      let e := decodeEntry b
      if e.seq = Q.accepted + 1 then
        s.setQueue q { Q with accepted := Q.accepted + 1, submitted := Q.submitted + 1, cmds := Q.cmds ++ [{ entry := e }] }
      else s.stopQueue q 1

/-- Host address of the slot of submission number n (R420, R424). -/
def Queue.slotAddr (Q : Queue) (n : U32) : Nat := Q.sqBase.toNat + 64 * (n.toNat % 2 ^ Q.sqLog2)

/-- SUBMISSION_FETCH: slot (A + 1) mod N is read (R424); its read waits for a tag (R409), and while the function is no bus master (R411). -/
def execSubmissionFetch (q : Nat) (s : State) : Out :=
  if 64 ≤ q then noUnit
  else if (s.queue q).fetching || !s.mayAccept q || s.board.clocksStopped then .next s
  else
    let Q := s.queue q
    .next ((s.setQueue q { Q with fetching := true }).addXfer (.fetch q) (Q.slotAddr (Q.accepted + 1)) 64)

/-! ### Starting (R426, R459) -/

/-- Ateliers reached from a unit, itself included. -/
def State.ateliersIn (s : State) : Nat → Nat → List Nat
  | 0, _ => []
  | fuel + 1, ref => if ref < 0x8000 then [] else (ref - 0x8000) :: ((s.members (ref - 0x8000)).getD []).flatMap (s.ateliersIn fuel)

/-- A partition holds an atelier as its root or within its root's expansion (R28). -/
def State.holds (s : State) (p id : Nat) : Bool := (s.ateliersIn 257 (s.part p).root.toNat).contains id

/-- The partition that a serial command names by its operands: itself, one of its sitters, or one of its ateliers (R459). (Log 18 DEDUCED) -/
def State.named (s : State) (e : Entry) : Option Nat :=
  let op := e.opcode.toNat
  let a := e.arg0.toNat
  if (0x21 ≤ op && op ≤ 0x26) || op = 0x34 || op = 0x51 || op = 0x72 then some (a % 16)
  else if 0x30 ≤ op && op ≤ 0x33 then
    (if (s.sitter (a % 2048)).state = 0 then none else some (s.sitter (a % 2048)).partition)
  else if op = 0x11 then
    match (tfind s.ateliers (a % 256)).bind (·.loader) with
    | some p => some p
    | none => s.partIds.find? (fun p => s.holds p (a % 256))
  else none

/-- A command is held back while the partition it names is RESTARTING (R459). (Log 18 DEDUCED) -/
def State.heldBack (s : State) (e : Entry) : Bool :=
  isSerial e.opcode && match s.named e with
    | some p => match s.part? p with | some P => P.state = .restarting | none => false
    | none => false

/-- A started serial command that has not completed. -/
def State.serialBusy (s : State) : Bool := s.host.queues.any (fun x => x.2.cmds.any (fun c => c.started && isSerial c.entry.opcode))

/-- The next command of a queue that has not started. (Log 19 DEDUCED) -/
def Queue.nextCmd (Q : Queue) : Option Cmd := Q.cmds.find? (fun c => !c.started)

/-- The queue's next command may start (R426). (Log 19 DEDUCED) -/
def State.startable (s : State) (q : Nat) : Bool :=
  let Q := s.queue q
  match Q.nextCmd with
  | none => false
  | some c =>
    let first := !Q.cmds.any (·.started)
    if isSerial c.entry.opcode then first && !s.serialBusy && !s.heldBack c.entry
    else c.entry.flags &&& 1 = 0 || first

/-- The queue that the Curator takes from next: ascending, after the one it took from last (R426). (Log 10 DESIGN CHOICE, 19 DEDUCED) -/
def State.nextQueue (s : State) : Option Nat :=
  ((List.range 64).map (fun i => (s.host.lastQueue + 1 + i) % 64)).find? s.startable

/-- The first command of a kind changed. A queue created again while it drained may hold two commands of one number: the older one stands
first, and a command row that names the number means the older one until it has been answered (R418). (Log 111 DESIGN CHOICE) -/
def updFirst (p : Cmd → Bool) (f : Cmd → Cmd) : List Cmd → List Cmd
  | [] => []
  | c :: l => if p c then f c :: l else c :: updFirst p f l

/-- The first command of a kind taken out. -/
def eraseFirst (p : Cmd → Bool) : List Cmd → List Cmd
  | [] => []
  | c :: l => if p c then l else c :: eraseFirst p l

/-- A command with this number that has no answer yet; one that has its answer and waits for its completion entry. -/
def Cmd.unanswered (n : U32) (c : Cmd) : Bool := c.entry.seq = n && c.answer.isNone
def Cmd.answered (n : U32) (c : Cmd) : Bool := c.entry.seq = n && c.answer.isSome
/-- A started command with this number whose input block is still to come. -/
def Cmd.reading (n : U32) (c : Cmd) : Bool := c.unanswered n && c.started && c.block.isNone

/-- The unanswered command of a number. -/
def State.cmd? (s : State) (q : Nat) (n : U32) : Option Cmd := (s.queue q).cmds.find? (Cmd.unanswered n)

/-- The first command of a kind in a queue changed. -/
def State.updCmd (s : State) (q : Nat) (p : Cmd → Bool) (f : Cmd → Cmd) : State :=
  s.setQueue q { s.queue q with cmds := updFirst p f (s.queue q).cmds }

/-- A command with its status and result. -/
def Cmd.withAnswer (c : Cmd) (status result : Nat) : Cmd :=
  { c with waiting := false, answer := some (BitVec.ofNat 16 status, BitVec.ofNat 64 result) }

/-- The status and result of a command. -/
def State.answer (s : State) (q : Nat) (n : U32) (status result : Nat) : State :=
  s.updCmd q (Cmd.unanswered n) (fun c => c.withAnswer status result)

/-- The input block of a started command has been read, or its read has failed (R426, R429). -/
def State.blockRead (s : State) (q : Nat) (n : U32) (b : Option (List Byte)) : State :=
  s.updCmd q (Cmd.reading n) (fun c =>
    match b with
    | none => c.withAnswer 0x0E04 0
    | some b => { c with block := some (fieldBytes b 0 c.entry.len0.toNat) })

/-- What becomes of a command when it starts: a failed check of R429 answers it, and a command without an input block has read it. -/
def Cmd.start (c : Cmd) : Cmd :=
  let e := entryError c.entry
  let c := { c with started := true }
  if e ≠ 0 then c.withAnswer e 0 else if c.entry.len0 = 0 then { c with block := some [] } else c

/-- COMMAND_START: the queue whose turn it is starts its next command; a command that fails a check of R429 is answered at once, and one
that has an input block reads it (R426). (Log 15 DESIGN CHOICE) -/
def execCommandStart (q : Nat) (s : State) : Out :=
  if 64 ≤ q then noUnit
  else if s.nextQueue ≠ some q then .next s
  else
    match (s.queue q).nextCmd with
    | none => .next s
    | some c =>
      let s0 := s.updCmd q (fun c => !c.started) Cmd.start
      let s1 := { s0 with host := { s0.host with lastQueue := q } }
      if entryError c.entry ≠ 0 || c.entry.len0 = 0 then .next s1
      else .next (s1.addXfer (.cmd q c.entry.seq) c.entry.addr0.toNat c.entry.len0.toNat)

/-! ### Completing (R421, R427) -/

/-- A queue's vector is raised and nothing is left unsignalled. -/
def State.signalQueue (s : State) (q : Nat) : State := (s.setQueue q { s.queue q with unsignalled := 0 }).raise (s.queue q).vector

/-- COMMAND_COMPLETE: the completion entry of an answered command is written (R427). (Log 15 DESIGN CHOICE) -/
def execCommandComplete (q : Nat) (n : U32) (s : State) : Out :=
  if 64 ≤ q then noUnit
  else if !s.busOn then .next s
  else
    let Q := s.queue q
    match Q.cmds.find? (Cmd.answered n) with
    | none => .next s
    | some c =>
      match c.answer with
      | none => .next s
      | some (status, result) =>
        let w := Q.written + 1
        let b := leBytes 4 w.toNat ++ leBytes 4 n.toNat ++ leBytes 8 c.entry.tag.toNat ++ leBytes 2 status.toNat
          ++ leBytes 2 c.entry.opcode.toNat ++ leBytes 4 Q.accepted.toNat ++ leBytes 8 result.toNat
        let Q1 := { Q with
          written := w, cmds := eraseFirst (Cmd.answered n) Q.cmds, unsignalled := Q.unsignalled + 1
          done := if status = 0 then Q.done + 1 else Q.done, failed := if status = 0 then Q.failed else Q.failed + 1 }
        let s1 := (s.hostWrite (Q.cqBase.toNat + 32 * (w.toNat % 2 ^ Q.cqLog2)) b).setQueue q Q1
        let s2 := if Q1.coalCount ≠ 0 && Q1.coalCount ≤ Q1.unsignalled then s1.signalQueue q else s1
        .next (s2.drainQueue q)

/-- CQ_COAL_TIMER: COAL_US has passed since the first unsignalled completion (R427). (Log 3 DESIGN CHOICE) -/
def execCqCoalTimer (q : Nat) (s : State) : Out :=
  if 64 ≤ q then noUnit
  else if !s.board.clocksStopped && (s.queue q).unsignalled ≠ 0 && (s.queue q).coalUs ≠ 0 then .next (s.signalQueue q) else .next s

/-! ### Running a started command -/

/-- The started, unanswered command (q, n) with this opcode and its block; held back while R459 holds it. -/
def State.running (s : State) (q : Nat) (n : U32) (op : Nat) : Option (Cmd × List Byte) :=
  match s.cmd? q n with
  | none => none
  | some c =>
    if s.ready && c.started && c.entry.opcode.toNat = op then c.block.map (fun b => (c, b)) else none

/-- A command that completes when it runs: `f` gives the state, the status and the result. (Log 15 DESIGN CHOICE) -/
def command (q : Nat) (n : U32) (op : Nat) (s : State) (f : Entry → List Byte → State × Nat × Nat) : Out :=
  if 64 ≤ q then noUnit
  else
    match s.running q n op with
    | none => .next s
    | some (c, b) =>
      if c.waiting || s.heldBack c.entry then .next s
      else
        let r := f c.entry b
        .next (r.1.answer q n r.2.1 r.2.2)

/-- The CONFIG extension of M5 (R473). -/
def State.measureConfig (s : State) (e : Entry) (b : List Byte) (subject : Nat) : State :=
  s.measure 5 0x08 subject (digest (leBytes 2 e.opcode.toNat ++ leBytes 8 e.arg0.toNat ++ leBytes 8 e.arg1.toNat ++ leBytes 4 e.arg2.toNat ++ b)) 0

/-- What a configuring command gives: refused with a code, or the new state, measured. -/
def config (s : State) (e : Entry) (b : List Byte) (subject : Nat) (r : Except Nat State) : State × Nat × Nat :=
  match r with
  | .error c => (s, c, 0)
  | .ok s1 => (s1.measureConfig e b subject, 0, 0)

/-- NOP (R428). -/
def execNop (q : Nat) (n : U32) (s : State) : Out := command q n 0x0001 s (fun _ _ => (s, 0, 0))

/-! ### The commit group of a queue (R417, R418, R438) -/

/-- The staged group is in range, and changes what a running queue may change. (Log 20 DEDUCED) -/
def Queue.stagedOk (Q : Queue) : Bool :=
  let c := Q.cfgS.toNat
  let en := bitAt c 0
  bits c 63 48 = 0 && bits c 5 1 = 0
    && (!en || (4 ≤ bits c 10 6 && bits c 10 6 ≤ 16 && 4 ≤ bits c 15 11 && bits c 15 11 ≤ 16
        && Q.sqBaseS.toNat % 4096 = 0 && Q.cqBaseS.toNat % 4096 = 0))
    && (Q.state = 0 || (Q.sqBaseS = Q.sqBase && Q.cqBaseS = Q.cqBase && bits c 15 6 = bits Q.cfg.toNat 15 6))

/-- The group in force (R418). (Log 20 DEDUCED) -/
def State.applyQueue (s : State) (q : Nat) : State :=
  let Q := s.queue q
  let old := bitAt Q.cfg.toNat 0
  let en := bitAt Q.cfgS.toNat 0
  let Q1 := { Q with sqBase := Q.sqBaseS, cqBase := Q.cqBaseS, cfg := Q.cfgS }
  if !old && en then
    s.setQueue q { Q1 with state := 1, reason := 0, accepted := 0, written := 0, consumed := 0, tail := 0, submitted := 0, done := 0
                           failed := 0, unsignalled := 0, made := true }
  else if old && !en then (s.setQueue q { Q1 with state := 3 }).drainQueue q
  else s.setQueue q Q1

/-- COMMIT of a queue's group is asked for (R438). -/
def State.askQueue (s : State) (q : Nat) : State := s.setQueue q { s.queue q with commit := true }

end Sys2Proof.Machine
end

