-- ==== Sys2Proof/Machine/Rtp.lean ====
section
/-!
DEFINITION. RTP and RTCP packets as their bytes give them, and the packetisations of R79: RFC 6184, RFC 7798 and RFC 2435. What the manual
takes from those documents, from RFC 3550 and from ITU-T T.81 without restating it is PRESUMED from them. (Log 108 PRESUMED)
-/
namespace Sys2Proof.Machine

/-- `n` big-endian bytes at an offset of a packet. -/
def fieldBE (b : List Byte) (off n : Nat) : Nat := (fieldBytes b off n).foldl (fun a x => 256 * a + x.toNat) 0

/-- `n` big-endian bytes of a number. -/
def beBytes (n v : Nat) : List Byte := (leBytes n v).reverse

/-! ### RTP and RTCP -/

/-- The payload type that bits [6:0] of byte 1 give. -/
def payloadTypeOf (b : List Byte) : Nat := (b.getD 1 0).toNat % 128

/-- Under MUX, payload types 64 to 95 mark RTCP (R75). -/
def marksRtcp (b : List Byte) : Bool := 64 ≤ payloadTypeOf b && payloadTypeOf b ≤ 95

/-- An RTP packet of version 2 without its contributing sources, header extension and padding; none when its bytes are no such packet
(R79). -/
def parseRtp (b : List Byte) : Option RtpPkt :=
  let b0 := (b.getD 0 0).toNat
  let h := 12 + 4 * (b0 % 16)
  let ext := if bitAt b0 4 then 4 + 4 * fieldBE b (h + 2) 2 else 0
  let pad := if bitAt b0 5 then (b.getLastD 0).toNat else 0
  if b0 / 64 ≠ 2 || b.length < h + ext + pad || (bitAt b0 5 && pad = 0) || (bitAt b0 4 && b.length < h + 4) then none
  else
    some { payloadType := payloadTypeOf b, seq := BitVec.ofNat 16 (fieldBE b 2 2), ts := BitVec.ofNat 32 (fieldBE b 4 4)
           ssrc := BitVec.ofNat 32 (fieldBE b 8 4), marker := bitAt (fieldLE b 1 1) 7, bytes := b.length
           payload := (b.drop (h + ext)).take (b.length - h - ext - pad) }

/-- An RTCP sender report (R87). -/
structure SenderReport where
  ssrc     : U32
  seconds  : U32
  fraction : U32
  rtp      : U32
  deriving DecidableEq, Repr

/-- The first sender report of a compound RTCP packet. -/
def senderReportIn : Nat → List Byte → Option SenderReport
  | 0, _ => none
  | fuel + 1, b =>
    let n := 4 * (fieldBE b 2 2 + 1)
    if b.length < 8 || b.length < n || (b.getD 0 0).toNat / 64 ≠ 2 then none
    else if b.getD 1 0 = 200 && 28 ≤ n then
      some { ssrc := BitVec.ofNat 32 (fieldBE b 4 4), seconds := BitVec.ofNat 32 (fieldBE b 8 4), fraction := BitVec.ofNat 32 (fieldBE b 12 4)
             rtp := BitVec.ofNat 32 (fieldBE b 16 4) }
    else senderReportIn fuel (b.drop n)

def parseRtcp (b : List Byte) : Option SenderReport := senderReportIn (b.length / 4) b

/-! ### What a payload holds (R79) -/

inductive RtpBody where
  /-- one NAL unit or the units of an aggregation packet -/
  | nals (units : List (List Byte))
  /-- a fragmentation unit: the NAL header bytes it stands for and its part of the unit -/
  | frag (first last : Bool) (header : List Byte) (bytes : List Byte)
  /-- a JPEG fragment: the interchange headers in front of the first one, and scan bytes -/
  | jpeg (headers bytes : List Byte)
  | unsupported
  deriving DecidableEq, Repr

/-- The units of an aggregation packet: each has 2 bytes of length in front. -/
def aggregated : Nat → List Byte → Option (List (List Byte))
  | 0, b => if b.isEmpty then some [] else none
  | fuel + 1, b =>
    if b.isEmpty then some []
    else
      let n := fieldBE b 0 2
      if n = 0 || b.length < 2 + n then none else (aggregated fuel (b.drop (2 + n))).map (fun t => (b.drop 2).take n :: t)

def aggregateBody (b : List Byte) : RtpBody := match aggregated b.length b with | some (u :: us) => .nals (u :: us) | _ => .unsupported

/-- H.264: single NAL units, STAP-A and FU-A (RFC 6184). -/
def h264Body (b : List Byte) : RtpBody :=
  let b0 := (b.getD 0 0).toNat
  let b1 := (b.getD 1 0).toNat
  if 1 ≤ b0 % 32 && b0 % 32 ≤ 23 then .nals [b]
  else if b0 % 32 = 24 then aggregateBody (b.drop 1)
  else if b0 % 32 = 28 && 2 ≤ b.length then .frag (bitAt b1 7) (bitAt b1 6) [BitVec.ofNat 8 (b0 / 32 * 32 + b1 % 32)] (b.drop 2)
  else .unsupported

/-- H.265: single NAL units, aggregation packets and fragmentation units without DONL (RFC 7798). -/
def h265Body (b : List Byte) : RtpBody :=
  let b0 := (b.getD 0 0).toNat
  let t := b0 / 2 % 64
  let f := (b.getD 2 0).toNat
  if b.length < 2 then .unsupported
  else if t < 48 then .nals [b]
  else if t = 48 then aggregateBody (b.drop 2)
  else if t = 49 && 3 ≤ b.length then
    .frag (bitAt f 7) (bitAt f 6) [BitVec.ofNat 8 (b0 / 128 * 128 + f % 64 * 2 + b0 % 2), b.getD 1 0] (b.drop 3)
  else .unsupported

/-! ### JPEG (RFC 2435, ITU-T T.81) -/

/-- The quantisation tables for Q = 50, in zigzag order: luminance and chrominance. -/
def quantBase : List Byte :=
  beBytes 64 0x100B0C0E0C0A100E0D0E1211101318281A181616183123251D283A333D3C3933383740485C4E404457453738506D51575F626768673E4D71797064785C656763
    ++ beBytes 16 0x1112121815182F1A1A2F634238426363 ++ List.replicate 48 99

/-- The tables of a Q from 1 to 99. -/
def quantFor (q : Nat) : List Byte :=
  let f := if q < 50 then 5000 / q else 200 - 2 * q
  quantBase.map (fun t => BitVec.ofNat 8 (min 255 (max 1 ((t.toNat * f + 50) / 100))))

/-- The standard DHT tables: code counts by length, then the values. -/
def dcLuma : List Byte := beBytes 16 0x00010501010101010100000000000000 ++ (List.range 12).map (BitVec.ofNat 8)
def dcChroma : List Byte := beBytes 16 0x00030101010101010101010000000000 ++ (List.range 12).map (BitVec.ofNat 8)
def acLuma : List Byte :=
  beBytes 16 0x0002010303020403050504040000017D
    ++ beBytes 82 0x01020300041105122131410613516107227114328191A1082342B1C11552D1F02433627282090A161718191A25262728292A3435363738393A434445464748494A535455565758595A636465666768696A73
    ++ beBytes 80 0x7475767778797A838485868788898A92939495969798999AA2A3A4A5A6A7A8A9AAB2B3B4B5B6B7B8B9BAC2C3C4C5C6C7C8C9CAD2D3D4D5D6D7D8D9DAE1E2E3E4E5E6E7E8E9EAF1F2F3F4F5F6F7F8F9FA
def acChroma : List Byte :=
  beBytes 16 0x00020102040403040705040400010277
    ++ beBytes 80 0x000102031104052131061241510761711322328108144291A1B1C109233352F0156272D10A162434E125F11718191A262728292A35363738393A434445464748494A535455565758595A636465666768
    ++ beBytes 82 0x696A737475767778797A82838485868788898A92939495969798999AA2A3A4A5A6A7A8A9AAB2B3B4B5B6B7B8B9BAC2C3C4C5C6C7C8C9CAD2D3D4D5D6D7D8D9DAE2E3E4E5E6E7E8E9EAF2F3F4F5F6F7F8F9FA

/-- A marker segment: its length counts itself. -/
def segment (marker : Byte) (b : List Byte) : List Byte := [0xFF, marker] ++ beBytes 2 (b.length + 2) ++ b

/-- SOI, DQT, the standard DHT tables, SOF0, DRI where restart markers are used, and SOS (R79). Types 0 and 64 have 4:2:2 sampling, types 1
and 65 4:2:0. -/
def jpegHeaders (type width height : Nat) (tables : List Byte) (dri : Option Nat) : List Byte :=
  [0xFF, 0xD8]
    ++ segment 0xDB (0 :: tables.take 64) ++ segment 0xDB (1 :: tables.drop 64)
    ++ segment 0xC4 (0x00 :: dcLuma) ++ segment 0xC4 (0x10 :: acLuma) ++ segment 0xC4 (0x01 :: dcChroma) ++ segment 0xC4 (0x11 :: acChroma)
    ++ segment 0xC0 ([8] ++ beBytes 2 height ++ beBytes 2 width ++ [3, 0, if type % 2 = 0 then 0x21 else 0x22, 0, 1, 0x11, 1, 2, 0x11, 1])
    ++ (match dri with | some n => segment 0xDD (beBytes 2 n) | none => [])
    ++ segment 0xDA [3, 0, 0x00, 1, 0x11, 2, 0x11, 0, 63, 0]

/-- JPEG: types 0 and 1, and 64 and 65 with restart markers; Q 1 to 99, or 128 to 255 with two in-band tables of 8-bit entries; a picture
wider or higher than 2,040 pixels has a size field of 0 (RFC 2435). -/
def jpegBody (b : List Byte) : RtpBody :=
  let off := fieldBE b 1 3
  let type := (b.getD 4 0).toNat
  let q := (b.getD 5 0).toNat
  let w := 8 * (b.getD 6 0).toNat
  let h := 8 * (b.getD 7 0).toNat
  let restart := 64 ≤ type
  let t := if restart then 12 else 8
  let inband := 128 ≤ q && off = 0
  let d := if inband then t + 4 + 128 else t
  if b.length < d || !(type = 0 || type = 1 || type = 64 || type = 65) || q = 0 || (100 ≤ q && q < 128) || w = 0 || h = 0
      || (inband && (b.getD (t + 1) 0 &&& 3 ≠ 0 || fieldBE b (t + 2) 2 ≠ 128)) then .unsupported
  else
    let tables := if inband then fieldBytes b (t + 4) 128 else quantFor q
    .jpeg (if off = 0 then jpegHeaders type w h tables (if restart then some (fieldBE b 8 2) else none) else []) (b.drop d)

/-- The payload in the packetisation of the codec that the sitter declared (R79): 0 H.264, 1 H.265, 2 JPEG. -/
def rtpBody (codec : Nat) (b : List Byte) : RtpBody := match codec with | 0 => h264Body b | 1 => h265Body b | _ => jpegBody b

end Sys2Proof.Machine
end

