-- ==== Sys2Proof/Machine/Stream.lean ====
section
/-!
DEFINITION. Access units: RTP extension, the reorder window and packetisation (R79, R80, R83 to R86), capture times (R87 to R91), the
elementary-stream ring (R81, R537), archive copies (R62), host injection (R92 to R94), and out-of-band parameter sets (R82).
-/
namespace Sys2Proof.Machine

/-! ### Counters (R95) -/

def ingPackets : Nat := 0
def ingBytes : Nat := 1
def ingLate : Nat := 2
def ingDuplicate : Nat := 3
def ingLost : Nat := 4
def ingFiltered : Nat := 5
def ingUnsupported : Nat := 6
def ingUnits : Nat := 7
def ingDamaged : Nat := 8
def ingReports : Nat := 9

/-! ### Marks (R86) -/

def markInside : U16 := 0x01
def markBefore : U16 := 0x02
def markUnsupported : U16 := 0x04
def markFrag : U16 := 0x08
def markRestart : U16 := 0x10
def markArrival : U16 := 0x20
def markAdjusted : U16 := 0x40

/-! ### Extension (R83) -/

/-- The extension of a `w`-bit value nearest to the highest one seen; exactly half the range away counts as behind. Extended numbers are held unbounded, so their
order is the serial order of R534 and the wrap at 2^32 has no effect. -/
def extend (w : Nat) (hi : Int) (v : Nat) : Int :=
  let d : Int := (Int.ofNat v - hi) % Int.ofNat (2 ^ w)
  if d < Int.ofNat (2 ^ (w - 1)) then hi + d else hi + d - Int.ofNat (2 ^ w)

/-- The extended value of a stream that may not have begun. -/
def extendOpt (w : Nat) (hi : Option Int) (v : Nat) : Int := match hi with | none => Int.ofNat v | some h => extend w h v

/-- The higher of an earlier highest value and a new one. -/
def highest (hi : Option Int) (v : Int) : Option Int := some (match hi with | none => v | some h => max h v)

/-! ### Capture times (R87 to R91) -/

/-- c_sr of a sender report (R87). -/
def reportTime (seconds fraction taiUtc : Nat) : Int :=
  (Int.ofNat seconds - 2208988800 + Int.ofNat taiUtc) * 1000000000 + rneDiv (Int.ofNat (fraction * 1000000000)) (2 ^ 32)

/-- The ingress parameters of a sitter's RTP or MUX entry (R74, R76). A unit that completes when the sitter has no such entry left takes
these defaults. (Log 109 DESIGN CHOICE) -/
structure IngParams where
  reorderMs : Nat := 20
  arrivalOnly : Bool := false
  srTimeout : Nat := 20
  arrivalOffset : Nat := 0
  deriving DecidableEq, Repr

def paramsOf (d : Dmx) : IngParams :=
  { reorderMs := if d.reorderMs = 0 then 20 else d.reorderMs.toNat, arrivalOnly := d.timeMode = 1
    srTimeout := if d.srTimeout = 0 then 20 else d.srTimeout.toNat, arrivalOffset := d.arrivalOffset.toNat }

/-- The parameters of the sitter's first RTP or MUX entry; the defaults without one. (Log 109 DESIGN CHOICE) -/
def State.ingParams (s : State) (n : Nat) : IngParams :=
  match s.ing.dmx.find? (fun x => x.2.sitter = n && x.2.kind ≠ 2) with | some x => paramsOf x.2 | none => {}

/-- Capture time before R91, and whether it comes from arrival (R88, R90). -/
def State.rawCapture (s : State) (n : Nat) (ts : Int) (arrival : U64) : Int × Bool :=
  let p := s.ingParams n
  let old : Int × Bool := (Int.ofNat arrival.toNat - Int.ofNat p.arrivalOffset, true)
  match (s.sitter n).ing.sr with
  | none => old
  | some (c, t, at_) =>
    if p.arrivalOnly || p.srTimeout * 1000000000 < s.clock - at_ then old
    else (c + rneDiv ((ts - t) * 1000000000) 90000, false)

/-- A capture time before store time 0 has no value in the manual: a free one, not after the arrival time. (Log 109 DESIGN CHOICE) -/
def State.drawCapture (s : State) (raw : Int) (arrival : U64) : Int × State :=
  if 0 ≤ raw then (raw, s) else (Int.ofNat (s.draw.1.toNat % (arrival.toNat + 1)), s.draw.2)

/-- R91: not after arrival, then strictly after the previous capture time of the sitter. -/
def adjustCapture (capture : Int) (arrival : U64) (prev : Option U64) : Int :=
  let c := min capture (Int.ofNat arrival.toNat)
  match prev with
  | none => c
  | some p => if c ≤ Int.ofNat p.toNat then Int.ofNat p.toNat + 1 else c

/-! ### Completing an access unit (R80, R81, R537) -/

/-- A completed unit before it takes its number. -/
structure AccessUnit where
  capture : U64
  arrival : U64
  marks   : U16
  bytes   : List Byte
  disposition : Nat := 0
  reason  : Byte := 0
  deriving DecidableEq, Repr

/-- Free bytes of a sitter's elementary-stream ring. (Log 53 DEDUCED) -/
def Sitter.esFree (S : Sitter) : Nat := S.ing.esBytes - S.ing.esUsed

/-- The sitter's partition restarts. (Log 58 DEDUCED) -/
def State.restarting (s : State) (n : Nat) : Bool :=
  match s.part? (s.sitter n).partition with | some P => P.state = .restarting | none => false

/-- The unit with the out-of-band sets in front, when they are due (R82). -/
def State.withParams (s : State) (n : Nat) (u : AccessUnit) : AccessUnit :=
  if (s.sitter n).ing.paramsDue && !s.restarting n then { u with bytes := (s.sitter n).ing.params ++ u.bytes } else u

/-- Numbers, stamps and counters after a unit (R91, R95, R537). -/
def Sitter.numbered (S : Sitter) (u : AccessUnit) (restarting : Bool) : Sitter :=
  let S1 := (S.ingCount ingUnits 1).ingCount ingDamaged (if u.marks &&& 0x0F = 0 then 0 else 1)
  { S1 with ing := { S1.ing with nextIndex := S.ing.nextIndex + 1, prevCapture := some u.capture
                                 paramsDue := S1.ing.paramsDue && restarting } }

/-- The frame of a unit. -/
def frameOf (index : U64) (u : AccessUnit) : FrameRec :=
  { au := index, capture := u.capture, arrival := u.arrival, fromArrival := u.marks.getLsbD 5, adjusted := u.marks.getLsbD 6
    disposition := u.disposition, force := u.reason }

/-- The unit in the ring, ready to decode; or dropped as "queue full", or as "partition restarting" (R80, R458). (Log 53 DEDUCED) -/
def Sitter.enqueue (S : Sitter) (index : U64) (u : AccessUnit) (restarting : Bool) : Sitter :=
  let f := frameOf index u
  if S.esFree < u.bytes.length then
    { S with frames := S.frames ++ [{ f with phase := .dropped, reason := BitVec.ofNat 8 dropQueueFull, origin := BitVec.ofNat 8 origIngress }]
             ing := { S.ing with nextMarks := S.ing.nextMarks ||| markBefore } }
  else if restarting then
    { S with frames := S.frames ++ [{ f with phase := .dropped, reason := BitVec.ofNat 8 dropRestarting, origin := BitVec.ofNat 8 origDecoder }] }
  else
    { S with frames := S.frames ++ [f]
             ing := { S.ing with
               esUsed := S.ing.esUsed + u.bytes.length
               queue := S.ing.queue ++ [{ index := index, capture := u.capture, arrival := u.arrival, marks := u.marks, bytes := u.bytes
                                          disposition := u.disposition, reason := u.reason }] } }

/-- A completed unit: numbered, enqueued, and copied to the archive ring (R62). (Log 53 DEDUCED) -/
def State.complete (s : State) (n : Nat) (u0 : AccessUnit) : State :=
  let u := s.withParams n u0
  let r := s.restarting n
  let S := s.sitter n
  let i := S.ing.nextIndex
  let s1 := s.setSitter n ((S.numbered u r).enqueue i u r)
  if S.archive then s1.archive S.archiveRing n u.disposition u.reason.toNat u.marks.toNat u.capture u.arrival u.bytes else s1

/-- A JPEG stream ends with EOI (R79); one that the camera sent is not doubled (RFC 2435). -/
def closeJpeg (codec : Nat) (b : List Byte) : List Byte :=
  if codec = 2 && b.drop (b.length - 2) ≠ [0xFF, 0xD9] then b ++ [0xFF, 0xD9] else b

/-- The access unit in progress ends (R80): capture time and marks. -/
def State.endUnit (s : State) (n : Nat) : State :=
  let S := s.sitter n
  match S.ing.build with
  | none => s
  | some b =>
    let (raw0, fromArr) := s.rawCapture n b.ts b.arrival
    let (raw, s) := s.drawCapture raw0 b.arrival
    let c := adjustCapture raw b.arrival S.ing.prevCapture
    let m := b.marks ||| (if b.fragOpen then markFrag else 0) ||| (if fromArr then markArrival else 0) ||| (if c ≠ raw then markAdjusted else 0)
    (s.setSitter n { S with ing := { S.ing with build := none } }).complete n
      { capture := BitVec.ofInt 64 c, arrival := b.arrival, marks := m, bytes := closeJpeg S.codec b.bytes }

/-! ### Packets that leave the window (R79, R80, R86) -/

def startCode : List Byte := [0, 0, 0, 1]

/-- The payload of a packet joins the unit in progress. -/
def AuBuild.add (b : AuBuild) (body : RtpBody) : AuBuild :=
  match body with
  | .nals us => { b with bytes := b.bytes ++ us.flatMap (fun u => startCode ++ u), fragOpen := false
                         marks := if b.fragOpen then b.marks ||| markFrag else b.marks }
  | .frag first last header data =>
    if first then
      { b with bytes := b.bytes ++ startCode ++ header ++ data, fragOpen := !last, marks := if b.fragOpen then b.marks ||| markFrag else b.marks }
    else if b.fragOpen then { b with bytes := b.bytes ++ data, fragOpen := !last }
    else { b with marks := b.marks ||| markFrag }
  | .jpeg headers data => { b with bytes := b.bytes ++ headers ++ data }
  | .unsupported => { b with marks := b.marks ||| markUnsupported }

/-- A packet leaves the window in sequence order. -/
def State.takePacket (s : State) (n : Nat) (w : WinPkt) : State :=
  let s1 := match (s.sitter n).ing.build with
    | some b => if b.ts ≠ w.ts then s.endUnit n else s
    | none => s
  let S := s1.sitter n
  let b0 : AuBuild := match S.ing.build with
    | some b => { b with arrival := if w.arrival.ult b.arrival then w.arrival else b.arrival }
    | none => { ts := w.ts, bytes := [], marks := S.ing.nextMarks, arrival := w.arrival, fragOpen := false }
  let body := rtpBody S.codec w.pkt.payload
  let S1 := S.ingCount ingUnsupported (if body = .unsupported then 1 else 0)
  let s2 := s1.setSitter n { S1 with ing := { S1.ing with build := some (b0.add body), nextMarks := 0 } }
  if w.pkt.marker then s2.endUnit n else s2

/-- Numbers were lost at this point of the sequence (R86). -/
def State.lost (s : State) (n : Nat) (count : Nat) : State :=
  if count = 0 then s
  else
    let S := (s.sitter n).ingCount ingLost count
    match S.ing.build with
    | some b => s.setSitter n { S with ing := { S.ing with build := some { b with marks := b.marks ||| markInside } } }
    | none => s.setSitter n { S with ing := { S.ing with nextMarks := S.ing.nextMarks ||| markBefore } }

/-- The head moves up to `h`: stored packets leave, and numbers that were not received are lost. -/
def State.advanceTo (s : State) (n : Nat) (h : Int) : List WinPkt → State
  | [] =>
    let S := s.sitter n
    let h0 := S.ing.head.getD h
    (s.lost n (h - h0).toNat).setSitter n
      (let S1 := (s.lost n (h - h0).toNat).sitter n; { S1 with ing := { S1.ing with head := some (max h0 h) } })
  | w :: t =>
    let s1 := s.lost n (w.ext - ((s.sitter n).ing.head.getD w.ext)).toNat
    let s2 := s1.takePacket n w
    let S := s2.sitter n
    (s2.setSitter n { S with ing := { S.ing with head := some (w.ext + 1), window := S.ing.window.filter (fun x => x.ext ≠ w.ext) } }).advanceTo n h t

/-- Window packets below `h`, in order. -/
def below (h : Int) (l : List WinPkt) : List WinPkt := l.filter (fun w => w.ext < h)

/-- Stored packets at the head leave, as long as no number is missing. -/
def State.drain (s : State) (n : Nat) : Nat → State
  | 0 => s
  | fuel + 1 =>
    let S := s.sitter n
    match S.ing.window with
    | [] => s
    | w :: _ => if some w.ext = S.ing.head then (s.advanceTo n (w.ext + 1) [w]).drain n fuel else s

/-- The window with a packet in its place. -/
def insertPkt (w : WinPkt) : List WinPkt → List WinPkt
  | [] => [w]
  | x :: t => if w.ext < x.ext then w :: x :: t else x :: insertPkt w t

/-- A packet within reach of the window (R84). (Log 52 DEDUCED) -/
def State.storePacket (s : State) (n : Nat) (e : Int) (p : RtpPkt) (arrival : U64) : State :=
  let S := s.sitter n
  let h := S.ing.head.getD e
  if e < h then s.setSitter n (S.ingCount ingLate 1)
  else if S.ing.window.any (fun w => w.ext = e) then s.setSitter n (S.ingCount ingDuplicate 1)
  else
    let s1 := if h + 63 < e then s.advanceTo n (e - 63) (below (e - 63) S.ing.window) else s
    let S1 := s1.sitter n
    let ts := extendOpt 32 S1.ing.hiTs p.ts.toNat
    let w : WinPkt := { ext := e, ts := ts, pkt := p, arrival := arrival }
    (s1.setSitter n { S1 with ing := { S1.ing with
      hiSeq := if S1.ing.head.isNone then e else max S1.ing.hiSeq e, hiTs := highest S1.ing.hiTs ts
      head := some (S1.ing.head.getD e), window := insertPkt w S1.ing.window } }).drain n 128

/-- A source restart (R85): open gaps are lost, the unit in progress is marked, and the window and both extensions start again from this
packet. (Log 52 DEDUCED) -/
def State.sourceRestart (s : State) (n : Nat) (p : RtpPkt) (arrival : U64) : State :=
  let S := s.sitter n
  let top := match S.ing.window.getLast? with | some w => w.ext + 1 | none => S.ing.head.getD 0
  let s1 := s.advanceTo n top S.ing.window
  let S1 := s1.sitter n
  let b := S1.ing.build.map (fun b => { b with marks := b.marks ||| markInside })
  let s2 := (s1.setSitter n { S1 with ing := { S1.ing with build := b } }).endUnit n
  let S2 := s2.sitter n
  (s2.setSitter n { S2 with ing := { S2.ing with
    head := none, hiTs := none, farSeq := none, window := [], nextMarks := S2.ing.nextMarks ||| markRestart } }).storePacket n
      (Int.ofNat p.seq.toNat) p arrival

/-- An RTP packet reaches a sitter (R79, R83 to R85). (Log 52 DEDUCED) -/
def State.rtpPacket (s : State) (n : Nat) (p : RtpPkt) (arrival : U64) : State :=
  let S := ((s.sitter n).ingCount ingPackets 1).ingCount ingBytes p.bytes
  let s0 := s.setSitter n S
  match S.ing.head with
  | none => s0.storePacket n (Int.ofNat p.seq.toNat) p arrival
  | some h =>
    let e := extend 16 S.ing.hiSeq p.seq.toNat
    if h + 3000 < e || e < h - 100 then
      if S.ing.farSeq = some (p.seq - 1) then s0.sourceRestart n p arrival
      else
        let S1 := if e < h then S.ingCount ingLate 1 else S
        s0.setSitter n { S1 with ing := { S1.ing with farSeq := some p.seq } }
    else (s0.setSitter n { S with ing := { S.ing with farSeq := none } }).storePacket n e p arrival

/-- A sender report of a sitter (R87). One that comes before the first packet takes rollover count 0, as the first packet would (R83), and
its timestamp is then the highest seen. (Log 109 DESIGN CHOICE) -/
def State.senderReport (s : State) (n : Nat) (r : SenderReport) : State :=
  let S := (s.sitter n).ingCount ingReports 1
  let t := extendOpt 32 S.ing.hiTs r.rtp.toNat
  s.setSitter n { S with ing := { S.ing with
    hiTs := highest S.ing.hiTs t, sr := some (reportTime r.seconds.toNat r.fraction.toNat (s.host.taiUtc.toNat % 2 ^ 16), t, s.clock) } }

/-- REORDER_GAP_TIMEOUT: the gap at the head of the window, open for reorder_ms, is declared lost (R84). (Log 3 DESIGN CHOICE) -/
def execReorderGapTimeout (n : Nat) (s : State) : Out :=
  if 2048 ≤ n then noUnit
  else
    match (s.sitter n).ing.window with
    | [] => .next s
    | w :: _ => if s.ready then .next ((s.advanceTo n w.ext []).drain n 128) else .next s

/-! ### Injection (R59, R92 to R94) -/

def ingInjectSource : Nat := 0x0607
def ingInjectBad : Nat := 0x0608
def timReplayLate : Nat := 0x0505

/-- The data of an injection block. -/
def injLength (b : List Byte) : Nat := fieldLE b 24 4
def injSize (b : List Byte) : Nat := 32 + (injLength b + 7) / 8 * 8

/-- The layout of R92 is kept: reserved fields, padding, length, marks, and the disposition with its reason. -/
def injForm (b : List Byte) (replay : Bool) : Bool :=
  let disp := fieldLE b 2 1
  let reason := fieldLE b 3 1
  fieldLE b 6 2 = 0 && fieldLE b 28 4 = 0 && allZero (b.drop (32 + injLength b)) && 1 ≤ injLength b && injLength b ≤ 0x1000000
    && fieldLE b 4 2 < 0x80 && disp ≤ 2 && (replay || disp = 0)
    && (if disp = 2 then 1 ≤ reason && reason ≤ 8 else reason = 0)

/-- The unit of an injection block (R93). (Log 54 DEDUCED) -/
def State.injectUnit (s : State) (b : List Byte) : AccessUnit :=
  let S := s.sitter (fieldLE b 0 2)
  let marks : U16 := BitVec.ofNat 16 (fieldLE b 4 2)
  let capture : U64 := BitVec.ofNat 64 (fieldLE b 8 8)
  let data := fieldBytes b 32 (injLength b)
  if (s.part S.partition).replay then
    { capture := capture, arrival := BitVec.ofNat 64 (fieldLE b 16 8), marks := marks, bytes := data, disposition := fieldLE b 2 1
      reason := b.getD 3 0 }
  else
    let c := adjustCapture (Int.ofNat capture.toNat) s.tb.time S.ing.prevCapture
    let m := (marks &&& ~~~(markArrival ||| markAdjusted)) ||| S.ing.nextMarks ||| (if c ≠ Int.ofNat capture.toNat then markAdjusted else 0)
    { capture := BitVec.ofInt 64 c, arrival := s.tb.time, marks := m, bytes := data }

/-- The first error of an injection (R59, R77, R94). The unit that must fit the ring is the one R82 makes of it, with its out-of-band sets.
(Log 54 DEDUCED, 109 DESIGN CHOICE) -/
def State.injectError (s : State) (b : List Byte) : Nat :=
  let n := fieldLE b 0 2
  let S := s.sitter n
  let live := n < 2048 && S.state ≠ 0
  let replay := (s.part S.partition).replay
  let arrival : U64 := BitVec.ofNat 64 (fieldLE b 16 8)
  if live && !S.sourceHost then ingInjectSource
  else if !live || !injForm b replay || (replay && S.ing.esBytes < (s.withParams n (s.injectUnit b)).bytes.length) then ingInjectBad
  else if replay && (arrival.ult (s.part S.partition).virtualTime
      || (match S.ing.prevArrival with | some a => arrival.ult a | none => false)) then timReplayLate
  else 0

/-- An injected unit completes. -/
def State.inject (s : State) (b : List Byte) : State :=
  let n := fieldLE b 0 2
  let u := s.injectUnit b
  let S := s.sitter n
  (s.setSitter n { S with ing := { S.ing with nextMarks := 0, prevArrival := some u.arrival } }).complete n u

/-- A replay injection that waits for ring space (R93). -/
def State.injectWaits (s : State) (b : List Byte) : Bool :=
  let S := s.sitter (fieldLE b 0 2)
  (s.part S.partition).replay && S.esFree < (s.withParams (fieldLE b 0 2) (s.injectUnit b)).bytes.length

/-- INJECT (R92 to R94): result 1 when the unit was dropped as "queue full" (R428). -/
def execInject (q : Nat) (n : U32) (s : State) : Out :=
  match s.running q n 0x0044 with
  | some (_, b) =>
    if b.length = injSize b && s.injectError b = 0 && s.injectWaits b then .next s
    else command q n 0x0044 s (fun _ b =>
      if b.length < 32 || b.length ≠ injSize b then (s, 0x0E03, 0)
      else if s.injectError b ≠ 0 then (s, s.injectError b, 0)
      else
        let full := (s.sitter (fieldLE b 0 2)).esFree < (s.withParams (fieldLE b 0 2) (s.injectUnit b)).bytes.length
        (s.inject b, 0, if full then 1 else 0))
  | none => command q n 0x0044 s (fun _ _ => (s, 0, 0))

/-! ### SIT_PARAMSETS (R82) -/

def sitNotFound : Nat := 0x0A02

/-- SIT_PARAMSETS: the sitter's whole out-of-band set is replaced. -/
def execSitParamsets (q : Nat) (n : U32) (s : State) : Out :=
  command q n 0x0033 s (fun e b =>
    let i := e.arg0.toNat % 2048
    let S := s.sitter i
    if S.state = 0 then (s, sitNotFound, 0) else (s.setSitter i { S with ing := { S.ing with params := b } }, 0, 0))

end Sys2Proof.Machine
end

