-- ==== Sys2Proof/Machine/Decoder.lean ====
section
/-!
DEFINITION. Video decoding (R97 to R119, R126, R538): the scheduler, the context cache, joining, DECODE_START and DECODE_COMPLETE. What the coded
bits hold by the codec standards is the operand of DECODE_START.
-/
namespace Sys2Proof.Machine

/-! ### The scheduler (R98) -/

def isJpegEngine (e : Nat) : Bool := 32 ≤ e

/-- A sitter that the scheduler may hand to an engine of this kind. -/
def State.decodable (s : State) (jpeg : Bool) (x : Nat × Sitter) : Bool :=
  x.2.state ≠ 0 && (x.2.codec = 2) = jpeg && x.2.engine.isNone && !x.2.ing.queue.isEmpty && (s.freeSlot x.1).isSome

/-- x goes before y: class, capture time of the oldest unit, sitter ID. -/
def State.decodesBefore (s : State) (x y : Nat × Sitter) : Bool :=
  let c (z : Nat × Sitter) : Nat := if (s.part z.2.partition).be then 1 else 0
  let t (z : Nat × Sitter) : Nat := match z.2.ing.queue with | a :: _ => a.capture.toNat | [] => 0
  c x < c y || (c x = c y && (t x < t y || (t x = t y && x.1 < y.1)))

/-- The sitter that a free engine takes. -/
def State.nextDecode (s : State) (jpeg : Bool) : Option Nat :=
  ((s.sitters.filter (s.decodable jpeg)).foldl (fun b x => match b with
    | none => some x
    | some y => if s.decodesBefore x y then some x else some y) none).map (·.1)

/-! ### The context cache (R106) -/

/-- The context of a sitter comes into MED SRAM: where all 256 entries are in use, a free value says which one it replaces, for the manual gives
no rule. (Log 123 DESIGN CHOICE) -/
def State.cacheContext (s : State) (n : Nat) : State :=
  if s.med.contexts.any (fun x => x.2 = n) then s
  else
    let S := (s.sitter n).decCount decMisses 1
    let put (s : State) (i : Nat) : State := { s with med := { s.med with contexts := tinsert s.med.contexts i n } }
    match (List.range 256).find? (fun i => (tfind s.med.contexts i).isNone) with
    | some i => put (s.setSitter n S) i
    | none => put (s.draw.2.setSitter n S) (s.draw.1.toNat % 256)

/-! ### What becomes of an access unit (R100, R111, R116 to R118, R538) -/

/-- A join point (R117). -/
def joinPoint (p : PicDesc) : Bool :=
  match p.type with | .idr => true | .cra => true | .bla => true | .jpeg => true | _ => p.recovery.isSome

/-- The intra picture carries too few bytes for the set it uses (R111). -/
def tooFewBytes (S : Sitter) (p : PicDesc) : Bool :=
  isIntra p && match S.picSet p with | some a => decide (p.vclBytes * 65536 < a.width * a.height) | none => false

/-- The picture depends on a set that a rejection invalidated, or on one stored again whose first join point is still to come (R111). -/
def Sitter.dependsOnBad (S : Sitter) (p : PicDesc) : Bool :=
  p.slices.any S.sliceRejected || (match S.picSet p with | some a => S.rejoin.contains a.id && !joinPoint p | none => false)

/-- The picture is rejected at its headers (R102, R111). (Log 56 DEDUCED) -/
def Sitter.rejects (S : Sitter) (p : PicDesc) : Bool :=
  if S.codec = 2 then !jpegOk S p.jpeg else S.dependsOnBad p || p.excluded || tooFewBytes S p

/-- The sitter decodes: joined, or on its way to a recovery point (R118). -/
def Sitter.decoding (S : Sitter) : Bool := S.state = 2 || !S.recoveries.isEmpty

/-- A frame's age exceeds a limit at an instant (R49, R51). -/
def staleAt (now capture : U64) (limitUs : Nat) : Bool := limitUs * 1000 < now.toNat - capture.toNat

/-- Reason for which the unit is not decoded; 0: it is decoded. (Log 56 DEDUCED) -/
def State.skipReason (s : State) (n : Nat) (a : Au) (p : PicDesc) : Nat :=
  let S := s.sitter n
  let P := s.part S.partition
  if P.state = .restarting then dropRestarting
  else if S.rejects p then dropParamSet
  else if P.state ≠ .running then dropJoining
  else if S.codec ≠ 2 && (S.picSet p).isNone then (if S.state = 2 then dropParamSet else dropJoining)
  else if !S.decoding && (S.joinNeeds.isSome || !joinPoint p) then dropJoining
  else if p.type = .rasl && (S.rasl || !S.decoding) then dropJoining
  else if S.state = 2 && !P.replay && !p.ref && !(S.codec = 2 && S.still) && staleAt s.tb.time a.capture S.staleUs then dropStale
  else 0

/-- Origin of the notice that FORCE_DROP gives a reason (R61): the block that gives that reason in live service. (Log 54 DEDUCED) -/
def forcedOrigin (reason : Nat) : Nat :=
  if reason = dropStale then origBuilder else if reason = dropShape then origProgram else if reason = dropQueueFull then origIngress
  else if reason = dropRestarting then origCurator else origDecoder

/-- Reason and origin of a decoder's drop, FORCE_DROP considered. -/
def dropBy (a : Au) (reason : Nat) : Nat × Nat :=
  if a.disposition = 2 then (a.reason.toNat, forcedOrigin a.reason.toNat) else (reason, origDecoder)

/-- Capacity of the stream's DPB, reorder depth, and latency bound: those of the active set (R105). -/
def Sitter.reorder (S : Sitter) : Nat := match S.active with | some a => a.reorder.getD a.refFrames | none => 0
def Sitter.dpbSize (S : Sitter) : Nat := match S.active with | some a => declaredDpb a | none => S.maxRefs

/-- Frame buffers in use: references, and pictures that wait for output. -/
def Sitter.fullness (S : Sitter) : Nat :=
  (S.dpb.map (·.slot) ++ (S.held.filter (fun h => S.awaitsOutput h.au && !S.dpb.any (fun x => x.slot = h.slot))).map (·.slot)).length

/-- Output in the order of the standards' bumping process (R105): more pictures wait than are reordered, one has waited for its latency, or the
DPB is over its size. (Log 55 DESIGN CHOICE) -/
def Sitter.bump (S : Sitter) : Sitter :=
  S.bumpWhile (fun S => decide (S.reorder < S.output.length) || decide (S.dpbSize < S.fullness)
    || (match S.active.bind (·.latency) with | some k => S.output.any (fun x => k ≤ x.late) | none => false)) S.output.length

/-- A picture joins those that wait for output. -/
def Sitter.awaitOutput (S : Sitter) (au : U64) (poc : Int) : Sitter :=
  { S with output := S.output.map (fun x => { x with late := x.late + 1 }) ++ [{ au := au, poc := poc }] }

/-- Order count and frame number of the last picture (R106). -/
def Sitter.counted (S : Sitter) (p : PicDesc) : Sitter := { S with lastPoc := p.poc, lastFrameNum := p.frameNum }

/-- A unit that is not decoded. One that is only stale counts in the picture order (R100). -/
def State.skipUnit (s : State) (n : Nat) (a : Au) (p : PicDesc) (reason : Nat) : State :=
  let r := dropBy a reason
  let S1 := (((s.sitter n).freeUnit a.bytes.length).drop a.index r.1 r.2).decCount decJoining (if reason = dropJoining then 1 else 0)
  s.setSitter n (if reason = dropStale then (((S1.decCount decSkipped 1).counted p).awaitOutput a.index p.poc).bump else S1)

/-- What a rejection at the headers does: the picture of a JPEG is counted; an intra picture with too few bytes rejects its set. (Log 56 DEDUCED) -/
def State.rejectPicture (s : State) (n : Nat) (p : PicDesc) : State :=
  let S := s.sitter n
  if S.codec = 2 then (if jpegOk S p.jpeg then s else s.setSitter n (S.decCount decRejected 1))
  else if !S.dependsOnBad p && !p.excluded && tooFewBytes S p then
    match S.picSet p with
    | some a => (s.setSitter n { S with active := some a }).rejectSet n (.seq a)
    | none => s
  else s

/-! ### DECODE_START -/

/-- The unit leaves the queue, its context is on the engine, and its sets are stored (R106 to R108). -/
def State.openUnit (s : State) (n e : Nat) (p : PicDesc) : State :=
  let s0 := s.cacheContext n
  let S := s0.sitter n
  let E := tget {} s0.med.engines e
  let s1 := { s0 with med := { s0.med with engines := tset {} s0.med.engines e { E with on := true, lastSitter := some n } } }.setSitter n
    { S with ing := { S.ing with queue := S.ing.queue.drop 1 } }
  p.sets.foldl (fun s x => s.storeSet n x) s1

/-- A recovery point that the picture signals (R118). -/
def recoveryOf (S : Sitter) (p : PicDesc) : List Recovery :=
  match p.recovery with
  | none => []
  | some k => [if S.codec = 0 then .frames p.frameNum k.toNat else .order (p.poc + k)]

/-- The sitter as its picture goes on an engine: the set in force, and the recovery points under way. -/
def Sitter.begun (S : Sitter) (e : Nat) (au : U64) (p : PicDesc) : Sitter :=
  let fresh := restartsBuffer p (S.state ≠ 2)
  let a := if S.codec = 2 then none else S.picSet p
  { S.updFrame au (fun f => { f with phase := .decoding }) with
    engine := some e, active := a
    rejoin := match a with | some a => S.rejoin.filter (· ≠ a.id) | none => S.rejoin
    recoveries := if fresh || S.codec = 2 then [] else S.recoveries ++ recoveryOf S p
    rasl := match p.type with | .bla => true | .cra => S.state ≠ 2 | .idr => false | _ => S.rasl }

/-- The picture goes on the engine, and the references it misses are built (R109). -/
def State.startPicture (s : State) (n e slot : Nat) (a : Au) (p : PicDesc) : State :=
  let S := s.sitter n
  let miss := if S.codec = 2 || isIntra p then [] else missingRefs S.dpb p.refs
  let E := tget {} s.med.engines e
  let j : DecodeJob := { sitter := n, au := a, pic := p, slot := slot, th := S.damageTh, drop := S.dropDamaged, built := miss.length }
  let s1 := { s with med := { s.med with engines := tset {} s.med.engines e { E with job := some j } } }.setSitter n (S.begun e a.index p)
  miss.foldl (fun s poc => s.buildRef n p poc) s1

/-- DECODE_START: a free engine takes the next ready sitter and decodes or skips one picture (R98, R100). (Log 55 DESIGN CHOICE) -/
def execDecodeStart (e : Nat) (p : PicDesc) (s : State) : Out :=
  if 36 ≤ e then noUnit
  else if !s.ready || (tget {} s.med.engines e).job.isSome then .next s
  else
    match s.nextDecode (isJpegEngine e) with
    | none => .next s
    | some n =>
      match (s.sitter n).ing.queue, s.freeSlot n with
      | a :: _, some slot =>
        let s1 := s.openUnit n e p
        let r := s1.skipReason n a p
        if r ≠ 0 then .next ((s1.rejectPicture n p).skipUnit n a p r) else .next (s1.startPicture n e slot a p)
      | _, _ => .next s

/-! ### DECODE_COMPLETE -/

/-- The decoder's reason for dropping a decoded picture (R110, R115, R116, R118); 0: none. -/
def decodedReason (S : Sitter) (j : DecodeJob) (r : PicResult) : Nat :=
  let waiting := S.state = 1 && !S.recoveries.isEmpty && !r.recoveryDone
  let before := match S.joinPoc with | some x => S.codec ≠ 2 && j.pic.poc < x | none => false
  if waiting || before then dropJoining
  else if r.overBudget then dropBudget
  else if r.outOfBounds || (j.drop && j.th < r.d) then dropDamaged
  else 0

/-- The sitter's decoding state after a picture: join (R118), references, output (R105). The references kept are an operand, at most max_refs.
(Log 55 DESIGN CHOICE) -/
def Sitter.afterPicture (S : Sitter) (j : DecodeJob) (r : PicResult) : Sitter :=
  let p := j.pic
  let jpeg := S.codec = 2
  let flush := !jpeg && restartsBuffer p (S.state ≠ 2)
  let joins := S.state = 1 && (flush || jpeg || r.recoveryDone)
  let S1 := if flush then { S.flushOut with dpb := [], joinPoc := none } else S
  let kept := S1.dpb.filter (fun x => p.keep.contains x.poc)
  let dpb := if jpeg then [] else kept ++ (if p.ref then [{ slot := j.slot, poc := p.poc, d := r.d }] else [])
  ({ S1 with
    state := if joins then 2 else S1.state, recoveries := S1.recoveries.filter (fun x => !S1.reaches p x)
    joinPoc := if joins && r.recoveryDone && !flush then some p.poc else S1.joinPoc
    dpb := dpb.drop (dpb.length - S1.maxRefs) }.counted p).awaitOutput j.au.index p.poc

/-- The frame after its picture: its damage, and its notice or its place in the output order (R115, R324). -/
def Sitter.judge (S : Sitter) (j : DecodeJob) (r : PicResult) (reason : Nat) : Sitter :=
  let a := j.au
  let S1 := S.updFrame a.index (fun f => { f with phase := .waiting, o := r.o, d := r.d, concealed := r.conc.length
                                                  damage := if j.th < r.d && !j.drop then some j.th else none })
  let forced := a.disposition = 2
  if reason ≠ 0 || forced then (let x := dropBy a reason; S1.drop a.index x.1 x.2) else S1

/-- Decode counters of a picture (R126). -/
def Sitter.countPicture (S : Sitter) (j : DecodeJob) (r : PicResult) (reason : Nat) : Sitter :=
  [(decPictures, 1), (decConcealed, r.conc.length), (decSyntax, r.errors), (decSlices, r.discarded), (decBuilt, j.built),
   (decBudget, if r.overBudget then 1 else 0), (decBounds, if r.outOfBounds then 1 else 0),
   (decJoining, if reason = dropJoining then 1 else 0)].foldl (fun S x => S.decCount x.1 x.2) S

/-- The held picture. -/
def heldOf (S : Sitter) (j : DecodeJob) (r : PicResult) : Held :=
  let w := match S.active with | some a => (a.winX, a.winY, a.winW, a.winH) | none => (0, 0, r.w, r.h)
  { au := j.au.index, slot := j.slot, capture := j.au.capture, dispX := w.1, dispY := w.2.1, dispW := w.2.2.1, dispH := w.2.2.2
    codedW := r.w, codedH := r.h, chroma := S.picChroma j.pic, jpeg := j.pic.type = .jpeg }

/-- A picture completes for its sitter. -/
def State.finishPicture (s : State) (j : DecodeJob) : State :=
  let n := j.sitter
  let S := s.sitter n
  let r := picResult S j.pic j.slot
  let reason := decodedReason S j r
  let s1 := s.setDev (s.pictureWrites S j.slot j.pic j.au.capture j.au.index r)
  let S1 := (({ S with engine := none, held := S.held ++ [heldOf S j r] }.freeUnit j.au.bytes.length).countPicture j r reason).afterPicture j r
  s1.setSitter n (S1.judge j r reason).bump

/-- What an engine reads for a picture: the sitter's ring and context, and the references (R106, R395). The ring's layout is the device's own: all
of it counts as read. (Log 104 DESIGN CHOICE) -/
def Sitter.decodeReads (S : Sitter) (n : Nat) (p : PicDesc) : List (Nat × Nat) :=
  [(n * 0x10000, 0x10000), (S.esAddr.toNat, S.ing.esBytes)]
    ++ ((S.dpb.filter (fun x => p.refs.contains x.poc)).map (fun x => S.slotRange x.slot))

/-- The engine is free again, with a picture and its time counted (R126). -/
def State.engineDone (s : State) (e busyUs : Nat) : State :=
  let E := tget {} s.med.engines e
  let E1 : Engine := { E with job := none, pictures := E.pictures + 1, busyUs := E.busyUs + BitVec.ofNat 48 busyUs }
  { s with med := { s.med with engines := tset {} s.med.engines e E1 } }

/-- DECODE_COMPLETE (R99, R105, R115, R120). A word that cannot be corrected abandons the picture (R395). (Log 55 DESIGN CHOICE) -/
def execDecodeComplete (e busyUs : Nat) (s : State) : Out :=
  if 36 ≤ e then noUnit
  else
    match (tget {} s.med.engines e).job with
    | none => .next s
    | some j =>
      if !s.ready then .next s
      else .next (s.readElse 3 ((s.sitter j.sitter).decodeReads j.sitter j.pic) (fun s => s.abandonDecode j.sitter)
        (fun s => (s.finishPicture j).engineDone e busyUs))

/-! ### Gating (R477) -/

/-- ENGINE_DOMAIN_GATE: a media engine without work is switched off. -/
def execEngineDomainGate (kind : EngineKind) (n : Nat) (s : State) : Out :=
  let gateEngine (e : Nat) : Out :=
    let E := tget {} s.med.engines e
    .next (if E.job.isNone && !s.board.clocksStopped then { s with med := { s.med with engines := tset {} s.med.engines e { E with on := false } } } else s)
  match kind with
  | .vde => if 32 ≤ n then noUnit else gateEngine n
  | .jd => if 4 ≤ n then noUnit else gateEngine (32 + n)
  | .fu =>
    let F := tget {} s.med.fus n
    if 8 ≤ n then noUnit
    else .next (if F.job.isNone && !s.board.clocksStopped then { s with med := { s.med with fus := tset {} s.med.fus n { F with on := false } } } else s)
  | .ms =>
    let M := tget {} s.med.mss n
    if 2 ≤ n then noUnit
    else .next (if M.job.isNone && !s.board.clocksStopped then { s with med := { s.med with mss := tset {} s.med.mss n { M with on := false } } } else s)

end Sys2Proof.Machine
end

