-- ==== Sys2Proof/Machine/Framing.lean ====
section
/-!
DEFINITION. Framing (R127 to R146): profiles and geometry, the resampling filter, colour, the tensor layout, crop lists and
prepared-batch buffers; and motion search (R343, R344).
-/
namespace Sys2Proof.Machine

/-! ### Profiles (R128) -/

structure Profile where
  outW       : Nat
  outH       : Nat
  fit        : Nat
  colour     : Nat
  matrix     : Nat
  range      : Nat
  int8       : Bool
  filterSet  : Nat
  pixelBytes : Nat
  fill       : List Nat
  rowPitch   : Nat
  scalePitch : Nat
  deriving DecidableEq, Repr

def decodeProfile (b : List Byte) : Profile :=
  { outW := fieldLE b 0 2, outH := fieldLE b 2 2, fit := fieldLE b 4 1, colour := fieldLE b 5 1, matrix := fieldLE b 6 1, range := fieldLE b 7 1
    int8 := fieldLE b 8 1 = 1, filterSet := fieldLE b 9 1, pixelBytes := fieldLE b 10 1
    fill := (List.range 3).map (fun i => fieldLE b (12 + i) 1), rowPitch := fieldLE b 16 4, scalePitch := fieldLE b 20 4 }

/-- C of R128. -/
def Profile.channels (p : Profile) : Nat := if p.colour = 3 then 1 else 3

/-- Bytes of tensor and scale rows, and the slot's size (R142). -/
def Profile.dataBytes (p : Profile) : Nat := p.outH * p.rowPitch + (if p.int8 then p.outH * p.scalePitch else 0)
def Profile.slotBytes (p : Profile) : Nat := upTo64 p.dataBytes

def Framing.profile (f : Framing) (i : Nat) : Profile := decodeProfile (f.profiles.getD i [])

/-! ### Geometry (R129 to R131) -/

/-- Where the image lies in the tile, the box origin, and the steps. -/
structure Geometry where
  iw : Nat
  ih : Nat
  ox : Nat
  oy : Nat
  x0 : Int
  y0 : Int
  stepX : Int
  stepY : Int
  clamped : Bool
  deriving DecidableEq, Repr

/-- A step within its bounds (R130). -/
def boundStep (x : Int) : Int := max 8192 (min 1048576 x)

/-- Image size in the tile (R129). -/
def imageSize (p : Profile) (sw sh : Int) : Nat × Nat :=
  if p.fit = 0 then (p.outW, p.outH)
  else if Int.ofNat p.outH * sw ≥ sh * Int.ofNat p.outW then (p.outW, max 1 (rneDiv (Int.ofNat p.outW * sh) sw).toNat)
  else (max 1 (rneDiv (Int.ofNat p.outH * sw) sh).toNat, p.outH)

def geometry (p : Profile) (box : Int × Int × Int × Int) : Geometry :=
  let sw := box.2.2.1
  let sh := box.2.2.2
  let z := imageSize p sw sh
  let sx := rneDiv (65536 * sw) (4 * Int.ofNat z.1)
  let sy := rneDiv (65536 * sh) (4 * Int.ofNat z.2)
  { iw := z.1, ih := z.2, ox := if p.fit = 1 then (p.outW - z.1) / 2 else 0, oy := if p.fit = 1 then (p.outH - z.2) / 2 else 0
    x0 := box.1, y0 := box.2.1, stepX := boundStep sx, stepY := boundStep sy, clamped := boundStep sx ≠ sx || boundStep sy ≠ sy }

/-- pos (R130). -/
def lumaPos (k : Nat) (origin step : Int) : Int := origin * 16384 + ((2 * Int.ofNat k + 1) * step - 65536) / 2

/-- Chroma position of a luma position on an axis (R131). -/
def chromaPos (sub : Nat) (off p : Int) : Int := if sub = 2 then (p - off) / 2 else p

/-! ### Filtering (R132, R133) -/

def i16Of (n : Nat) : Int := (BitVec.ofNat 16 n).toInt

/-- Coefficients of a filter set (R147: phase by phase, 8 horizontal and 6 vertical). -/
def hCoef (set : List Byte) (ph t : Nat) : Int := i16Of (fieldLE set (28 * ph + 2 * t) 2)
def vCoef (set : List Byte) (ph j : Nat) : Int := i16Of (fieldLE set (28 * ph + 16 + 2 * j) 2)

def sumI (l : List Int) : Int := l.foldl (· + ·) 0

/-- filter (R133) over a plane of 10-bit samples. -/
def filterAt (set : List Byte) (rd : Int → Int → Int) (px py : Int) : Int :=
  let ix := px / 65536
  let iy := py / 65536
  let fx := (px / 1024 % 64).toNat
  let fy := (py / 1024 % 64).toNat
  let row (j : Nat) : Int :=
    clampI (rneDiv (sumI ((List.range 8).map (fun t => hCoef set fx t * rd (ix - 3 + Int.ofNat t) (iy - 2 + Int.ofNat j)))) 64) 0 4095
  let v10 := clampI (rneDiv (sumI ((List.range 6).map (fun j => vCoef set fy j * row j))) 1024) 0 1023
  clampI (rneDiv v10 4) 0 255

/-- An edge-clamped coordinate. -/
def edge (x : Int) (n : Nat) : Nat := (clampI x 0 (Int.ofNat n - 1)).toNat

/-- A sample in the 10-bit domain. -/
def State.sample10 (s : State) (S : Sitter) (a : Nat) : Int := Int.ofNat (if S.bitDepth = 10 then s.devLE a 2 else 4 * s.devLE a 1)

/-- Samples of a held picture's display window. -/
def State.luma10 (s : State) (S : Sitter) (h : Held) (x y : Int) : Int :=
  s.sample10 S (S.lumaAt h.slot (h.dispX + edge x h.dispW) (h.dispY + edge y h.dispH))
def State.chroma10 (s : State) (S : Sitter) (h : Held) (k : Nat) (x y : Int) : Int :=
  let f := chromaSub h.chroma
  s.sample10 S (S.chromaAt h.slot h.chroma k (h.dispX / f.1 + edge x (ceilDiv h.dispW f.1)) (h.dispY / f.2 + edge y (ceilDiv h.dispH f.2)))

/-! ### Colour (R134) -/

/-- ky, krv, kgu, kgv, kbu. -/
def colourCoefs (matrix range : Nat) : Int × Int × Int × Int × Int :=
  if matrix = 0 then (if range = 0 then (19077, 26149, -6419, -13320, 33050) else (16384, 22970, -5638, -11700, 29032))
  else (if range = 0 then (19077, 29372, -3494, -8731, 34610) else (16384, 25802, -3069, -7670, 30402))

/-- Filtered Y, Cb and Cr as the profile's channels. -/
def convertColour (p : Profile) (y cb cr : Int) : List Int :=
  if p.colour = 2 then [y, cb, cr]
  else if p.colour = 3 then [y]
  else
    let k := colourCoefs p.matrix p.range
    let l := y - (if p.range = 0 then 16 else 0)
    let u := cb - 128
    let w := cr - 128
    let q (x : Int) : Int := clampI (rneDiv x 16384) 0 255
    let r := q (k.1 * l + k.2.1 * w)
    let g := q (k.1 * l + k.2.2.1 * u + k.2.2.2.1 * w)
    let b := q (k.1 * l + k.2.2.2.2 * u)
    if p.colour = 0 then [r, g, b] else [b, g, r]

/-- Colour gains of an augmentation record. -/
def applyGains (aug : List Byte) (c : List Int) : List Int :=
  if aug.isEmpty then c
  else c.zipIdx.map (fun x => clampI (rneDiv (x.1 * Int.ofNat (fieldLE aug (12 + 2 * x.2) 2)) 4096) 0 255)

/-! ### The tensor (R135, R140) -/

/-- FLIP_H of an augmentation record (R139). -/
def flipH (aug : List Byte) : Bool := bitAt (fieldLE aug 10 1) 0

/-- Channels of one image pixel: image column c and row r. -/
def State.imagePixel (s : State) (S : Sitter) (p : Profile) (set aug : List Byte) (h : Held) (g : Geometry) (c r : Nat) : List Int :=
  let f := chromaSub h.chroma
  let px := lumaPos (if flipH aug then g.iw - 1 - c else c) g.x0 g.stepX
  let py := lumaPos r g.y0 g.stepY
  let cx := chromaPos f.1 (if h.jpeg then 32768 else 0) px
  let cy := chromaPos f.2 32768 py
  let y := filterAt set (s.luma10 S h) px py
  if p.colour = 3 then applyGains aug [y]
  else applyGains aug (convertColour p y (filterAt set (s.chroma10 S h 0) cx cy) (filterAt set (s.chroma10 S h 1) cx cy))

/-- Channels of one pixel of the tile. -/
def State.tilePixel (s : State) (S : Sitter) (p : Profile) (set aug : List Byte) (h : Held) (g : Geometry) (x y : Nat) : List Int :=
  if g.ox ≤ x && x < g.ox + g.iw && g.oy ≤ y && y < g.oy + g.ih then s.imagePixel S p set aug h g (x - g.ox) (y - g.oy)
  else (p.fill.take p.channels).map Int.ofNat

def padTo (n : Nat) (b : List Byte) : List Byte := b ++ List.replicate (n - b.length) 0

/-- The codes and the scale of one INT8 pixel: the per-row quantiser with τ = +∞ and E_max = 0. -/
def quantPixel (c : List Int) : QRow := quantise (c.map (fun x => intToF (x - 128))) 0x7F800000 0

/-- One tensor row and its scale row. -/
def tensorRow (p : Profile) (px : List (List Int)) : List Byte × List Byte :=
  if p.int8 then
    let q := px.map quantPixel
    (padTo p.rowPitch (q.flatMap (fun r => padTo p.pixelBytes r.codes)), padTo p.scalePitch (q.flatMap (fun r => leBytes 4 r.scale.toNat)))
  else (padTo p.rowPitch (px.flatMap (fun c => padTo p.pixelBytes (c.map (BitVec.ofInt 8)))), [])

/-- The bytes of a filled slot: tensor rows, then scale rows. -/
def State.slotTensor (s : State) (S : Sitter) (p : Profile) (set aug : List Byte) (h : Held) (box : Int × Int × Int × Int) : List Byte :=
  let g := geometry p box
  let rows := (List.range p.outH).map (fun y => tensorRow p ((List.range p.outW).map (fun x => s.tilePixel S p set aug h g x y)))
  rows.flatMap (·.1) ++ rows.flatMap (·.2)

/-! ### Buffers (R142) -/

def Part.buf (P : Part) (q b : Nat) : BufInfo := tget {} P.bufs (256 * q + b)
def Part.setBuf (P : Part) (q b : Nat) (i : BufInfo) : Part := { P with bufs := tset {} P.bufs (256 * q + b) i }

/-- A slot is filled or masked; the buffer whose last slot it was becomes PREPARED. -/
def State.slotDone (s : State) (p q b slot : Nat) (fq : FQueue) : State :=
  let P := s.part p
  let i := P.buf q b
  let i1 := { i with done := slot :: i.done }
  let s1 := s.setPart p (P.setBuf q b i1)
  if (List.range i.count).all (fun k => i1.done.contains k) then s1.prepareBuf fq b else s1

/-- A slot descriptor (R142). -/
def slotDesc (sitter status entry : Nat) (au capture : U64) : List Byte :=
  leBytes 2 sitter ++ leBytes 1 status ++ [0] ++ leBytes 4 entry ++ leBytes 8 au.toNat ++ leBytes 8 capture.toNat ++ leBytes 8 0

/-! ### FRAMING_SLOT_START -/

/-- x goes before y (R127). -/
def State.slotBefore (s : State) (x y : SlotJob) : Bool :=
  let k (j : SlotJob) : List Nat := [if (s.part j.part).be then 1 else 0, j.deadline.toNat, j.part, j.queue, j.buf, j.slot]
  k x < k y

/-- The pending slot that a framing unit takes next. -/
def State.nextSlot (s : State) : Option SlotJob :=
  s.med.slots.foldl (fun b x => match b with | none => some x | some y => if s.slotBefore x y then some x else some y) none

/-- FRAMING_SLOT_START: a free framing unit takes the next pending slot (R127). -/
def execFramingSlotStart (fu : Nat) (s : State) : Out :=
  if 8 ≤ fu then noUnit
  else if !s.ready || (tget {} s.med.fus fu).job.isSome then .next s
  else
    match s.nextSlot with
    | none => .next s
    | some j =>
      .next { s with med := { s.med with slots := s.med.slots.erase j, fus := tset {} s.med.fus fu { job := some j, on := true } } }

/-! ### FRAMING_SLOT_COMPLETE -/

/-- Status of a slot at its completion (R143). (Log 61 DEDUCED) -/
def State.slotStatus (s : State) (j : SlotJob) : Nat :=
  if j.gone then 4
  else
    match j.staleUs, j.box with
    | some l, none => if staleAt (if (s.part j.part).replay then j.instant else s.tb.time) j.capture l then 2 else 3
    | some l, some _ => if staleAt (if (s.part j.part).replay then j.instant else s.tb.time) j.capture l then 2 else 1
    | none, none => 3
    | none, some _ => 1

/-- A crop has been cut: the picture is released with the last crop of its LAST list (R138). -/
def Sitter.cropCut (S : Sitter) (au : U64) : Sitter :=
  let S1 := { S with held := S.held.map (fun (h : Held) => if h.au = au then { h with crops := h.crops - 1 } else h) }
  if S1.held.any (fun h => h.au = au && h.lastSeen && h.crops = 0) then S1.release au else S1

/-- What the completion of a slot does to its frame and its picture (R138, R143). (Log 61 DEDUCED) -/
def State.slotOutcome (s : State) (j : SlotJob) (status : Nat) (cropStage : Bool) : State :=
  let S := s.sitter j.sitter
  if status = 4 || j.sitter = 0xFFFE then s
  else if j.queue ≠ 0 then s.setSitter j.sitter (S.cropCut j.au)
  else if status = 2 then s.drop j.sitter j.au dropStale origFraming
  else if cropStage then s
  else s.setSitter j.sitter (S.release j.au)

/-- The sitter number of a training sample (R365). -/
def sampleSitter : Nat := 0xFFFE

/-- The picture layout of an adaptation sample (R362): a slot of R104 for a picture of its own size; its slot number is its address. -/
def sampleLayout (w h : Nat) : Sitter := { codec := 2, maxWidth := w, maxHeight := h, bitDepth := 8, slotBytes := 1 }

/-- The layout of the picture that a slot is cut from. -/
def State.layoutOf (s : State) (j : SlotJob) : Sitter :=
  if j.sitter = sampleSitter then sampleLayout j.pic.codedW j.pic.codedH else s.sitter j.sitter

/-- Tensor bytes and status of a slot are written. (Log 103 DESIGN CHOICE) -/
def State.writeSlot (s : State) (j : SlotJob) (f : Framing) (fq : FQueue) (status : Nat) : State :=
  let p := f.profile j.profile
  let S := s.layoutOf j
  let data := match status, j.box with
    | 1, some box => s.slotTensor S p (f.sets.getD p.filterSet []) j.aug j.pic box
    | _, _ => List.replicate p.dataBytes 0
  let clamped := match status, j.box with | 1, some box => (geometry p box).clamped | _, _ => false
  (s.setDevN (fq.slotAddr j.buf j.slot) data).setDevN (fq.descAddr j.buf j.slot + 2) [BitVec.ofNat 8 status, if clamped then 1 else 0]

/-- The range of the picture that a slot is cut from. -/
def State.cutFrom (s : State) (j : SlotJob) : Nat × Nat :=
  let S := s.layoutOf j
  (S.slotAt j.pic.slot, S.slotSize)

/-- FRAMING_SLOT_COMPLETE (R143). A word of the picture that cannot be corrected abandons the slot (R395). -/
def execFramingSlotComplete (fu : Nat) (s : State) : Out :=
  if 8 ≤ fu then noUnit
  else
    let F := tget {} s.med.fus fu
    match F.job with
    | none => .next s
    | some j =>
      if !s.ready then .next s
      else
        let s0 : State := { s with med := { s.med with fus := tset {} s.med.fus fu { F with job := none } } }
        match s0.framing j.part with
        | none => .next s0
        | some f =>
          match f.queues[j.queue]? with
          | none => .next s0
          | some fq =>
            let st := s0.slotStatus j
            .next (s0.unitRead 3 (if st = 1 then [s0.cutFrom j] else []) (fun s =>
              ((s.writeSlot j f fq st).slotOutcome j st f.cropStage).slotDone j.part j.queue j.buf j.slot fq))

/-! ### Reads by MED's engines -/

/-- Windows in which a partition may place what MED reads for it: usable GDDR6 of ACTIVE groups, and the Galleries (R18, R137). -/
def State.medWindow (s : State) (w : Window) : Bool :=
  match w with | .gddr g _ => s.groupState g = 0 | .gallery _ _ => true | _ => false

/-- A range in usable memory within the partition's ranges, in an ACTIVE group. -/
def State.within (s : State) (p a n : Nat) : Bool := rangeIn (a, n) s.medWindow && s.ownsRange p (a, n)

/-! ### CROP_LIST_TAKE (R136 to R140) -/

/-- An entry of a crop list. -/
structure CropEntry where
  box : Int × Int × Int × Int
  buf : Nat
  slot : Nat
  profile : Nat
  rsv : Nat
  aug : Nat
  deriving DecidableEq, Repr

def cropEntry (b : List Byte) : CropEntry :=
  { box := (Int.ofNat (fieldLE b 0 2), Int.ofNat (fieldLE b 2 2), Int.ofNat (fieldLE b 4 2), Int.ofNat (fieldLE b 6 2))
    buf := fieldLE b 8 2, slot := fieldLE b 10 2, profile := fieldLE b 12 1, rsv := fieldLE b 13 1, aug := fieldLE b 14 2 }

/-- wq × scale in signed 32-bit arithmetic (R140); a product beyond it has no stated value. (Log 121 DESIGN CHOICE) -/
def boxProduct (w scale : Nat) : Int := if w * scale < 2 ^ 31 then Int.ofNat (w * scale) else (Config.boxProduct w scale).toInt

/-- One axis of a box scaled about its centre (R140). -/
def scaleAxis (x w : Int) (scale : Nat) : Int × Int :=
  let w1 := rneDiv (boxProduct w.toNat scale) 256
  (x + (w - w1) / 2, w1)

/-- A record with a reserved bit set, or a scale that R139 does not define. (Log 60 DEDUCED) -/
def augBad (b : List Byte) : Bool :=
  fieldLE b 8 2 = 0 || fieldLE b 10 1 / 2 ≠ 0 || fieldLE b 11 1 ≠ 0 || !allZero (fieldBytes b 18 6)

/-- The source box of an entry with its augmentation record; none: empty. -/
def effectiveBox (box : Int × Int × Int × Int) (aug : List Byte) : Option (Int × Int × Int × Int) :=
  let b := if aug.isEmpty then box else (cropEntry aug).box
  let k := if aug.isEmpty then 256 else fieldLE aug 8 2
  let x := scaleAxis b.1 b.2.2.1 k
  let y := scaleAxis b.2.1 b.2.2.2 k
  if b.2.2.1 ≤ 0 || b.2.2.2 ≤ 0 || x.2 ≤ 0 || y.2 ≤ 0 then none else some (x.1, y.1, x.2, y.2)

/-- The slot count of a buffer that an entry names: the program's header when the entry is the first to name it. -/
def State.slotCountOf (s : State) (P : Part) (q b : Nat) (fq : FQueue) : Nat :=
  if s.bufState fq b = 0 then s.devLE (fq.bufAddr b + 8) 2 else (P.buf q b).count

/-- A picture that framing holds: it has left the decoder in output order and is not released (R105, R138). (Log 60 DEDUCED) -/
def Sitter.heldPic (S : Sitter) (au : U64) : Option Held := S.held.find? (fun h => h.au = au && !S.awaitsOutput au)

/-- An entry that breaks R137. (Log 60 DEDUCED) -/
def State.cropBad (s : State) (P : Part) (f : Framing) (q : Nat) (fq : FQueue) (e : CropEntry) : Bool :=
  let n := s.slotCountOf P q e.buf fq
  e.rsv ≠ 0 || f.profiles.length ≤ e.profile || (e.aug ≠ 0xFFFF && (f.augRecords ≤ e.aug || augBad (s.devN (f.aug + 24 * e.aug) 24)))
    || fq.buffers ≤ e.buf
    || 1 < s.bufState fq e.buf || n = 0 || fq.slots < n || n ≤ e.slot
    || (s.bufState fq e.buf = 1 && (P.buf q e.buf).named.contains e.slot) || fq.stride < (f.profile e.profile).slotBytes

def cropEntries (b : List Byte) (n : Nat) : List CropEntry := (List.range n).map (fun i => cropEntry (fieldBytes b (32 + 16 * i) 16))

/-- A malformed list (R137); `a` is its address, `n` its entry count. (Log 60 DEDUCED) -/
def State.cropListBad (s : State) (p : Nat) (f : Framing) (a n : Nat) : Bool :=
  let P := s.part p
  !s.within p a 32 || 4096 < n || !s.within p a (32 + 16 * n)
    || (let b := s.devN a (32 + 16 * n)
        let S := s.sitter (fieldLE b 0 2)
        let q := fieldLE b 4 1
        let es := cropEntries b n
        fieldLE b 5 1 / 2 ≠ 0 || !allZero (fieldBytes b 6 2) || !allZero (fieldBytes b 16 16)
          || S.state = 0 || S.partition ≠ p
          || !(match S.heldPic (BitVec.ofNat 64 (fieldLE b 8 8)) with | some h => !h.lastSeen | none => false)
          || q = 0
          || match f.queues[q]? with
             | none => true
             | some fq => es.any (s.cropBad P f q fq) || hasDup (es.map (fun e => 65536 * e.buf + e.slot)))
where
  hasDup : List Nat → Bool
    | [] => false
    | x :: l => l.contains x || hasDup l

/-- Deadline of a picture's frame: its capture time and its sitter's budget where no sitting has admitted it (R50). -/
def State.heldDeadline (s : State) (n : Nat) (h : Held) : U64 := h.deadline.getD (h.capture + BitVec.ofNat 64 ((s.sitter n).budgetUs * 1000))

/-- An accepted entry: its buffer becomes BUILT, its descriptor is written, and its slot is queued. -/
def State.takeCrop (s : State) (p q : Nat) (f : Framing) (fq : FQueue) (n : Nat) (h : Held) (x : CropEntry × Nat) : State :=
  let e := x.1
  let P := s.part p
  let fresh := s.bufState fq e.buf = 0
  let i : BufInfo := if fresh then { count := s.devLE (fq.bufAddr e.buf + 8) 2 } else P.buf q e.buf
  let s1 := s.setPart p (P.setBuf q e.buf { i with named := e.slot :: i.named })
  let s2 := if fresh then s1.setBufState fq e.buf 1 else s1
  let aug := if e.aug = 0xFFFF then [] else s.devN (f.aug + 24 * e.aug) 24
  let j : SlotJob :=
    { part := p, queue := q, buf := e.buf, slot := e.slot, sitter := n, au := h.au, capture := h.capture, deadline := s.heldDeadline n h
      profile := e.profile, box := effectiveBox e.box aug, aug := aug, pic := h, staleUs := none, sitting := 0, instant := 0 }
  let s3 := s2.setDevN (fq.descAddr e.buf e.slot) (slotDesc n 0 x.2 h.au h.capture)
  { s3 with med := { s3.med with slots := s3.med.slots ++ [j] } }

/-- An accepted list acts: its crops are queued; LAST is noted, and a picture with no crop to cut is released. (Log 60 DEDUCED) -/
def State.takeList (s : State) (p : Nat) (f : Framing) (b : List Byte) : State :=
  let n := fieldLE b 0 2
  let au : U64 := BitVec.ofNat 64 (fieldLE b 8 8)
  let q := fieldLE b 4 1
  let es := cropEntries b (fieldLE b 2 2)
  match (s.sitter n).held.find? (fun h => h.au = au), f.queues[q]? with
  | some h, some fq =>
    let s1 := es.zipIdx.foldl (fun s x => s.takeCrop p q f fq n h x) s
    let S := s1.sitter n
    let last := bitAt (fieldLE b 5 1) 0
    let S1 := { S with held := S.held.map (fun (k : Held) => if k.au = au then { k with crops := k.crops + es.length, lastSeen := k.lastSeen || last } else k) }
    s1.setSitter n (if S1.held.any (fun k => k.au = au && k.lastSeen && k.crops = 0) then S1.release au else S1)
  | _, _ => s

/-- A partition's engines take its requests: it holds a package and does not restart. -/
def Part.serves (P : Part) : Bool := P.pkg.isSome && (P.state = .running || P.state = .ready)

/-- What MED reads of a list of `n` entries: the list, and the augmentation records that it names. -/
def State.cropReads (s : State) (p : Nat) (f : Framing) (a n : Nat) : List (Nat × Nat) :=
  if 4096 < n || !s.within p a (32 + 16 * n) then []
  else (a, 32 + 16 * n) :: ((cropEntries (s.devN a (32 + 16 * n)) n).filter (fun e => e.aug < f.augRecords)).map (fun e => (f.aug + 24 * e.aug, 24))

/-- CROP_LIST_TAKE: the next list of the partition's ring (R136, R137). -/
def execCropListTake (p : Nat) (s : State) : Out :=
  if 16 ≤ p then noUnit
  else
    let P := s.part p
    match s.framing p with
    | none => .next s
    | some f =>
      if !s.ready || !P.serves || f.cropEntries = 0 || s.devLE f.cropProd 4 = P.cropTaken.toNat then .next s
      else
        let at_ := f.cropRing + 8 * (P.cropTaken.toNat % f.cropEntries)
        .next (s.unitRead 3 [(at_, 8)] (fun s =>
          let a := s.devLE at_ 8
          let s1 := s.setPart p { s.part p with cropTaken := P.cropTaken + 1 }
          s1.unitRead 3 (if s1.within p a 32 then [(a, 32)] else []) (fun s =>
            let n := s.devLE (a + 2) 2
            s.unitRead 3 (s.cropReads p f a n) (fun s =>
              if s.cropListBad p f a n then s.partFault p { cause := 4 } else s.takeList p f (s.devN a (32 + 16 * n))))))

/-! ### Motion search (R343, R344) -/

/-- Luma of a held picture reduced to 8 bits. -/
def State.luma8 (s : State) (S : Sitter) (h : Held) (x y : Int) : Int := clampI (rneDiv (s.luma10 S h x y) 4) 0 255

/-- Level l of a picture's pyramid, its reads clamped to the edges. (Log 63 DEDUCED) -/
def State.pyramid (s : State) (S : Sitter) (h : Held) : Nat → Int → Int → Int
  | 0, x, y => s.luma8 S h x y
  | l + 1, x, y =>
    let cx := Int.ofNat (edge x (ceilDiv h.dispW (2 ^ (l + 1))))
    let cy := Int.ofNat (edge y (ceilDiv h.dispH (2 ^ (l + 1))))
    let p := s.pyramid S h l
    (p (2 * cx) (2 * cy) + p (2 * cx + 1) (2 * cy) + p (2 * cx) (2 * cy + 1) + p (2 * cx + 1) (2 * cy + 1) + 2) / 4

/-- sad (R344). -/
def State.flowSad (s : State) (S : Sitter) (cur ref : Held) (l bx by_ : Nat) (v : Int × Int) : Nat :=
  let cx := Int.ofNat ((8 * bx + 4) / 2 ^ l)
  let cy := Int.ofNat ((8 * by_ + 4) / 2 ^ l)
  ((List.range 64).map (fun k =>
    let i := Int.ofNat (k % 8) - 4
    let j := Int.ofNat (k / 8) - 4
    (s.pyramid S cur l (cx + i) (cy + j) - s.pyramid S ref l (cx + i + v.1) (cy + j + v.2)).natAbs)).foldl (· + ·) 0

/-- best (R344): least SAD, then least |vx| + |vy|, then least vy, then least vx; none of an empty set. -/
def flowBest (sad : Int × Int → Nat) (l : List (Int × Int)) : Option (Int × Int) :=
  l.foldl (fun b v => match b with
    | none => some v
    | some w =>
      let k (u : Int × Int) : List Int := [Int.ofNat (sad u), Int.ofNat (u.1.natAbs + u.2.natAbs), u.2, u.1]
      if k v < k w then some v else some w) none

def around (r : Nat) (c : Int × Int) : List (Int × Int) :=
  (List.range (2 * r + 1)).flatMap (fun y => (List.range (2 * r + 1)).map (fun x =>
    (c.1 + Int.ofNat x - Int.ofNat r, c.2 + Int.ofNat y - Int.ofNat r)))

/-- Luma of a picture's display window. -/
def State.lumaOf (s : State) (S : Sitter) (h : Held) : List Int :=
  (List.range h.dispH).flatMap (fun y => (List.range h.dispW).map (fun x => s.luma8 S h (Int.ofNat x) (Int.ofNat y)))

/-- The vector of a block. At the end of the range R344's last set can be empty: the vector is then a free function of the two pictures, as
the field is. (Log 132 DESIGN CHOICE) -/
def State.flowVector (s : State) (S : Sitter) (cur ref : Held) (bx by_ i : Nat) : Int × Int :=
  let v2 := (flowBest (s.flowSad S cur ref 2 bx by_) (around 64 (0, 0))).getD (0, 0)
  let v1 := (flowBest (s.flowSad S cur ref 1 bx by_) (around 2 (2 * v2.1, 2 * v2.2))).getD (0, 0)
  let c0 := (around 2 (2 * v1.1, 2 * v1.2)).filter (fun v => v.1.natAbs ≤ 256 && v.2.natAbs ≤ 256)
  match flowBest (s.flowSad S cur ref 0 bx by_) c0 with
  | some v => v
  | none =>
    let x := Config.flowOpen i (s.lumaOf S cur) (s.lumaOf S ref)
    (i16Of (x.toNat % 65536), i16Of (x.toNat / 65536 % 65536))

/-- No block of the window is CONCEALED in the current picture. -/
def State.flowValid (s : State) (S : Sitter) (h : Held) (bx by_ : Nat) : Bool :=
  let at_ (x y : Nat) : Bool :=
    let X := (h.dispX + min x (h.dispW - 1)) / 16
    let Y := (h.dispY + min y (h.dispH - 1)) / 16
    bitAt (s.devLE (S.slotAt h.slot + S.blocksOff + 8 * (Y * ceilDiv h.codedW 16 + X) + 7) 1) 2
  !(at_ (8 * bx) (8 * by_) || at_ (8 * bx + 7) (8 * by_) || at_ (8 * bx) (8 * by_ + 7) || at_ (8 * bx + 7) (8 * by_ + 7))

/-- Blocks of a flow field. -/
def flowCols (h : Held) : Nat := ceilDiv h.dispW 8
def flowBlocks (h : Held) : Nat := flowCols h * ceilDiv h.dispH 8

/-- The flow field of two pictures. -/
def State.flowField (s : State) (S : Sitter) (cur ref : Held) : List Byte :=
  (List.range (flowBlocks cur)).flatMap (fun i =>
    let bx := i % flowCols cur
    let by_ := i / flowCols cur
    let v := s.flowVector S cur ref bx by_ i
    i16Bytes v.1 ++ i16Bytes v.2 ++ leBytes 2 (s.flowSad S cur ref 0 bx by_ v) ++ leBytes 2 (if s.flowValid S cur bx by_ then 1 else 0))

/-- The completion flag of a request: an offset in the Gallery that holds the producer word; 0 for none. (Log 63 DEDUCED) -/
def flowFlag (f : Framing) (off : Nat) : Option Nat :=
  if off = 0 then none else match windowOf f.flowProd with | .gallery d _ => some (galleryBase d + off) | _ => none

/-- A well-formed flow request as a job; none: malformed (R343). (Log 63 DEDUCED) -/
def State.flowJob (s : State) (p : Nat) (f : Framing) (b : List Byte) : Option FlowJob :=
  let n := fieldLE b 0 2
  let S := s.sitter n
  let dst := fieldLE b 24 8
  let flag := flowFlag f (fieldLE b 4 4)
  match S.heldPic (BitVec.ofNat 64 (fieldLE b 8 8)), S.heldPic (BitVec.ofNat 64 (fieldLE b 16 8)) with
  | some cur, some ref =>
    if S.state = 0 || S.partition ≠ p || !allZero (fieldBytes b 2 2) || dst % 64 ≠ 0 || !s.within p dst (8 * flowBlocks cur)
        || (match flag with | some a => decide (a % 8 ≠ 0) || !s.within p a 8 | none => false) then none
    else some { part := p, sitter := n, flag := flag, cur := cur.au, ref := ref.au, dst := BitVec.ofNat 64 dst, field := s.flowField S cur ref }
  | _, _ => none

/-- The slots of a job's two pictures. -/
def State.flowReads (s : State) (j : FlowJob) : List (Nat × Nat) :=
  let S := s.sitter j.sitter
  (S.held.filter (fun h => h.au = j.cur || h.au = j.ref)).map (fun h => S.slotRange h.slot)

/-- FLOW_REQUEST_TAKE: a free engine takes the partition's next request (R343). -/
def execFlowRequestTake (ms p : Nat) (s : State) : Out :=
  if 2 ≤ ms || 16 ≤ p then noUnit
  else
    let P := s.part p
    match s.framing p with
    | none => .next s
    | some f =>
      if !s.ready || !P.serves || (tget {} s.med.mss ms).job.isSome || f.flowEntries = 0 || s.devLE f.flowProd 4 = P.flowTaken.toNat then .next s
      else
        let at_ := f.flowRing + 8 * (P.flowTaken.toNat % f.flowEntries)
        .next (s.unitRead 3 [(at_, 8)] (fun s =>
          let a := s.devLE at_ 8
          let s1 := s.setPart p { s.part p with flowTaken := P.flowTaken + 1 }
          if !s1.within p a 32 then s1.partFault p { cause := 4 }
          else
            s1.unitRead 3 [(a, 32)] (fun s =>
              match s.flowJob p f (s.devN a 32) with
              | none => s.partFault p { cause := 4 }
              | some j =>
                -- the engine reads both pictures
                s.unitRead 3 (s.flowReads j) (fun s => { s with med := { s.med with mss := tset {} s.med.mss ms { job := some j, on := true } } }))))

/-- FLOW_COMPLETE: the field and then the completion flag are written (R343, R344). -/
def execFlowComplete (ms : Nat) (s : State) : Out :=
  if 2 ≤ ms then noUnit
  else
    let M := tget {} s.med.mss ms
    match M.job with
    | none => .next s
    | some j =>
      if !s.ready then .next s
      else
        let s1 : State := { s with med := { s.med with mss := tset {} s.med.mss ms { M with job := none } } }
        let s2 := s1.setDevN j.dst.toNat j.field
        .next (match j.flag with
          | none => s2
          | some a => s2.setDevN (a + 4) (leBytes 4 (1 + j.cur.toNat % 2 ^ 31)))

/-! ### PBQ_MARK (R145) -/

def frmMarkBad : Nat := 0x0801

/-- PBQ_MARK replaces a queue's low-water mark. (Log 62 DEDUCED) -/
def execPbqMark (q : Nat) (n : U32) (s : State) : Out :=
  command q n 0x0034 s (fun e _ =>
    let p := bits e.arg0.toNat 3 0
    let k := bits e.arg0.toNat 9 8
    let m := bits e.arg0.toNat 24 16
    let ok := match s.framing p with
      | none => false
      | some f => match f.queues[k]? with | none => false | some fq => decide (m ≤ fq.buffers)
    if !ok then (s, frmMarkBad, 0) else (s.setPart p { s.part p with marks := tinsert (s.part p).marks k m }, 0, 0))

end Sys2Proof.Machine
end

