-- ==== Sys2Proof/Machine/Ateliers.lean ====
section
/-!
DEFINITION. Atelier descriptors and their commands (R27 to R29).
-/
namespace Sys2Proof.Machine

/-- Fields of a 192-byte descriptor (R28); computed fields are ignored. -/
structure AtlDesc where
  id      : Nat
  count   : Nat
  entry   : Nat
  members : List Nat
  /-- a reserved byte, flag bit or member bit is not 0, or a member stands at or beyond the count -/
  rsvBad  : Bool
  deriving DecidableEq, Repr

def decodeAtelier (b : List Byte) : AtlDesc :=
  let count := fieldLE b 2 1
  let refs := (List.range 64).map (fun i => fieldLE b (64 + 2 * i) 2)
  { id := fieldLE b 0 1, count := count, entry := fieldLE b 4 4, members := refs.take count
    rsvBad := fieldLE b 14 2 / 2 ≠ 0 || !allZero (fieldBytes b 20 44) || (refs.drop count).any (· ≠ 0) || refs.any (fun r => bits r 14 8 ≠ 0) }

/-- The loader defined a descriptor (R35). -/
def State.byLoader (s : State) (id : Nat) : Bool := match tfind s.ateliers id with | some a => a.loader.isSome | none => false

/-- An atelier's state is 2: a partition holds it (R28). -/
def State.bound (s : State) (id : Nat) : Bool := s.partIds.any (fun p => s.holds p id)

/-- The 192-byte descriptor of an atelier, its computed fields included (R28). -/
def State.atelierBytes (s : State) (id : Nat) : List Byte :=
  let u := 0x8000 + id
  let l := s.expansion u
  let m := (s.members id).getD []
  let st := if s.bound id then 2 else if (s.members id).isSome then 1 else 0
  let held := (s.partIds.filter (fun p => s.holds p id)).foldl min 0xFF
  leBytes 1 id ++ leBytes 1 st ++ leBytes 1 m.length ++ leBytes 1 (if st = 2 then held else 0xFF) ++ leBytes 4 (s.defaultEntry u)
    ++ leBytes 2 l.length ++ leBytes 2 (s.lead u) ++ leBytes 1 (s.depthOf 257 u)
    ++ leBytes 1 (((List.range 6).filter (fun d => l.any (fun e => dieOf e = d))).map (2 ^ ·)).sum
    ++ leBytes 2 (if id < 31 then 1 else 0) ++ leBytes 4 (tget 0 s.mem.barGen u).toNat ++ List.replicate 44 0
    ++ (List.range 64).flatMap (fun i => leBytes 2 (m.getD i 0))

/-- A descriptor in force. -/
def State.setAtelier (s : State) (d : AtlDesc) (loader : Option Nat) : State :=
  { s with ateliers := tinsert s.ateliers d.id { entry := d.entry, members := d.members.map (BitVec.ofNat 16), loader := loader } }

/-- A member that no descriptor may name: an undefined Easel, a free atelier, or for ATL_SET one that the loader defined. -/
def State.badMember (s : State) (loader : Bool) (m : Nat) : Bool :=
  if m < 0x8000 then 192 ≤ m else !s.unitOk m || (!loader && s.byLoader (m - 0x8000))

/-- Ateliers that reach a descriptor through their members. -/
def State.enclosing (s : State) (id : Nat) : List Nat :=
  (s.ateliers.map (·.1)).filter (fun x => x ≠ id && (s.ateliersIn 257 (0x8000 + x)).contains id)

/-- An Easel appears twice in a list of leaves. -/
def hasDup : List Nat → Bool
  | [] => false
  | a :: l => l.contains a || hasDup l

/-- The first error of R29 in a descriptor; `loader` for a descriptor of a package's ATELIERS section. -/
def State.atelierError (s : State) (d : AtlDesc) (loader : Bool) : Nat :=
  if d.id < 31 then 0x0401
  else if d.rsvBad then 0x0409
  else if (if loader then (s.members d.id).isSome else s.byLoader d.id) then 0x040A
  else if d.count = 0 || 64 < d.count then 0x0402
  else if d.members.any (s.badMember loader) then 0x0403
  else if d.members.any (fun m => (s.ateliersIn 257 m).contains d.id) then 0x0404
  else
    let s1 := s.setAtelier d none
    if hasDup (s1.expansion (0x8000 + d.id)) || (s.enclosing d.id).any (fun x => hasDup (s1.expansion (0x8000 + x))) then 0x0405
    else if d.entry % 4 ≠ 0 || 0x10000 ≤ d.entry then 0x0406
    else if s.bound d.id then 0x0407
    else 0

/-- ATL_SET (R29). -/
def execAtlSet (q : Nat) (n : U32) (s : State) : Out :=
  command q n 0x0010 s (fun e b =>
    let d := decodeAtelier b
    let c := s.atelierError d false
    config s e b 0xFFFF (if c ≠ 0 then .error c else .ok (s.setAtelier d none)))

/-- The first error of ATL_DELETE (R29). -/
def State.atelierDeleteError (s : State) (id : Nat) : Nat :=
  if id < 31 then 0x0401
  else if s.byLoader id then 0x040A
  else if s.bound id then 0x0407
  else if s.ateliers.any (fun x => x.2.members.any (fun m => m.toNat = 0x8000 + id)) then 0x0408
  else 0

/-- A descriptor freed, with its barrier state. -/
def State.freeAtelier (s : State) (id : Nat) : State :=
  { s with ateliers := terase s.ateliers id
           mem := { s.mem with arrived := terase s.mem.arrived (0x8000 + id), barGen := terase s.mem.barGen (0x8000 + id) } }

/-- ATL_DELETE: a free descriptor stays free (R29). -/
def execAtlDelete (q : Nat) (n : U32) (s : State) : Out :=
  command q n 0x0011 s (fun e b =>
    let id := e.arg0.toNat % 256
    let c := s.atelierDeleteError id
    config s e b 0xFFFF (if c ≠ 0 then .error c else .ok (s.freeAtelier id)))

end Sys2Proof.Machine
end

