-- ==== Sys2Proof/Machine/PkgCheck.lean ====
section
/-!
DEFINITION. The loader's checks of a package's contents, in the order of R311, with the failure report of R312.
-/
namespace Sys2Proof.Machine

/-- A failed check. A limit or a found value that the manual does not name is none. -/
structure Fail where
  code   : Nat
  sect   : Nat := 0xFFFF
  item   : Nat := 0
  limit  : Option Nat := none
  found  : Option Nat := none
  detail : Nat := 0
  deriving DecidableEq, Repr

/-- A check: what fails, if it does. -/
abbrev Chk := Option Fail

def need (ok : Bool) (f : Fail) : Chk := if ok then none else some f

/-- The first check that fails. -/
def firstFail : List Chk → Chk
  | [] => none
  | some f :: _ => some f
  | none :: l => firstFail l

/-- Reserved fields (R5): 0 is required, and the first other value is what was found. -/
def zeros (f : Fail) (l : List Nat) : Chk := firstFail (l.map (fun v => need (v = 0) { f with limit := some 0, found := some v }))

/-- Reserved bytes in words of 8. -/
def wordsAt (b : List Byte) (o n : Nat) : List Nat := (List.range ((n + 7) / 8)).map (fun i => fieldLE b (o + 8 * i) (min 8 (n - 8 * i)))

/-- Table index, and contents, of the section of a kind and index. -/
def secIx (b : List Byte) (kind index : Nat) : Nat := (pkgSections b).findIdx (fun s => s.kind = kind && s.index = index)
def secs (b : List Byte) (kind : Nat) : List (Section × Nat) := (pkgSections b).zipIdx.filter (fun x => x.1.kind = kind)

/-! ### PKG_FORMAT, PKG_DIGEST, PKG_SECTION (R289, R290) -/

def chkFormat (b : List Byte) (len0 : Nat) : Chk :=
  let f (l v : Nat) : Fail := { code := 0x0901, limit := some l, found := some v }
  let n := fieldLE b 6 2
  let len := fieldLE b 8 8
  firstFail [
    need (fieldLE b 0 4 = 0x4B504B59) (f 0x4B504B59 (fieldLE b 0 4)), need (fieldLE b 4 2 = 1) (f 1 (fieldLE b 4 2)),
    need (1 ≤ n) (f 1 n), need (n ≤ 512) (f 512 n), need (len = len0) (f len0 len), need (4096 ≤ len) (f 4096 len), need (len ≤ 2 ^ 30) (f (2 ^ 30) len),
    need (fieldLE b 48 4 < 2) (f 1 (fieldLE b 48 4)), zeros { code := 0x0901 } (wordsAt b 52 12)]

def chkDigest (b : List Byte) : Chk := need (fieldBytes b 16 32 = digest (b.drop 64)) { code := 0x0902 }

/-- One section table entry. -/
def chkEntry (b : List Byte) (x : Section × Nat) : Chk :=
  let s := x.1
  let f : Fail := { code := 0x0903, sect := x.2 }
  let n := fieldLE b 6 2
  firstFail [
    need ((1 ≤ s.kind && s.kind ≤ 0x0C) || 0x80 ≤ s.kind) { f with found := some s.kind }, zeros f s.rsv,
    need (s.index = 0 || s.kind = 2 || s.kind = 3 || s.kind = 0x0C) { f with limit := some 0, found := some s.index },
    need (s.off % 64 = 0) { f with found := some s.off }, need (64 + 32 * n ≤ s.off) { f with limit := some (64 + 32 * n), found := some s.off },
    need (1 ≤ s.bytes) { f with limit := some 1, found := some s.bytes },
    need (s.off + s.bytes ≤ b.length) { f with limit := some b.length, found := some (s.off + s.bytes) },
    need (!((pkgSections b).take x.2).any (fun y => rangesMeet (y.off, y.bytes) (s.off, s.bytes))) { f with found := some s.off }]

/-- How often a kind must stand in a package. -/
def chkCount (b : List Byte) (kind lo hi : Nat) : Chk :=
  let k := (secs b kind).length
  firstFail [need (lo ≤ k) { code := 0x0903, limit := some lo, found := some k }, need (k ≤ hi) { code := 0x0903, limit := some hi, found := some k }]

/-- Sections of a kind that stand for stages: within the stages, at most one each; `all`: one for each. -/
def chkStageSecs (b : List Byte) (kind stages : Nat) (all : Bool) : Chk :=
  let l := secs b kind
  firstFail (l.map (fun x => firstFail [
      need (x.1.index < stages) { code := 0x0903, sect := x.2, limit := some (stages - 1), found := some x.1.index },
      need (!l.any (fun y => y.2 < x.2 && y.1.index = x.1.index)) { code := 0x0903, sect := x.2, found := some x.1.index }])
    ++ [need (!all || l.length = stages) { code := 0x0903, limit := some stages, found := some l.length }])

def chkSections (b : List Byte) : Chk :=
  let n := fieldLE (((secs b 1).map (fun x => leBytes 8 (x.1.bytes / 32))).headD []) 0 8
  let w := secs b 3
  firstFail ((pkgSections b).zipIdx.map (chkEntry b) ++ [1, 4, 5, 6, 7, 8, 0x0B].map (fun k => chkCount b k 1 1) ++ [9, 0x0A].map (fun k => chkCount b k 0 1)
    ++ [chkCount b 3 1 64]
    ++ w.map (fun x => need (!w.any (fun y => y.2 < x.2 && y.1.index = x.1.index)) { code := 0x0903, sect := x.2, found := some x.1.index })
    ++ [chkStageSecs b 2 n true, chkStageSecs b 0x0C n false])

/-- TRAINING needs the adaptation licence. -/
def pkgTraining (b : List Byte) : Bool := bitAt (fieldLE b 48 4) 0
def State.chkLicence (s : State) (b : List Byte) : Chk := need (!pkgTraining b || s.sec.features.getLsbD 1) { code := 0x0904 }

/-! ### Stages, code and local store (R291, R155, R296) -/

def chkStage (b : List Byte) (l : List StageDef) (x : StageDef × Nat) : Chk :=
  let t := x.1
  let f : Fail := { code := 0x0905, sect := secIx b 1 0, item := x.2 }
  let lim (a v : Nat) : Fail := { f with limit := some a, found := some v }
  let prev := match l[x.2 - 1]? with | some p => if x.2 = 0 then 0 else p.last | none => 0
  firstFail [
    need (t.map ≤ 1) (lim 1 t.map), need (1 ≤ t.wMin) (lim 1 t.wMin), need (t.wMin ≤ 192) (lim 192 t.wMin), need (t.wMin ≤ t.wMax) (lim t.wMin t.wMax),
    need (t.wMax ≤ 192) (lim 192 t.wMax), need (t.map = 1 || t.wMax = t.wMin) (lim t.wMin t.wMax), need (prev < t.first) (lim (prev + 1) t.first),
    need (t.first ≤ t.last) (lim t.first t.last), need (t.diePref ≤ 5 || t.diePref = 0xFF) { f with found := some t.diePref },
    need (t.entry % 4 = 0) { f with found := some t.entry }, need (10 ≤ t.watchdog) (lim 10 t.watchdog),
    need (t.watchdog ≤ 1000000) (lim 1000000 t.watchdog), zeros f t.rsv]

def chkStages (b : List Byte) : Chk :=
  let t := pkgSection b 1 0
  let l := pkgStages b
  firstFail (need (t.length % 32 = 0) { code := 0x0905, sect := secIx b 1 0, found := some t.length }
    :: need (1 ≤ l.length) { code := 0x0905, sect := secIx b 1 0, limit := some 1, found := some l.length }
    :: need (l.length ≤ 192) { code := 0x0905, sect := secIx b 1 0, limit := some 192, found := some l.length } :: l.zipIdx.map (chkStage b l))

def codeBytes : Nat := 0xE000

def chkCode (b : List Byte) : Chk :=
  firstFail ((pkgStages b).zipIdx.map (fun x =>
    let n := (pkgSection b 2 x.2).length
    let f : Fail := { code := 0x0906, sect := secIx b 2 x.2, item := x.2 }
    firstFail [need (n ≤ codeBytes) { f with limit := some codeBytes, found := some n }, need (x.1.entry < n) { f with limit := some n, found := some x.1.entry }]))

/-- Entries of the DESCRIPTORS section. -/
def descCount (b : List Byte) : Nat := (pkgSection b 4 0).length / 40

/-- End of the local store that a stage may use. -/
def stageRoom (b : List Byte) : Nat := 0x1FF000 - 32 * descCount b

def chkLocal (b : List Byte) : Chk :=
  firstFail ((pkgStages b).zipIdx.map (fun x =>
    let n := (pkgSection b 0x0C x.2).length
    firstFail [
      need (x.1.localBytes + 32 * descCount b ≤ 0x1FF000)
        { code := 0x0907, sect := secIx b 1 0, item := x.2, limit := some (stageRoom b), found := some x.1.localBytes },
      need (n ≤ x.1.localBytes) { code := 0x0907, sect := secIx b 0x0C x.2, item := x.2, limit := some x.1.localBytes, found := some n }]))

/-! ### Regions and descriptors (R294, R290) -/

def isPow2 (n : Nat) : Bool := (List.range 32).any (fun i => n = 2 ^ i)

def chkRegion (b : List Byte) (x : RegionDef × Nat) : Chk :=
  let r := x.1
  let f : Fail := { code := 0x0908, sect := secIx b 6 0, item := x.2 }
  let lim (a v : Nat) : Fail := { f with limit := some a, found := some v }
  let n := (pkgStages b).length
  firstFail [
    need (r.kind ≤ 4) (lim 4 r.kind), need (r.kind ≠ 0 || r.stage = 0xFF) (lim 0xFF r.stage), need (r.kind = 0 || r.stage < n) (lim (n - 1) r.stage),
    need (isPow2 r.align) { f with found := some r.align }, need (64 ≤ r.align) (lim 64 r.align), need (r.align ≤ 0x200000) (lim 0x200000 r.align),
    need (r.kind ≠ 2 || 2048 ≤ r.align) (lim 2048 r.align), need (r.bytes % 64 = 0) { f with found := some r.bytes },
    need (64 ≤ r.bytes) (lim 64 r.bytes), zeros f r.rsv]

def chkRegions (b : List Byte) : Chk :=
  let t := pkgSection b 6 0
  let l := pkgRegions b
  let f : Fail := { code := 0x0908, sect := secIx b 6 0 }
  firstFail (need (t.length % 32 = 0) { f with found := some t.length } :: need (1 ≤ l.length) { f with limit := some 1, found := some l.length }
    :: need (l.length ≤ 512) { f with limit := some 512, found := some l.length } :: l.zipIdx.map (chkRegion b))

/-- An entry of the DESCRIPTORS section: region, reserved bytes clear, and the descriptor with its base as an offset. -/
structure DescEntry where
  region : Nat
  clear  : List Nat
  bytes  : List Byte
  deriving DecidableEq, Repr

def DescEntry.desc (d : DescEntry) : TDesc := decodeDesc (BitVec.ofNat 256 (leNat d.bytes))

def pkgDescs (b : List Byte) : List DescEntry :=
  let t := pkgSection b 4 0
  (List.range (t.length / 40)).map (fun i =>
    { region := fieldLE t (40 * i) 2, clear := [fieldLE t (40 * i + 2) 6], bytes := fieldBytes t (40 * i + 8) 32 })

/-- End of a whole allocation (R271), from a base of `t.base`. -/
def descEnd (t : TDesc) : Nat :=
  if t.glaze ≠ 0 then headerPlane t + descRows t * t.dim0 / 64
  else if t.eMax ≠ 0 then listPlane t + 8 * t.eMax * descRows t
  else if t.rowScale then scalePlane t + 4 * descRows t
  else t.base + 64 * t.stride3 * t.dim3

/-- The first of checks 0x01 to 0x05 of R285 that a descriptor fails; 0: none. -/
def descError (t : TDesc) : Nat :=
  if dFormat t then 1 else if dMode t then 2 else if dExtent t then 3 else if dStride t then 4 else if dAlign t 0 0 0 0 then 5 else 0

def chkDesc (b : List Byte) (rs : List RegionDef) (x : DescEntry × Nat) : Chk :=
  let d := x.1
  let t := d.desc
  let f : Fail := { code := 0x0909, sect := secIx b 4 0, item := x.2 }
  let size := match rs[d.region]? with | some r => r.bytes | none => 0
  firstFail [
    need (d.region < rs.length) { f with limit := some (rs.length - 1), found := some d.region }, zeros f d.clear,
    need (t.base % 64 = 0) { f with limit := some 64, found := some t.base }, need (descError t = 0) { f with detail := descError t },
    need (descEnd t ≤ size) { f with limit := some size, found := some (descEnd t) }]

def chkDescs (b : List Byte) : Chk :=
  firstFail (need ((pkgSection b 4 0).length % 40 = 0) { code := 0x0909, sect := secIx b 4 0, found := some (pkgSection b 4 0).length }
    :: (pkgDescs b).zipIdx.map (chkDesc b (pkgRegions b)))

/-! ### Weights (R223, R297) -/

/-- A layer number lies in some stage's range (R291). -/
def inStage (b : List Byte) (layer : Nat) : Bool := (pkgStages b).any (fun t => t.first ≤ layer && layer ≤ t.last)

/-- A weight tensor entry. -/
structure WTensor where
  layer  : Nat
  format : Nat
  rsv    : List Nat
  cOut   : Nat
  elems  : Nat
  rowBytes : Nat
  codes  : Nat
  scales : Nat
  biases : Nat
  deriving DecidableEq, Repr

def wTensor (w : List Byte) (i : Nat) : WTensor :=
  let o := 32 + 32 * i
  { layer := fieldLE w o 1, format := fieldLE w (o + 1) 1, rsv := [fieldLE w (o + 2) 2, fieldLE w (o + 28) 4], cOut := fieldLE w (o + 4) 4
    elems := fieldLE w (o + 8) 4, rowBytes := fieldLE w (o + 12) 4, codes := fieldLE w (o + 16) 4, scales := fieldLE w (o + 20) 4
    biases := fieldLE w (o + 24) 4 }

def noArea : Nat := 0xFFFFFFFF

/-- Bytes of a row's codes. -/
def WTensor.codeBytes (t : WTensor) : Nat := unitsOf t.format t.elems * unitBytes t.format

/-- BF16 and F32 weights carry no scales. -/
def WTensor.floating (t : WTensor) : Bool := t.format = 5 || t.format = 7

/-- The areas of a tensor within the section. -/
def WTensor.areas (t : WTensor) : List (Nat × Nat) :=
  (t.codes, t.cOut * t.rowBytes) :: (if t.scales = noArea then [] else [(t.scales, 4 * t.cOut)])
    ++ (if t.biases = noArea then [] else [(t.biases, 4 * t.cOut)])

/-- The codes of a row, as their bit patterns. -/
def rowCodes (t : WTensor) (row : List Byte) : List Nat :=
  if t.format = 2 then (List.range t.elems).map (fun i => fieldLE row (i / 2) 1 / 16 ^ (i % 2) % 16) else (row.take t.elems).map BitVec.toNat

/-- The code that no tensor of a format may hold (R223). -/
def badCode (format : Nat) : Option Nat := if format = 0 then some 0x80 else if format = 2 then some 8 else none

/-- The values of a tensor's areas: scales, biases, the bytes after each row's codes, and the codes. -/
def chkValues (w : List Byte) (t : WTensor) (f : Fail) : List Chk :=
  (if t.scales = noArea then [] else (List.range t.cOut).map (fun i =>
    let v := fieldLE w (t.scales + 4 * i) 4
    need (v ≤ 0x7F7FFFFF) { f with limit := some 0x7F7FFFFF, found := some v }))
  ++ (if t.biases = noArea then [] else (List.range t.cOut).map (fun i =>
    let v := fieldLE w (t.biases + 4 * i) 4
    need (bits v 30 23 ≠ 255) { f with found := some v }))
  ++ (List.range t.cOut).map (fun i =>
    let row := fieldBytes w (t.codes + i * t.rowBytes) t.rowBytes
    firstFail [zeros f ((row.drop t.codeBytes).map BitVec.toNat),
      match badCode t.format with | some c => need (!(rowCodes t row).contains c) { f with found := some c } | none => none])

def chkWTensor (b w : List Byte) (sect : Nat) (earlier : List (Nat × Nat)) (i : Nat) : Chk :=
  let t := wTensor w i
  let f : Fail := { code := 0x090A, sect := sect, item := i }
  let lim (a v : Nat) : Fail := { f with limit := some a, found := some v }
  let as := t.areas
  firstFail ([
    need (inStage b t.layer) { f with found := some t.layer }, need ([0, 2, 3, 4, 5, 7].contains t.format) { f with found := some t.format }, zeros f t.rsv,
    need (1 ≤ t.cOut) (lim 1 t.cOut), need (t.cOut ≤ 65535) (lim 65535 t.cOut), need (1 ≤ t.elems) (lim 1 t.elems), need (t.elems ≤ 16777216) (lim 16777216 t.elems),
    need (t.rowBytes % 64 = 0) { f with found := some t.rowBytes }, need (t.codeBytes ≤ t.rowBytes) (lim t.codeBytes t.rowBytes),
    need (t.codes % 64 = 0) { f with found := some t.codes }, need (if t.floating then t.scales = noArea else t.scales % 64 = 0) { f with found := some t.scales },
    need (t.biases = noArea || t.biases % 64 = 0) { f with found := some t.biases }]
    ++ as.map (fun a => need (a.1 + a.2 ≤ w.length) (lim w.length (a.1 + a.2)))
    ++ as.zipIdx.map (fun a => need (!(earlier ++ as.take a.2).any (fun e => rangesMeet e a.1)) { f with found := some a.1.1 })
    ++ chkValues w t f)

/-- A WEIGHTS section; `taken`: regions that other WEIGHTS sections name. -/
def chkWeights (b w : List Byte) (sect : Nat) (taken : List Nat) : Chk :=
  let rs := pkgRegions b
  let r := fieldLE w 0 2
  let n := fieldLE w 2 2
  let f : Fail := { code := 0x090A, sect := sect }
  let size := match rs[r]? with | some x => if x.kind = 0 then x.bytes else 0 | none => 0
  firstFail ([
    need (32 ≤ w.length) { f with limit := some 32, found := some w.length }, zeros f (wordsAt w 4 28),
    need (r < rs.length) { f with limit := some (rs.length - 1), found := some r },
    need (match rs[r]? with | some x => x.kind = 0 | none => false) { f with found := some r }, need (!taken.contains r) { f with found := some r },
    need (w.length ≤ size) { f with limit := some w.length, found := some size }, need (1 ≤ n) { f with limit := some 1, found := some n },
    need (n ≤ 1024) { f with limit := some 1024, found := some n }, need (32 + 32 * n ≤ w.length) { f with limit := some w.length, found := some (32 + 32 * n) }]
    ++ (List.range n).map (fun i => chkWTensor b w sect ((0, 32 + 32 * n) :: (List.range i).flatMap (fun j => (wTensor w j).areas)) i))

def chkAllWeights (b : List Byte) : Chk :=
  let l := secs b 3
  let reg (x : Section × Nat) : Nat := fieldLE (pkgSection b 3 x.1.index) 0 2
  firstFail (l.map (fun x => chkWeights b (pkgSection b 3 x.1.index) x.2 ((l.filter (fun y => y.2 < x.2)).map reg)))

/-! ### Quantisation, segments (R299, R298) -/

def chkQuant (b : List Byte) : Chk :=
  let q := pkgSection b 8 0
  let n := fieldLE q 0 2
  let ds := pkgDescs b
  let f : Fail := { code := 0x090B, sect := secIx b 8 0 }
  let k (i : Nat) : Nat := fieldLE q (16 + 16 * i) 2
  firstFail ([
    need (n ≤ 4096) { f with limit := some 4096, found := some n }, need (q.length = 16 + 16 * n) { f with limit := some (16 + 16 * n), found := some q.length },
    zeros f (wordsAt q 2 14)]
    ++ (List.range n).map (fun i =>
      let o := 16 + 16 * i
      let f : Fail := { f with item := i }
      let e := fieldLE q (o + 2) 1
      firstFail [
        need (k i < ds.length) { f with limit := some (ds.length - 1), found := some (k i) }, need (!(List.range i).any (fun j => k j = k i)) { f with found := some (k i) },
        need ([0, 1, 2, 4, 8].contains e) { f with found := some e },
        need (match ds[k i]? with | some d => d.desc.format = 0 | none => false)
          { f with limit := some 0, found := (ds[k i]?).map (fun (d : DescEntry) => d.desc.format) },
        need (match ds[k i]? with | some d => d.desc.eMax = e | none => false)
          { f with limit := (ds[k i]?).map (fun (d : DescEntry) => d.desc.eMax), found := some e },
        need (tauOk (BitVec.ofNat 32 (fieldLE q (o + 4) 4))) { f with found := some (fieldLE q (o + 4) 4) },
        zeros f [fieldLE q (o + 3) 1, fieldLE q (o + 8) 8]]))

/-- A layer entry of the SEGMENTS section. -/
structure SegLayer where
  layer : Nat
  kind  : Nat
  count : Nat
  first : Nat
  reduction : Nat
  rsv   : Nat
  deriving DecidableEq, Repr

def pkgSegLayers (b : List Byte) : List SegLayer :=
  let t := pkgSection b 7 0
  (List.range (fieldLE t 0 2)).map (fun i =>
    let o := 16 + 16 * i
    { layer := fieldLE t o 1, kind := fieldLE t (o + 1) 1, count := fieldLE t (o + 2) 2, first := fieldLE t (o + 4) 4
      reduction := fieldLE t (o + 8) 4, rsv := fieldLE t (o + 12) 4 })

/-- Segments cover a reduction once each in ascending order: entries n on, from reduction index k. -/
def chkSegs (f : Fail) (t : List Byte) (base descs : Nat) (l : SegLayer) : Nat → Nat → Nat → Chk
  | 0, _, k => need (k = l.reduction) { f with limit := some l.reduction, found := some k }
  | m + 1, n, k =>
    let o := base + 16 * (l.first + n)
    let len := fieldLE t (o + 4) 4
    firstFail [need (fieldLE t o 4 = k) { f with limit := some k, found := some (fieldLE t o 4) }, need (1 ≤ len) { f with limit := some 1, found := some len },
      need (fieldLE t (o + 8) 2 < descs) { f with limit := some (descs - 1), found := some (fieldLE t (o + 8) 2) },
      zeros f [fieldLE t (o + 12) 4], chkSegs f t base descs l m (n + 1) (k + len)]

/-- (Log 65 DEDUCED) -/
def chkSegments (b : List Byte) : Chk :=
  let t := pkgSection b 7 0
  let ls := pkgSegLayers b
  let base := 16 + 16 * ls.length
  let f : Fail := { code := 0x090C, sect := secIx b 7 0 }
  firstFail ([
    need (1 ≤ ls.length) { f with limit := some 1, found := some ls.length }, need (ls.length ≤ 255) { f with limit := some 255, found := some ls.length },
    zeros f (wordsAt t 2 14), need (base ≤ t.length) { f with limit := some t.length, found := some base }]
    ++ ls.zipIdx.map (fun x =>
      let l := x.1
      let f : Fail := { f with item := l.layer }
      firstFail [
        need (!(ls.take x.2).any (fun y => l.layer ≤ y.layer)) { f with limit := some (((ls.take x.2).map (·.layer)).foldl max 0 + 1), found := some l.layer },
        need (inStage b l.layer) { f with found := some l.layer }, need (l.kind ≤ 1) { f with limit := some 1, found := some l.kind },
        zeros f [l.rsv], need (1 ≤ l.count) { f with limit := some 1, found := some l.count },
        need (1 ≤ l.reduction) { f with limit := some 1, found := some l.reduction }, need (l.reduction ≤ 2 ^ 31) { f with limit := some (2 ^ 31), found := some l.reduction },
        need (base + 16 * (l.first + l.count) ≤ t.length) { f with limit := some t.length, found := some (base + 16 * (l.first + l.count)) },
        chkSegs f t base (descCount b) l l.count 0 0])
    ++ (List.range (min 255 (tileCount b))).map (fun i =>
      let y := fieldLE (pkgSection b 5 0) (32 + 32 * i) 1
      need (!inStage b y || ls.any (fun l => l.layer = y)) { f with item := y }))

/-! ### Tiles and halos (R301 to R305) -/

/-- A tile list in order: items ascending, and within an item the entries of one weight tile together. `seen`: weight tiles of the
present item, the present one first. -/
def tilesOk (t : List Byte) (items segs : Nat) : Nat → Nat → Nat → List Nat → Bool
  | 0, _, _, _ => true
  | m + 1, o, item, seen =>
    let it := fieldLE t (o + 14) 2
    let w := fieldLE t (o + 8) 2
    let s := if it = item then seen else []
    item ≤ it && it < items && fieldLE t (o + 10) 2 + fieldLE t (o + 12) 2 ≤ segs && (s.head? = some w || !s.contains w)
      && tilesOk t items segs m (o + 16) it (if s.head? = some w then s else w :: s)

def regionKind (b : List Byte) (r : Nat) : Option Nat := ((pkgRegions b)[r]?).map (·.kind)
def regionBytes (b : List Byte) (r : Nat) : Nat := match (pkgRegions b)[r]? with | some x => x.bytes | none => 0

def chkTileHdr (b t : List Byte) (x : TileHdr × Nat) : Chk :=
  let h := x.1
  let f : Fail := { code := 0x090D, sect := secIx b 5 0, item := x.2 }
  let lim (a v : Nat) : Fail := { f with limit := some a, found := some v }
  let before := (pkgTiles b).take x.2
  let st := (pkgStages b)[h.stage]?
  let striped := match st with | some s => s.map = 1 | none => false
  let mb := pkgMaxBatches b
  let segs := match (pkgSegLayers b).find? (fun l => l.layer = h.layer) with | some l => l.count | none => 0
  firstFail [
    need (!before.any (fun y => h.layer ≤ y.layer)) { f with found := some h.layer },
    need (match st with | some s => s.first ≤ h.layer && h.layer ≤ s.last | none => false) { f with found := some h.layer },
    need (if striped then h.counter < 16 else h.counter = 0xFF) (lim (if striped then 15 else 0xFF) h.counter),
    need (!(striped && before.any (fun y => y.stage = h.stage && y.counter = h.counter))) { f with found := some h.counter }, zeros f h.rsv,
    need (1 ≤ h.items) (lim 1 h.items), need (h.items ≤ 65536) (lim 65536 h.items), need (regionKind b h.comp = some 3) { f with found := some h.comp },
    need (h.halo = 0xFFFF || regionKind b h.halo = some 4) { f with found := some h.halo }, need (h.compOff % 8 = 0) { f with found := some h.compOff },
    need (1 ≤ h.tiles) (lim 1 h.tiles), need (h.tiles ≤ 1048576) (lim 1048576 h.tiles), need (h.list % 16 = 0) { f with found := some h.list },
    need (32 + 32 * tileCount b ≤ h.list) (lim (32 + 32 * tileCount b) h.list),
    need (h.list + 16 * h.tiles ≤ t.length) (lim t.length (h.list + 16 * h.tiles)), need (h.haloBytes % 64 = 0) { f with found := some h.haloBytes },
    need (h.halo ≠ 0xFFFF || h.haloBytes = 0) (lim 0 h.haloBytes), need (h.items * mb ≤ 2 ^ 31) (lim (2 ^ 31) (h.items * mb)),
    need (h.compOff + 8 * h.items * mb ≤ regionBytes b h.comp) (lim (regionBytes b h.comp) (h.compOff + 8 * h.items * mb)),
    need (tilesOk t h.items segs h.tiles h.list 0 []) f]

/-- (Log 65 DEDUCED) -/
def chkTiles (b : List Byte) : Chk :=
  let t := pkgSection b 5 0
  let n := tileCount b
  let f : Fail := { code := 0x090D, sect := secIx b 5 0 }
  firstFail ([
    need (1 ≤ n) { f with limit := some 1, found := some n }, need (n ≤ 255) { f with limit := some 255, found := some n }, zeros f (wordsAt t 2 30),
    need (32 + 32 * n ≤ t.length) { f with limit := some t.length, found := some (32 + 32 * n) }] ++ (pkgTiles b).zipIdx.map (chkTileHdr b t))

/-- Bytes of the halo slots of a layer. -/
def haloNeed (b : List Byte) (h : TileHdr) : Nat := pkgMaxBatches b * h.items * 2 * (128 + h.haloBytes)

def chkHalo (b : List Byte) : Chk :=
  firstFail ((pkgTiles b).zipIdx.map (fun x =>
    let h := x.1
    let f : Fail := { code := 0x090E, sect := secIx b 5 0, item := x.2 }
    firstFail [
      need (h.halo = 0xFFFF || haloNeed b h ≤ regionBytes b h.halo) { f with limit := some (haloNeed b h), found := some (regionBytes b h.halo) },
      need (!(h.haloBytes ≠ 0 && match (pkgStages b)[h.stage]? with | some s => s.map = 0 | none => false)) { f with limit := some 0, found := some h.haloBytes }]))

/-! ### Shapes and framing (R307, R128, R132, R141, R142, R147) -/

def chkShapes (b : List Byte) : Chk :=
  let t := pkgSection b 0x0B 0
  let f : Fail := { code := 0x090F, sect := secIx b 0x0B 0 }
  let lim (a v : Nat) : Fail := { f with limit := some a, found := some v }
  let n := fieldLE t 8 2
  firstFail [
    need (1 ≤ fieldLE t 0 2) (lim 1 (fieldLE t 0 2)), need (fieldLE t 0 2 ≤ 256) (lim 256 (fieldLE t 0 2)), need (fieldLE t 2 2 ≤ 4096) (lim 4096 (fieldLE t 2 2)),
    need (fieldLE t 4 4 ≤ 1048576) (lim 1048576 (fieldLE t 4 4)), need (n ≤ 32) (lim 32 n), zeros f (wordsAt t 10 6),
    need (t.length = 16 + 4 * n) (lim (16 + 4 * n) t.length)]

/-- An object of `n` bytes at an aligned offset, whole in a region of a kind. -/
def placedIn (b : List Byte) (kind region off align n : Nat) : Bool :=
  regionKind b region = some kind && off % align = 0 && off + n ≤ regionBytes b region

def chkProfile (f : Fail) (sets : Nat) (b : List Byte) : Chk :=
  let p := decodeProfile b
  let lim (a v : Nat) : Fail := { f with limit := some a, found := some v }
  let fmt := fieldLE b 8 1
  firstFail [
    need (1 ≤ p.outW) (lim 1 p.outW), need (p.outW ≤ 4096) (lim 4096 p.outW), need (1 ≤ p.outH) (lim 1 p.outH), need (p.outH ≤ 4096) (lim 4096 p.outH),
    need (p.fit ≤ 2) (lim 2 p.fit), need (p.colour ≤ 3) (lim 3 p.colour), need (p.matrix ≤ 1) (lim 1 p.matrix), need (p.range ≤ 1) (lim 1 p.range), need (fmt ≤ 1) (lim 1 fmt),
    need (p.filterSet < sets) { f with found := some p.filterSet },
    need ([p.channels, 4, 8, 16, 32, 64].contains p.pixelBytes && p.channels ≤ p.pixelBytes) { f with found := some p.pixelBytes },
    zeros f [fieldLE b 11 1, fieldLE b 15 1, fieldLE b 24 8], need (p.rowPitch % 64 = 0) { f with found := some p.rowPitch },
    need (p.outW * p.pixelBytes ≤ p.rowPitch) (lim (p.outW * p.pixelBytes) p.rowPitch), need (fmt = 1 || p.scalePitch = 0) (lim 0 p.scalePitch),
    need (p.scalePitch % 64 = 0) { f with found := some p.scalePitch }, need (fmt = 0 || 4 * p.outW ≤ p.scalePitch) (lim (4 * p.outW) p.scalePitch)]

/-- A receiver: 0xFFFF, or a unit reference of right form (R25). -/
def receiverOk (r : Nat) : Bool := r = 0xFFFF || (bits r 14 8 = 0 && (0x8000 ≤ r || r < 192))

/-- Queue entry `i`, at offset `o` of the section. -/
def chkQueue (b f : List Byte) (e : Fail) (i o : Nat) : Chk :=
  let lim (a v : Nat) : Fail := { e with limit := some a, found := some v }
  let base := fieldLE f o 8
  let bytes := fieldLE f (o + 8) 4
  let bufs := fieldLE f (o + 12) 2
  let slots := fieldLE f (o + 14) 2
  let flags := fieldLE f (o + 24) 8
  let q : FQueue := { base := 0, bufBytes := bytes, buffers := bufs, slots := slots, profile := fieldLE f (o + 16) 1, receiver := 0, bit := 0, mark := 0, flags := 0 }
  let ps := (decodeProfile (fieldBytes f (64 + 32 * q.profile) 32)).slotBytes
  firstFail [
    need (bytes % 64 = 0) { e with found := some bytes }, need (2 ≤ bufs) (lim 2 bufs), need (bufs ≤ 256) (lim 256 bufs), need (1 ≤ slots) (lim 1 slots), need (slots ≤ 256) (lim 256 slots),
    need (i ≠ 0 || q.profile < fieldLE f 0 1) { e with found := some q.profile }, zeros e [fieldLE f (o + 17) 1, fieldLE f (o + 21) 1],
    need (receiverOk (fieldLE f (o + 18) 2)) { e with found := some (fieldLE f (o + 18) 2) }, need (fieldLE f (o + 20) 1 ≤ 31) (lim 31 (fieldLE f (o + 20) 1)),
    need (fieldLE f (o + 22) 2 ≤ bufs) (lim bufs (fieldLE f (o + 22) 2)), need (placedIn b 0 (base / 2 ^ 48) (base % 2 ^ 48) 64 (bufs * bytes)) { e with found := some base },
    need (placedIn b 1 (flags / 2 ^ 48) (flags % 2 ^ 48) 8 (8 * bufs)) { e with found := some flags }, need (64 ≤ q.stride) (lim 64 q.stride),
    need (i ≠ 0 || ps ≤ q.stride) (lim q.stride ps)]

/-- Coefficients of a filter set at an offset: in range, and summing to 256 in each direction of every phase. -/
def chkFilterSet (f : List Byte) (e : Fail) (o : Nat) : Chk :=
  let set := fieldBytes f o 1792
  firstFail ((List.range 64).map (fun ph =>
    let h := (List.range 8).map (hCoef set ph)
    let v := (List.range 6).map (vCoef set ph)
    firstFail [need ((h ++ v).all (fun c => -512 ≤ c && c ≤ 511)) e, need (sumI h = 256) { e with limit := some 256 }, need (sumI v = 256) { e with limit := some 256 }]))

/-- A ring of the section and its producer word: in place when its flag is set, else unused. -/
def chkFrameRing (b f : List Byte) (e : Fail) (on : Bool) (entries ring : Nat) : Chk :=
  let n := fieldLE f entries 2
  let rr := fieldLE f ring 2
  let pr := fieldLE f (ring + 2) 2
  let ro := fieldLE f (ring + 4) 4
  let po := fieldLE f (ring + 8) 4
  if on then firstFail [
    need (64 ≤ n) { e with limit := some 64, found := some n }, need (n ≤ 4096) { e with limit := some 4096, found := some n },
    need (placedIn b 0 rr ro 64 (8 * n)) { e with found := some rr }, need (placedIn b 1 pr po 4 4) { e with found := some pr }]
  else firstFail [need (n = 0) { e with limit := some 0, found := some n }, need (rr = 0xFFFF) { e with limit := some 0xFFFF, found := some rr },
    need (pr = 0xFFFF) { e with limit := some 0xFFFF, found := some pr }, zeros e [ro, po]]

def chkFraming (b : List Byte) : Chk :=
  if !hasSection b 9 then none
  else
    let f := pkgSection b 9 0
    let e : Fail := { code := 0x0910, sect := secIx b 9 0 }
    let lim (a v : Nat) : Fail := { e with limit := some a, found := some v }
    let np := fieldLE f 0 1
    let ns := fieldLE f 1 1
    let nq := fieldLE f 2 1
    let fl := fieldLE f 3 1
    let na := fieldLE f 34 2
    let size := 64 + 32 * np + 32 * nq + 1792 * ns
    firstFail ([
      need (1 ≤ np) (lim 1 np), need (np ≤ 16) (lim 16 np), need (ns ≤ 8) (lim 8 ns), need (1 ≤ nq) (lim 1 nq), need (nq ≤ 4) (lim 4 nq), need (fl < 4) { e with found := some fl },
      need (f.length = size) (lim size f.length), chkFrameRing b f e (bitAt fl 0) 4 8, chkFrameRing b f e (bitAt fl 1) 6 20,
      need (if na = 0 then fieldLE f 32 2 = 0xFFFF && fieldLE f 36 4 = 0 else placedIn b 0 (fieldLE f 32 2) (fieldLE f 36 4) 8 (24 * na)) { e with found := some na },
      zeros e (wordsAt f 40 24)]
      ++ (List.range np).map (fun i => chkProfile { e with item := i } ns (fieldBytes f (64 + 32 * i) 32))
      ++ (List.range nq).map (fun i => chkQueue b f { e with item := i } i (64 + 32 * np + 32 * i))
      ++ (List.range ns).map (fun i => chkFilterSet f { e with item := i } (64 + 32 * np + 32 * nq + 1792 * i)))

/-- The checks of the package's own bytes, in R311's order. (Log 65 DEDUCED) -/
def State.pkgFail (s : State) (b : List Byte) (len0 : Nat) : Chk :=
  firstFail [chkFormat b len0, chkDigest b, chkSections b, s.chkLicence b, chkStages b, chkCode b, chkLocal b, chkRegions b, chkDescs b, chkAllWeights b,
    chkQuant b, chkSegments b, chkTiles b, chkHalo b, chkShapes b, chkFraming b]

end Sys2Proof.Machine
end

