-- ==== Sys2Proof/Machine/Journal.lean ====
section
/-!
DEFINITION. The start journal (R453, R454), GLB_STATUS (R452), and what the journal says of earlier starts (R443, R444).
-/
namespace Sys2Proof.Machine

/-! ### GLB_STATUS -/

/-- GLB_STATUS (R452). -/
def Boot.status (b : Boot) : Nat :=
  b.devRestarts.toNat * 2 ^ 48 + b.detail.toNat * 2 ^ 32 + b.code.toNat * 2 ^ 16 + b.step % 256 * 2 ^ 8 + b.kind % 4 * 2 ^ 6
    + (if b.strapBad then 32 else 0) + (if b.jnlFull then 16 else 0) + b.state % 16

/-- The start status changes; STATUS is set when GLB_STATUS does (R436). -/
def State.setBoot (s : State) (b : Boot) : State :=
  let s1 := { s with boot := b }
  if b.status = s.boot.status then s1 else s1.ringDevice 6

/-! ### Records -/

def recStart : U16 := 0x0001
def recStep : U16 := 0x0002
def recStretcher : U16 := 0x0003
def recGddr : U16 := 0x0004
def recMaxima : U16 := 0x0005
def recSpare : U16 := 0x0006
def recPcie : U16 := 0x0007
def recEth : U16 := 0x0008
def recLink : U16 := 0x0009
def recEnd : U16 := 0x000A
def recRestart : U16 := 0x000B
def recReset : U16 := 0x000C

/-- Bytes of a record: a 16-byte header, and the body padded to a multiple of 8. -/
def JRec.size (r : JRec) : Nat := 16 + (r.body.length + 7) / 8 * 8

/-- Bytes a half has in use: its header and its records. -/
def JHalf.used (h : JHalf) : Nat := 64 + (h.recs.map JRec.size).foldl (· + ·) 0

def halfBytes : Nat := 0x80000

/-- Half A is the valid one: the higher generation of those whose header is complete. -/
def Boot.halfA (b : Boot) : Bool := b.journalA.valid && (!b.journalB.valid || b.journalB.generation.ult b.journalA.generation)

/-- The valid half; a part whose flash holds none begins with half A. -/
def Boot.half? (b : Boot) : JHalf := if b.halfA then b.journalA else if b.journalB.valid then b.journalB else { valid := true, generation := 1 }

def Boot.setHalf (b : Boot) (h : JHalf) : Boot := if b.halfA || !b.journalB.valid then { b with journalA := h } else { b with journalB := h }

/-- Records that a reader takes: those whose commit byte is programmed. -/
def Boot.records (b : Boot) : List JRec := b.half?.recs.filter (·.commit)

/-- A record written; one that does not fit is lost and sets JNL_FULL (R454). -/
def Boot.write (b : Boot) (type : U16) (body : List Byte) : Boot :=
  let h := b.half?
  let r : JRec := { type := type, start := b.number, body := body, commit := true }
  if h.used + r.size ≤ halfBytes then b.setHalf { h with recs := h.recs ++ [r] } else { b with jnlFull := true }

/-- The last record of a list for which `f` holds. -/
def lastRec (l : List JRec) (f : JRec → Bool) : List JRec := ((l.filter f).getLast?).toList

/-- What a compaction keeps (R454): the last valid START, the last STEP of each step, the last STRETCHER of each link, the last GDDR6 of each
group, MAXIMA, SPARE_MAP, and any RESET that follows them. -/
def keptRecords (l : List JRec) : List JRec :=
  let idx (t : U16) (i : Nat) (r : JRec) : Bool := r.type = t && (r.body.getD 0 0).toNat = i
  let kept := lastRec l (fun r => r.type = recStart) ++ (List.range 20).flatMap (fun i => lastRec l (idx recStep (i + 1)))
    ++ (List.range 19).flatMap (fun i => lastRec l (idx recStretcher i)) ++ (List.range 16).flatMap (fun i => lastRec l (idx recGddr i))
    ++ lastRec l (fun r => r.type = recMaxima) ++ lastRec l (fun r => r.type = recSpare)
  let types := [recStart, recStep, recStretcher, recGddr, recMaxima, recSpare]
  kept ++ ((l.reverse.takeWhile (fun r => !types.contains r.type)).reverse.filter (fun r => r.type = recReset))

/-- Compaction after ST20, when less than 128 KiB of the valid half is free (R454): the other half is erased, filled, and its header
programmed with generation + 1. (Log 30 DEDUCED) -/
def Boot.compact (b : Boot) : Boot :=
  let h := b.half?
  if b.state = 1 && halfBytes < h.used + 0x20000 then
    let n : JHalf := { valid := true, generation := h.generation + 1, recs := keptRecords b.records }
    if b.halfA || !b.journalB.valid then { b with journalB := n } else { b with journalA := n }
  else b

/-- A record written during operation. -/
def State.journal (s : State) (type : U16) (body : List Byte) : State := s.setBoot (s.boot.write type body).compact

/-! ### What earlier starts left (R443, R444) -/

/-- Records after the last RESET. -/
def Boot.sinceReset (b : Boot) : List JRec := (b.records.reverse.takeWhile (fun r => r.type ≠ recReset)).reverse

/-- Outcome of a step at the most recent earlier start that recorded it: 0 when none did. -/
def Boot.lastOutcome (b : Boot) (step : Nat) : Nat :=
  match lastRec b.sinceReset (fun r => r.type = recStep && (r.body.getD 0 0).toNat = step) with
  | r :: _ => (r.body.getD 1 0).toNat
  | [] => 0

/-- The start a record counts to: a compaction keeps one START only, and the records it copied were in use at that start. -/
def Boot.startOf (b : Boot) (r : JRec) : U32 :=
  match b.records.find? (fun x => x.type = recStart) with
  | some f => if 1 < b.half?.generation.toNat && r.start.ult f.start then f.start else r.start
  | none => r.start

/-- A start that reached ST20 under the given digests. A compaction happens only after ST20 (R454). (Log 30 DEDUCED) -/
def Boot.goodStart (b : Boot) (n : U32) (identity firmware : List Byte) : Bool :=
  let first := (b.records.find? (fun x => x.type = recStart)).map (·.start)
  b.records.any (fun r => r.type = recStart && r.start = n && fieldBytes r.body 4 32 = identity && fieldBytes r.body 36 32 = firmware)
    && (b.records.any (fun r => r.type = recEnd && r.start = n && r.body.getD 0 0 = 1) || (1 < b.half?.generation.toNat && first = some n))

/-- The journal allows a warm start: STRETCHER records of every link, GDDR6 records of every group and MAXIMA, all of good starts (R444). (Log 30 DEDUCED) -/
def Boot.warm (b : Boot) (identity firmware : List Byte) : Bool :=
  let ok (l : List JRec) : Bool := match l with | r :: _ => b.goodStart (b.startOf r) identity firmware | [] => false
  (List.range 19).all (fun i => ok (lastRec b.sinceReset (fun r => r.type = recStretcher && (r.body.getD 0 0).toNat = i)))
    && (List.range 16).all (fun i => ok (lastRec b.sinceReset (fun r => r.type = recGddr && (r.body.getD 0 0).toNat = i)))
    && ok (lastRec b.sinceReset (fun r => r.type = recMaxima))

/-- Number of the next start: one above the journal's last START record (R452). -/
def Boot.nextNumber (b : Boot) : U32 :=
  match lastRec b.records (fun r => r.type = recStart) with | r :: _ => r.start + 1 | [] => 1

end Sys2Proof.Machine
end

