-- ==== Sys2Proof/Machine/Firmware.lean ====
section
/-!
DEFINITION. Signed objects, the firmware image and the device certificate (R460 to R468). Whether a signature verifies is what a start or a
command finds: FIPS 204 stands outside the manual. Everything else that makes an object valid is computed from its bytes.
-/
namespace Sys2Proof.Machine

/-! ### Signed objects (R460, R461) -/

/-- Header of a signed object. -/
def signedOk (o : List Byte) (type body : Nat) : Bool :=
  fieldLE o 0 4 = 0x4F53594B && fieldLE o 4 2 = type && fieldLE o 6 2 = 1 && fieldLE o 8 4 = 48 + body + 3309 && fieldLE o 12 4 = body

/-- Bytes of a key certificate. -/
def certBytes : Nat := 5317

/-- A key certificate for a role: 1 FIRMWARE, 2 LICENCE, 3 DEVICE_CA. -/
def keyCertForm (o : List Byte) (role : Nat) : Bool := signedOk o 1 1960 && fieldLE o 48 1 = role && allZero (fieldBytes o 49 7)

/-- The key that a certificate certifies. -/
def certKey (o : List Byte) : List Byte := fieldBytes o 56 1952

/-- An object names a certificate's key as its signer. -/
def signedBy (o cert : List Byte) : Bool := fieldBytes o 16 32 = digest (certKey cert)

/-! ### The firmware image (R462 to R464) -/

/-- Bytes of an image area from an offset on: of the flash, or of the HUB SRAM window of recovery mode. -/
abbrev Image := Nat → Nat → List Byte

/-- The manifest of an image. -/
def manifestOf (r : Image) : List Byte := r 0x3000 3485
/-- The FIRMWARE key certificate of an image. -/
def firmwareCert (r : Image) : List Byte := r 0x1000 certBytes

def curatorOffset (m : List Byte) : Nat := fieldLE m 56 4
def curatorBytes (m : List Byte) : Nat := fieldLE m 60 4
def easelOffset (m : List Byte) : Nat := fieldLE m 64 4

/-- ST03: the manifest has its layout, and its fields are in range; the Curator image takes 1 to 8 MiB. (Log 130 DEDUCED) -/
def manifestFormat (m : List Byte) : Bool :=
  signedOk m 2 128 && curatorOffset m % 4096 = 0 && 0x10000 ≤ curatorOffset m && curatorOffset m ≤ 0xFF0000
    && 0x100000 ≤ curatorBytes m && curatorBytes m ≤ 0x800000 && easelOffset m % 4096 = 0 && fieldLE m 68 4 = 8192

/-- The images lie within an image area of `size` bytes without overlap. -/
def imagesFit (m : List Byte) (size : Nat) : Bool :=
  curatorOffset m + curatorBytes m ≤ size && easelOffset m + 8192 ≤ size
    && (curatorOffset m + curatorBytes m ≤ easelOffset m || easelOffset m + 8192 ≤ curatorOffset m)

/-- Both images have the digests that the manifest states. -/
def imageDigests (r : Image) (m : List Byte) : Bool :=
  digest (r (curatorOffset m) (curatorBytes m)) = fieldBytes m 72 32 && digest (r (easelOffset m) 8192) = fieldBytes m 104 32

/-- The checks of ST04 on an image of `size` bytes, in order: CHAIN, SIGNATURE, IMAGE_DIGEST; 0 when they pass (R464). (Log 130 DEDUCED) -/
def imageCode (r : Image) (size : Nat) (sigs : FwSigs) : Nat :=
  let m := manifestOf r
  if !(sigs.chain && keyCertForm (firmwareCert r) 1) then 1
  else if !(sigs.manifest && manifestFormat m && signedBy m (firmwareCert r) && allZero (fieldBytes m 136 40) && imagesFit m size) then 2
  else if !imageDigests r m then 3
  else 0

def State.flashN (s : State) (a n : Nat) : List Byte := mreadN 0xFF s.boot.flash a n

/-- Bytes of the image area (R453). -/
def imageArea : Nat := 0x1000000

/-- ST03's view of the flash: MANIFEST_FORMAT, or 0. -/
def State.flashFormat (s : State) : Nat := if manifestFormat (manifestOf s.flashN) then 0 else 2

/-! ### Identity and the device certificate (R465, R467, R468) -/

/-- The ASCII label KYM-ML8-ID-1. -/
def identityLabel : List Byte := [0x4B, 0x59, 0x4D, 0x2D, 0x4D, 0x4C, 0x38, 0x2D, 0x49, 0x44, 0x2D, 0x31]

/-- The identity public key that a PUF response gives. -/
def identityKeyOf (response : List Byte) : List Byte := Config.mldsaKey (digest (identityLabel ++ response))

/-- The identity digest. -/
def State.identity (s : State) : List Byte := digest s.sec.identityKey

/-- The topology that a device certificate states: a link may run at half width when its min_width is 1. (Log 130 DEDUCED) -/
def certTopology (o : List Byte) : Topology :=
  { dieSet := o.getD 2008 0
    halfOk := (List.range 19).foldl (fun v l => if o.getD (2009 + l) 0 = 1 then v ||| BitVec.ofNat 19 (2 ^ l) else v) 0
    easels := (fieldBytes o 2028 6).map (·.toNat) }

/-- The device certificate in flash, when it is valid and names the derived key. -/
def State.deviceCert (s : State) (sigs : Bool) (key : List Byte) : Option Topology :=
  let ca := s.flashN 0x1101000 certBytes
  let o := s.flashN 0x1103000 5349
  if sigs && keyCertForm ca 3 && signedOk o 3 1992 && signedBy o ca && allZero (fieldBytes o 2034 6) && fieldBytes o 48 1952 = key
  then some (certTopology o) else none

end Sys2Proof.Machine
end

