-- ==== Sys2Proof/Machine/Gddr.lean ====
section
/-!
DEFINITION. The GDDR6 controllers: refresh (R388) and re-tracking (R389). None of it changes data.
-/
namespace Sys2Proof.Machine

/-- GDDR_REFRESH: a per-bank refresh closes the bank's row and changes no data (R388). (Log 46 DEDUCED) -/
def execGddrRefresh (group channel bank : Nat) (s : State) : Out :=
  if group < 16 && channel < 2 && bank < 16 then
    let k := bankKey group channel bank
    if s.groupState group = 0 && !s.board.clocksStopped then
      .next (s.setBank k { s.bank k with openRow := none, refreshes := (s.bank k).refreshes + 1 })
    else .next s
  else noUnit

/-- ROW_IDLE_CLOSE: a row open for 500 ns without an access is closed (R387). (Log 46 DEDUCED) -/
def execRowIdleClose (group channel bank : Nat) (s : State) : Out :=
  if group < 16 && channel < 2 && bank < 16 then
    let k := bankKey group channel bank
    if s.board.clocksStopped then .next s else .next (s.setBank k { s.bank k with openRow := none })
  else noUnit

end Sys2Proof.Machine
end

