-- ==== Sys2Proof/Machine/Pcie.lean ====
section
/-!
DEFINITION. The PCI Express endpoint (R399 to R413): the link, host reads and writes of the BARs, and interrupts. The effects of register
accesses stand in Registers.lean.
-/
namespace Sys2Proof.Machine

/-! ### Logging (R407, R410) -/

/-- Bytes of a BAR (R405, R406). -/
def Pcie.barSize (p : Pcie) (bar : Nat) : Nat :=
  match bar with
  | 0 => 0x4000000
  | 2 => 0x400000
  | 4 => 2 ^ (28 + p.bar4Size)
  | _ => 0

def State.barSize (s : State) (bar : Nat) : Nat := s.pcie.barSize bar

/-- Address that a BAR register pair holds. -/
def Pcie.barBase (p : Pcie) (bar : Nat) : Nat :=
  ((tget 0 p.bars bar).toNat + 2 ^ 32 * (tget 0 p.bars (bar + 1)).toNat) / p.barSize bar * p.barSize bar

/-- Bit of an error in the Uncorrectable Error registers. A discarded write counts as a Completer Abort. (Log 136 DESIGN CHOICE) -/
def AerKind.bit : AerKind → Nat
  | .discardedWrite | .completerAbort => 15
  | .poisonedTlp => 12
  | .completionTimeout => 14
  | .unsupportedRequest => 20

/-- The error is reported as an advisory one: the request was a read, and its severity is non-fatal. (Log 12 PRESUMED) -/
def Pcie.advisory (p : Pcie) (r : AerRec) : Bool :=
  r.read && (r.kind = .completerAbort || r.kind = .unsupportedRequest) && !p.uncSeverity.getLsbD r.kind.bit

/-- Error bits of Status that an entry sets: Signaled Target Abort (11), Signaled System Error (14), Detected Parity Error (15). -/
def Pcie.statusOf (p : Pcie) (r : AerRec) : U16 :=
  (if r.kind = .completerAbort then 0x0800 else 0) ||| (if r.kind = .poisonedTlp then 0x8000 else 0)
    ||| (if p.serrEn && !p.advisory r && !p.uncMask.getLsbD r.kind.bit then 0x4000 else 0)

/-- Device Status bits that an entry sets: correctable, non-fatal, fatal, unsupported request. -/
def Pcie.devStatusOf (p : Pcie) (r : AerRec) : BitVec 4 :=
  (if p.advisory r then 1 else if p.uncSeverity.getLsbD r.kind.bit then 4 else 2) ||| (if r.kind = .unsupportedRequest then 8 else 0)

/-- An entry in AER, with the status bits of the standard: the header log keeps the first error that is not masked. (Log 12 PRESUMED) -/
def Pcie.log (p : Pcie) (r : AerRec) : Pcie :=
  { p with
    aer := p.aer ++ [r], uncStatus := p.uncStatus ||| (1#32 <<< r.kind.bit)
    corStatus := if p.advisory r then p.corStatus ||| 0x2000 else p.corStatus
    firstError := if p.firstError.isNone && !p.uncMask.getLsbD r.kind.bit then some p.aer.length else p.firstError
    statusErrors := p.statusErrors ||| p.statusOf r, devStatus := p.devStatus ||| p.devStatusOf r }

/-- An entry about a host request to a BAR. -/
def State.aerLog (s : State) (k : AerKind) (read : Bool) (bar off len : Nat) : State :=
  { s with pcie := s.pcie.log { kind := k, read := read, bar := bar, off := off, addr := s.pcie.barBase bar + off, len := len } }

def State.setReply (s : State) (r : Reply) : State := { s with pcie := { s.pcie with reply := r } }

/-- A discarded write: logged and counted (R407). (Log 136 DESIGN CHOICE) -/
def State.discard (s : State) (bar off len : Nat) : State :=
  let s1 := s.aerLog .discardedWrite false bar off len
  { s1 with pcie := { s1.pcie with discards := s1.pcie.discards + 1 } }

/-- A read that completes with Completer Abort: logged and counted (R407). -/
def State.abort (s : State) (bar off len : Nat) : State :=
  let s1 := (s.aerLog .completerAbort true bar off len).setReply .completerAbort
  { s1 with pcie := { s1.pcie with aborts := s1.pcie.aborts + 1 } }

/-- A request that the part does not support: while Memory Space Enable is 0 (R407), in D3hot (R415), or while an FLR runs (R414). -/
def State.unsupported (s : State) (bar off len : Nat) : State := (s.aerLog .unsupportedRequest true bar off len).setReply .unsupportedRequest
def State.unsupportedWrite (s : State) (bar off len : Nat) : State := s.aerLog .unsupportedRequest false bar off len

/-- BAR requests are served. (Log 43 DEDUCED) -/
def State.barOn (s : State) : Bool := s.pcie.linkUp && s.pcie.memSpaceEn && !s.pcie.d3hot && s.pcie.flrNs = 0 && !s.board.clocksStopped

/-- BAR0 and BAR2 accesses have 4 or 8 bytes and are naturally aligned (R407). -/
def shapeOk (off len : Nat) : Bool := (len = 4 || len = 8) && off % len = 0

/-- BAR_READ_SHAPE_ABORT: a read of BAR0 or BAR2 of another shape completes with Completer Abort (R407). -/
def execBarReadShapeAbort (bar off len : Nat) (s : State) : Out :=
  if bar ≠ 0 && bar ≠ 2 then noUnit
  else if !s.barOn then .next (s.unsupported bar off len)
  else if shapeOk off len then .next s
  else .next (s.abort bar off len)

/-! ### BAR4 (R406, R407) -/

/-- Device address of a BAR4 offset: bits of BASE below the window size count as 0. -/
def State.bar4Addr (s : State) (off : Nat) : Nat :=
  let w := s.barSize 4
  bits s.host.live.bar4Map.toNat 34 28 * 0x10000000 / w * w + off

/-- A BAR4 access may reach a range: usable GDDR6 of one ACTIVE group, in memory that a partition owns. -/
def State.bar4Ok (s : State) (a n : Nat) : Bool :=
  rangeIn (a, n) (fun w => match w with | .gddr g _ => s.groupState g = 0 | _ => false) && s.partIds.any (fun p => s.ownsRange p (a, n))

/-- BAR4_READ. An uncorrectable word in it makes the read a Completer Abort (R395). -/
def execBar4Read (off len : Nat) (s : State) : Out :=
  if s.barSize 4 < off + len then noUnit
  else if !s.barOn then .next (s.unsupported 4 off len)
  else if !s.ready then .next (s.setReply (.data (List.replicate len 0)))
  else
    let a := s.bar4Addr off
    if 4096 < len || !s.bar4Ok a len then .next (s.abort 4 off len)
    else
      let (s2, bad) := s.readCheck 7 [(a, len)]
      if bad.isEmpty then .next (s2.setReply (.data (s2.devN a len)))
      else .next ((bad.foldl (fun s w => s.uncorrectable 7 w) s2).abort 4 off len)

/-- BAR4_WRITE (R384): a write outside the rules is discarded; during start-up every write is (R416). (Log 22 DEDUCED) -/
def execBar4Write (off : Nat) (b : List Byte) (s : State) : Out :=
  if s.barSize 4 < off + b.length then noUnit
  else if !s.barOn then .next (s.unsupportedWrite 4 off b.length)
  else if !s.ready then .next (s.discard 4 off b.length)
  else
    let a := s.bar4Addr off
    if s.pcie.payload < b.length || !s.bar4Ok a b.length then .next (s.discard 4 off b.length)
    else .next (s.checkedWrite 7 (placeBytes a b) id)

/-- POISONED_TLP_RECEIVED: a poisoned write is discarded in full (R407). -/
def execPoisonedTlpReceived (bar off len : Nat) (s : State) : Out :=
  if bar ≠ 0 && bar ≠ 2 && bar ≠ 4 then noUnit
  else if !s.barOn then .next (s.unsupportedWrite bar off len)
  else
    let s1 := s.aerLog .poisonedTlp false bar off len
    .next (if len = 0 then s1 else { s1 with pcie := { s1.pcie with discards := s1.pcie.discards + 1 } })

/-! ### The link (R399 to R401, R403) -/

/-- A speed code and a width code that exist. -/
def linkOk (speed width : BitVec 4) : Bool := 1 ≤ speed.toNat && speed.toNat ≤ 5 && width.toNat ≤ 4

/-- PCIE_LINK_RETRAIN: a retrain may change speed and width, and is counted; no TLP is lost (R400). -/
def execPcieLinkRetrain (speed width : BitVec 4) (s : State) : Out :=
  if !s.pcie.linkUp || !linkOk speed width then .next s
  else .next { s with pcie := { s.pcie with speed := speed.toNat, width := width.toNat, retrains := s.pcie.retrains + 1 } }

/-- A lane answers a margin command at 16.0 or 32.0 GT/s (R403). What it measures is a free value. (Log 25 DESIGN CHOICE) -/
def State.marginLane (s : State) (lane : Nat) (cmd : U16) : State :=
  if !s.pcie.linkUp || s.pcie.speed < 4 || 2 ^ s.pcie.width ≤ lane then s
  else
    let (x, s1) := s.draw
    { s1 with pcie := { s1.pcie with margin := tinsert s1.pcie.margin lane (cmd, x.setWidth 8) } }

/-- LANE_MARGIN_COMMAND (R403). -/
def execLaneMarginCommand (lane : Nat) (cmd : U16) (s : State) : Out := if 16 ≤ lane then noUnit else .next (s.marginLane lane cmd)

/-! ### Interrupts (R412, R413) -/

def State.msixEntry (s : State) (v : Nat) : MsixEntry := tget {} s.pcie.msix v
def State.setMsixEntry (s : State) (v : Nat) (m : MsixEntry) : State := { s with pcie := { s.pcie with msix := tset {} s.pcie.msix v m } }

/-- MSIX_MESSAGE_SEND: the message of a pending, unmasked vector, and its pending bit cleared (R412). -/
def execMsixMessageSend (v : Nat) (s : State) : Out :=
  if 256 ≤ v then noUnit
  else
    let m := s.msixEntry v
    if !s.busOn || !s.pcie.msixEnable || s.pcie.msixMask || m.masked || !s.pcie.pba.getLsbD v then .next s
    else
      let s1 := s.hostWrite m.addr.toNat (leBytes 4 m.data.toNat)
      .next { s1 with pcie := { s1.pcie with pba := s1.pcie.pba &&& ~~~(BitVec.ofNat 256 (2 ^ v)) } }

/-- INTA is due (R413): a pending bit whose vector is not masked, with MSI-X disabled and interrupts not disabled. (Log 23 DEDUCED) -/
def State.intaDue (s : State) : Bool :=
  !s.pcie.msixEnable && !s.pcie.intxDisable && !s.pcie.d3hot
    && (List.range 256).any (fun v => s.pcie.pba.getLsbD v && !(s.msixEntry v).masked)

/-- Assert_INTA or Deassert_INTA as the pending bits say. (Log 23 DEDUCED) -/
def State.intx (s : State) : State := { s with pcie := { s.pcie with intaAsserted := s.intaDue } }

/-- ASSERT_INTA (R413). (Log 23 DEDUCED) -/
def execAssertInta (s : State) : Out := .next s.intx

/-- GLB_INTX_PENDn: writing 1 clears a pending bit (R413). -/
def State.clearPending (s : State) (n : Nat) (v : Nat) : State :=
  { s with pcie := { s.pcie with pba := s.pcie.pba &&& ~~~(BitVec.ofNat 256 (v * 2 ^ (64 * n))) } }.intx

end Sys2Proof.Machine
end

