-- ==== Sys2Proof/Machine/Timebase.lean ====
section
/-!
DEFINITION. The timebase (R36 to R54): states, steps and slews, the sources, the phase table, and the time pins.
-/
namespace Sys2Proof.Machine

/-! ### The phase table (R52, R54) -/

/-- Quadwords of phase entry k. -/
def Settings.phaseLo (c : Settings) (k : Nat) : Nat := (tget 0 c.phases (2 * k)).toNat
def Settings.phaseHi (c : Settings) (k : Nat) : Nat := (tget 0 c.phases (2 * k + 1)).toNat
def Settings.startS (c : Settings) (k : Nat) : Nat := bits (c.phaseLo k) 31 0
/-- op_pref of die j in the order HUB, MED, CD0 to CD5. -/
def Settings.opPref (c : Settings) (k j : Nat) : Nat := if j < 4 then bits (c.phaseLo k) (39 + 8 * j) (32 + 8 * j) else bits (c.phaseHi k) (8 * j - 25) (8 * j - 32)
def Settings.lcWeight (c : Settings) (k : Nat) : Nat := bits (c.phaseHi k) 39 32
def Settings.beWeight (c : Settings) (k : Nat) : Nat := bits (c.phaseHi k) 47 40

/-- L: a signed count of seconds. -/
def Settings.l (c : Settings) : Int := (c.localOffset.setWidth 32).toInt

/-- Time of day of a store time (R52). -/
def timeOfDay (c : Settings) (t : U64) : Nat := ((Int.ofNat (t.toNat / 1000000000) + c.l) % 86400).toNat

/-- The phase in force (R54): the entry with the largest start_s at or below the time of day; the last entry before PH0. -/
def phaseAt (c : Settings) (t : U64) : Nat :=
  let n := c.phaseCount.toNat
  ((List.range n).filter (fun k => c.startS k ≤ timeOfDay c t)).foldl (fun b k => if c.startS b < c.startS k || timeOfDay c t < c.startS b then k else b)
    (n - 1)

/-- The phase is recomputed (R54). -/
def State.rephase (s : State) : State := { s with tb := { s.tb with phase := phaseAt s.host.live s.tb.time } }

/-- The weights of the phase in force come to govern a partition's lending (R54, R336). (Log 68 DEDUCED) -/
def State.takeWeights (s : State) (p : Nat) : State :=
  s.setPart p { s.part p with lcWeight := s.host.live.lcWeight s.tb.phase, beWeight := s.host.live.beWeight s.tb.phase }

/-- PHASE_BOUNDARY (R54). -/
def execPhaseBoundary (s : State) : Out := if s.ready then .next s.rephase else .next s

/-! ### States and steps (R39, R44, R48, R49) -/

/-- The timebase enters a state; TIMEBASE is set when it changes (R436). (Log 81 DEDUCED) -/
def State.tbEnter (s : State) (st : Nat) : State :=
  if s.tb.state = st then s
  else { s with tb := { s.tb with state := st, holdNs := if st = 3 then 0 else s.tb.holdNs } }.ringDevice 7

/-- Store time steps: each live partition runs its next sitting at the first instant at or after the new time (R48, R49), and the
phase is recomputed (R54). Timestamps that the PTP client took before the step are void. (Log 81 DEDUCED) -/
def State.stepTime (s : State) (t : U64) : State :=
  let s1 := { s with tb := { s.tb with time := t, frac := 0, ptp := { s.tb.ptp with twoStep := none, pair := none, req := none } }
                     parts := s.parts.map (fun (x : Nat × Part) => (x.1, if x.2.replay then x.2 else { x.2 with from_ := t })) }
  s1.rephase

/-- Offset of a time from store time. -/
def offsetOf (now t : U64) : Int := Int.ofNat t.toNat - Int.ofNat now.toNat

/-- Signed size of a step: new minus old. -/
def stepSize (old new : U64) : Int := satI64 (offsetOf old new)

/-- LOCKED is left for HOLDOVER (R45). (Log 81 DEDUCED) -/
def State.loseSource (s : State) : State :=
  if s.tb.state = 2 then (s.tbEnter 3).timeEvent 3 0 s.tb.ferr else s

/-- The frequency correction of a slew, within ±200 ppm (R44): which one is a free value. (Log 106 DESIGN CHOICE) -/
def slewOf (x : U64) : Int := x.toInt.tmod 200001

/-- The timebase slews: its frequency is adjusted, and store time stays continuous (R44). (Log 106 DESIGN CHOICE) -/
def State.slew (s : State) : State := { s.draw.2 with tb := { s.draw.2.tb with corr := slewOf s.draw.1 } }

/-- An offset measured against the source: its time minus store time, with the frequency error estimate (R44, R46). -/
def State.measured (s : State) (off : Int) (ferr : Int) : State :=
  let s := { s with tb := { s.tb with ferr := ferr } }
  let t : U64 := s.tb.time + BitVec.ofInt 64 off
  let d := stepSize s.tb.time t
  let big : Bool := 1000000 < off.natAbs
  match s.tb.state with
  | 1 => ((s.stepTime t).tbEnter 2).timeEvent 1 d 0
  | 2 => if big then (s.stepTime t).timeEvent 2 d 0 else s.slew
  | 3 =>
    let ms := s.tb.holdNs / 1000000
    let s1 := (s.tbEnter 2).timeEvent 4 (satI64 off) (Int.ofNat ms)
    if big then (s1.stepTime t).timeEvent 2 d 0 else s1.slew
  | _ => s

/-- TB_HOLD_BOUND (R45): |FERR| × ms / 1,000 rounded up. -/
def State.holdBound (s : State) : Nat := (s.tb.ferr.natAbs * (s.tb.holdNs / 1000000) + 999) / 1000

/-! ### Sources (R38 to R45) -/

def State.source (s : State) : Nat := s.host.live.srcSel.toNat

/-- PTP settings: domain, transport, MAC of the selected port, VLAN (R502). -/
def Settings.ptpDomain (c : Settings) : Nat := bits c.ptpCfg.toNat 6 0
def Settings.ptpVlan (c : Settings) : Nat := bits c.ptpCfg.toNat 27 16
def Settings.ptpMac (c : Settings) : Nat := 4 * (c.srcSel.toNat - 1) + bits c.ptpCfg.toNat 33 32
def Settings.usesPtp (c : Settings) : Bool := c.srcSel = 1 || c.srcSel = 2

/-- TRANSPORT and ANNOUNCE_TO (R502). -/
def Settings.ptpTransport (c : Settings) : PtpTransport :=
  match bits c.ptpCfg.toNat 9 8 with | 1 => .udp4 | 2 => .udp6 | _ => .layer2
def Settings.announceTo (c : Settings) : Nat := bits c.ptpCfg.toNat 15 12

/-! ### The PTP client (R41)

The formulas and the data set comparison are those of IEEE 1588-2019, which R41 names (PRESUMED). -/

/-- ns of an interval of 2^l s. -/
def intervalNs (l : Int) : Nat := if 0 ≤ l then 1000000000 * 2 ^ l.toNat else 1000000000 / 2 ^ (-l).toNat

/-- The first list comes before the second, entry by entry. -/
def lexBefore : List Nat → List Nat → Bool
  | a :: as, b :: bs => a < b || (a = b && lexBefore as bs)
  | _, _ => false

/-- A master's data set is the better one: by grandmaster, or for one grandmaster by the way to it. (Log 107 PRESUMED) -/
def PtpMaster.beats (a b : PtpMaster) : Bool :=
  let key (m : PtpMaster) : List Nat :=
    [m.data.priority1.toNat, m.data.klass.toNat, m.data.accuracy.toNat, m.data.variance.toNat, m.data.priority2.toNat, m.data.identity.toNat]
  let way (m : PtpMaster) : List Nat := [m.data.steps.toNat, m.port.clock.toNat, m.port.port.toNat]
  if a.data.identity = b.data.identity then lexBefore (way a) (way b) else lexBefore (key a) (key b)

/-- The master that the client follows: the best of those whose announce receipt timeout has not expired (R41). -/
def State.ptpMaster (s : State) : Option PtpMaster :=
  (s.tb.ptp.masters.filter (fun m => s.clock < m.at_ + s.host.live.announceTo * intervalNs m.logInterval)).foldl
    (fun b m => match b with | none => some m | some x => some (if m.beats x then m else x)) none

/-- The client follows this port. -/
def State.ptpFollows (s : State) (p : PtpPort) : Bool := match s.ptpMaster with | some m => m.port = p | none => false

def State.setPtp (s : State) (c : PtpClient) : State := { s with tb := { s.tb with ptp := c } }

/-- An Announce is kept; when the client comes to follow another master, it measures afresh. -/
def State.ptpAnnounce (s : State) (m : PtpMsg) (d : PtpData) : State :=
  let c := s.tb.ptp
  let old := s.ptpMaster.map (·.port)
  let s1 := s.setPtp { c with masters := c.masters.filter (fun x => x.port ≠ m.source)
                                ++ [{ port := m.source, data := d, logInterval := m.logInterval, at_ := s.clock }] }
  if s1.ptpMaster.map (·.port) = old then s1 else s1.setPtp { masters := s1.tb.ptp.masters, reqSeq := c.reqSeq }

/-- The offset of the last complete Sync, once the path delay is known: master time minus store time (R41, R44). (Log 107 PRESUMED) -/
def State.ptpOffset (s : State) (ferr : Int) : State :=
  match s.tb.ptp.pair, s.tb.ptp.delay with
  | some (t1, t2), some d => s.measured (t1 + d - t2) ferr
  | _, _ => s

/-- An interval that the client accepts (R41). -/
def logOk (l : Int) : Bool := -7 ≤ l && l ≤ 1

/-- A message of the master that the client follows. (Log 107 PRESUMED) -/
def State.ptpFrom (s : State) (m : PtpMsg) : State :=
  let c := s.tb.ptp
  let now : Int := Int.ofNat s.tb.time.toNat
  match m.body with
  | .sync two origin =>
    if !logOk m.logInterval then s
    else
      let c1 := { c with syncAt := some s.clock, syncLog := m.logInterval }
      if two then s.setPtp { c1 with twoStep := some (m.seq, now) }
      else (s.setPtp { c1 with twoStep := none, pair := some (origin, now) }).ptpOffset m.ferr
  | .followUp precise =>
    match c.twoStep with
    | some (q, t2) => if q = m.seq then (s.setPtp { c with twoStep := none, pair := some (precise, t2) }).ptpOffset m.ferr else s
    | none => s
  | .delayResp t4 =>
    match c.req, c.pair with
    | some (q, t3), some (t1, t2) =>
      if q = m.seq && logOk m.logInterval then
        s.setPtp { c with req := none, reqLog := m.logInterval, delay := some (rneDiv ((t2 - t1) + (t4 - t3)) 2) }
      else s
    | _, _ => s
  | _ => s

/-- A PTP message reaches the client: those of its transport and domain count, and of these the ones of the master that it follows (R41). -/
def State.ptpReceive (s : State) (m : PtpMsg) : State :=
  if m.transport ≠ s.host.live.ptpTransport || m.domain ≠ s.host.live.ptpDomain then s
  else
    match m.body with
    | .announce d => s.ptpAnnounce m d
    | _ => if s.ptpFollows m.source then s.ptpFrom m else s

/-- The source is lost (R45): no master's announce receipt timeout runs, or four Sync intervals have passed without a Sync. -/
def State.ptpLost (s : State) : Bool :=
  s.ptpMaster.isNone || match s.tb.ptp.syncAt with
    | some t => t + 4 * intervalNs s.tb.ptp.syncLog ≤ s.clock
    | none => false

/-- PTP_ANNOUNCE_TIMEOUT: the announce receipt timeout, or four Sync intervals without a Sync (R45). (Log 80 DESIGN CHOICE) -/
def execPtpAnnounceTimeout (s : State) : Out := .next (if s.ready && s.host.live.usesPtp && s.ptpLost then s.loseSource else s)

/-- PTM_DIALOGUE: the master's time and the frequency error, or a failed dialogue (R42, R45). (Log 80 DESIGN CHOICE) -/
def execPtmDialogue (r : Option (U64 × Int)) (s : State) : Out :=
  if !s.ready || s.source ≠ 3 then .next s
  else
    match r with
    | some (m, ferr) =>
      let s1 := { s with tb := { s.tb with ptmFails := 0 } }
      .next (s1.measured (offsetOf s.tb.time (m + s.host.live.ptmOffset)) ferr)
    | none =>
      let s1 := { s with tb := { s.tb with ptmFails := s.tb.ptmFails + 1 } }
      .next (if 3 ≤ s1.tb.ptmFails then s1.loseSource else s1)

/-- DELAY_NS (R502). -/
def Settings.delayNs (c : Settings) : Int := (c.ppsCfg.setWidth 32).toInt

/-- PPS_IN_EDGE: the second that the last valid message gave for this edge, plus DELAY_NS (R43); two edges in a row without one lose the
source (R45). (Log 80 DESIGN CHOICE) -/
def execPpsInEdge (ferr : Int) (s : State) : Out :=
  if !s.ready || s.source ≠ 4 then .next s
  else
    match s.tb.todSecond with
    | some sec =>
      let s1 := { s with tb := { s.tb with edgeAt := some s.clock, todSecond := none, ppsMissed := 0 } }
      let t : U64 := BitVec.ofNat 64 (sec * 1000000000) + BitVec.ofInt 64 s.host.live.delayNs
      .next (s1.measured (offsetOf s.tb.time t) ferr)
    | none =>
      let s1 := { s with tb := { s.tb with edgeAt := some s.clock, ppsMissed := s.tb.ppsMissed + 1 } }
      .next (if 2 ≤ s1.tb.ppsMissed then s1.loseSource else s1)

/-- 1.5 s have passed since the last edge (R45). -/
def State.edgeLate (s : State) : Bool := match s.tb.edgeAt with | some t => t + 1500000000 ≤ s.clock | none => true

/-- PPS_EDGE_TIMEOUT: 1.5 s without an edge (R45). -/
def execPpsEdgeTimeout (s : State) : Out := .next (if s.ready && s.source = 4 && s.edgeLate then s.loseSource else s)

/-! ### Time of day (R43, R527) -/

/-- XOR of bytes. -/
def xorBytes (b : List Byte) : Byte := b.foldl (· ^^^ ·) 0

/-- An uppercase hexadecimal digit, and the digits of a decimal number, in ASCII. -/
def hexDigit (v : Nat) : Byte := BitVec.ofNat 8 (if v < 10 then 48 + v else 55 + v)
def decDigits : Nat → Nat → List Byte
  | 0, _ => []
  | fuel + 1, v => (if v < 10 then [] else decDigits fuel (v / 10)) ++ [BitVec.ofNat 8 (48 + v % 10)]

/-- "KTOD," in ASCII. -/
def ktod : List Byte := [0x4B, 0x54, 0x4F, 0x44, 0x2C]

/-- A time-of-day line: `$KTOD,<seconds>,<status>*<check>` CR LF (R43). -/
def todLine (sec : Nat) (valid : Bool) : List Byte :=
  let body := ktod ++ decDigits 24 sec ++ [0x2C, if valid then 0x56 else 0x4E]
  let x := (xorBytes body).toNat
  0x24 :: body ++ [0x2A, hexDigit (x / 16), hexDigit (x % 16), 0x0D, 0x0A]

/-- The digits at the front of a line: their value, their count and the rest. -/
def readDigits : List Byte → Nat → Nat → Nat × Nat × List Byte
  | [], v, n => (v, n, [])
  | b :: t, v, n => if 48 ≤ b.toNat && b.toNat ≤ 57 then readDigits t (10 * v + (b.toNat - 48)) (n + 1) else (v, n, b :: t)

/-- The TAI second of a valid message (R43): right form, right check, status V. -/
def readTod (line : List Byte) : Option Nat :=
  if line.take 6 ≠ 0x24 :: ktod then none
  else
    match readDigits (line.drop 6) 0 0 with
    | (sec, n, [c1, st, star, h1, h0, cr, lf]) =>
      let body := (line.drop 1).take (5 + n + 2)
      let x := (xorBytes body).toNat
      if n ≠ 0 && c1 = 0x2C && st = 0x56 && star = 0x2A && h1 = hexDigit (x / 16) && h0 = hexDigit (x % 16) && cr = 0x0D && lf = 0x0A
      then some sec else none
    | _ => none

/-- The window for a time-of-day message: 100 ms to 900 ms after the last edge, both included (R43). -/
def State.todWindow (s : State) : Bool :=
  match s.tb.edgeAt with | some t => t + 100000000 ≤ s.clock && s.clock ≤ t + 900000000 | none => false

/-- TOD_RX_MESSAGE: a valid message inside the window gives the second of the next edge; any other is ignored (R43). (Log 80 DESIGN CHOICE) -/
def execTodRxMessage (line : List Byte) (s : State) : Out :=
  if !s.ready || !s.todWindow then .next s
  else
    match readTod line with
    | some sec => .next { s with tb := { s.tb with todSecond := some sec } }
    | none => .next s

/-- PPS_OUT_EDGE: at the whole second of store time PPS_OUT rises, for 10 ms (R43). -/
def execPpsOutEdge (s : State) : Out :=
  if !s.ready then .next s
  else
    let s1 := s.passTo (nextSecond s.tb.time.toNat)
    .next { s1 with board := { s1.board with ppsHigh := 10000000 } }

/-- TOD_TX_SEND: the message of R527, with the second of the next PPS_OUT edge. -/
def execTodTxSend (s : State) : Out :=
  if !s.ready then .next s
  else .next { s with tb := { s.tb with todTx := todLine (s.tb.time.toNat / 1000000000 + 1) (s.tb.state = 2 || s.tb.state = 3) } }

/-- The interface that the PTP client sends from (R502). -/
def State.ptpIface (s : State) : Option (Nat × Iface) :=
  s.ing.ifaces.find? (fun x => x.2.mac = s.host.live.ptpMac && x.2.vlan = s.host.live.ptpVlan)

/-- A frame of an interface leaves by it. -/
def viaOf (x : Nat × Iface) : Via := { iface := x.1, mac := x.2.mac, vlan := x.2.vlan, src := x.2.macAddr }

/-- PTP_DELAY_REQ_SEND: the PTP client sends a Delay_Req to the master that it follows (R41). -/
def execPtpDelayReqSend (s : State) : Out :=
  if !s.ready || !s.host.live.usesPtp || s.ptpMaster.isNone then .next s
  else
    match s.ptpIface with
    | none => .next s
    | some x =>
      let q := s.tb.ptp.reqSeq
      let s1 := s.setPtp { s.tb.ptp with req := some (q, Int.ofNat s.tb.time.toNat), reqSeq := q + 1 }
      .next { s1 with tb := { s1.tb with delayReqs := s1.tb.delayReqs + 1 }
                      ing := { s1.ing with sent := s1.ing.sent ++ [.delayReq (viaOf x) q] } }

/-! ### Applying the commit groups TB_SRC and TB_PHASE (R40, R53, R438) -/

/-- The staged TB_SRC group is in range (R38, R41 to R43, R502). -/
def tbSrcOk (s : State) (c : Settings) : Bool :=
  let ptp := c.ptpCfg.toNat
  c.srcSel.toNat ≤ 4 && bits ptp 63 34 = 0 && bits ptp 31 28 = 0 && bits ptp 11 10 = 0 && bits ptp 7 7 = 0
    && bits ptp 27 16 ≠ 4095 && 2 ≤ bits ptp 15 12 && bits ptp 15 12 ≤ 10 && bits ptp 9 8 ≠ 3
    && 1 ≤ c.ptmInterval.toNat && c.ptmInterval.toNat ≤ 1000 && bits c.ppsCfg.toNat 63 32 = 0 && c.delayNs.natAbs ≤ 1000000
    && (!c.usesPtp || s.ing.ifaces.any (fun x => x.2.mac = c.ptpMac && x.2.vlan = c.ptpVlan))

/-- A TB_SRC group in force (R40). The SOURCE_CHANGE and HOLDOVER_ENTER events of a change both carry the source that it selects. New PTP
settings start the client afresh. (Log 81 DEDUCED, 134 DESIGN CHOICE) -/
def State.applyTbSrc (s : State) (c : Settings) : State :=
  let old := s.host.live
  let s1 := { s with
    host := { s.host with live := { old with
      srcSel := c.srcSel, ptpCfg := c.ptpCfg, ptmInterval := c.ptmInterval, ptmOffset := c.ptmOffset, ppsCfg := c.ppsCfg } }
    tb := { s.tb with ptp := if c.srcSel = old.srcSel && c.ptpCfg = old.ptpCfg then s.tb.ptp else {} } }
  if c.srcSel = old.srcSel then s1
  else
    let s2 := { s1 with tb := { s1.tb with ptmFails := 0, ppsMissed := 0, todSecond := none, edgeAt := none } }
    if c.srcSel = 0 then (s2.tbEnter 0).timeEvent 5 0 0
    else if s2.tb.state = 2 then ((s2.tbEnter 3).timeEvent 5 0 0).timeEvent 3 0 s2.tb.ferr
    else (s2.tbEnter 1).timeEvent 5 0 0

/-- Code of a failing phase entry (R53); 0 when it is right. -/
def phaseEntryCode (c : Settings) (k : Nat) : Nat :=
  if 86399 < c.startS k || (List.range 8).any (fun j => 7 < c.opPref k j && c.opPref k j ≠ 0xFF) || c.lcWeight k = 0 || c.beWeight k = 0
      || bits (c.phaseHi k) 63 48 ≠ 0 then 0x0502
  else if k ≠ 0 && c.startS k ≤ c.startS (k - 1) then 0x0501
  else 0

/-- TB_PHASE_ERR of a staged phase table; 0 when it is right (R53, R502). -/
def phaseError (c : Settings) : Nat :=
  let n := c.phaseCount.toNat
  if n < 1 || 16 < n then 0x0502
  else
    match (List.range n).find? (fun k => phaseEntryCode c k ≠ 0) with
    | some k => phaseEntryCode c k + 0x10000 * k
    | none => 0

/-- A TB_PHASE group in force: the table, L, its event, and the phase (R46, R54). -/
def State.applyTbPhase (s : State) (c : Settings) : State :=
  let old := s.host.live
  let s1 := { s with host := { s.host with live := { old with phaseCount := c.phaseCount, localOffset := c.localOffset, phases := c.phases } } }
  let s2 := s1.rephase
  if c.localOffset = old.localOffset then s2 else s2.timeEvent 7 c.l 0

end Sys2Proof.Machine
end

