-- ==== Sys2Proof/Machine/Groups.lean ====
section
/-!
DEFINITION. The staged commit groups (R438, R439, R499), and the Ethernet ports (R64 to R66).
-/
namespace Sys2Proof.Machine

/-! ### Ports (R64 to R66) -/

def State.port (s : State) (n : Nat) : Port := tget {} s.ing.ports n
def State.setPort (s : State) (n : Nat) (p : Port) : State := { s with ing := { s.ing with ports := tset {} s.ing.ports n p } }

/-- The LINK bits of a port change: doorbell bit LINK is set (R66, R436). -/
def State.setLink (s : State) (n : Nat) (l : BitVec 4) : State :=
  if (s.port n).link = l then s else (s.setPort n { s.port n with link := l }).ringDevice 2

def Settings.portCfg (c : Settings) (n : Nat) : Nat := if n = 0 then c.port0.toNat else c.port1.toNat

/-- The ETH_INGRESS licence is in force (R469). -/
def State.ethLicensed (s : State) : Bool := s.sec.features.getLsbD 0

/-- A port trains and runs: enabled and licensed (R65, R470). -/
def State.portOn (s : State) (n : Nat) : Bool := bitAt (s.host.live.portCfg n) 0 && s.ethLicensed

/-- MAC 4n + k is in use in the port's mode (R64). -/
def State.macInUse (s : State) (mac : Nat) : Bool :=
  match bits (s.host.live.portCfg (mac / 4)) 5 4 with
  | 0 => mac % 4 = 0
  | 1 => mac % 2 = 0
  | _ => true

/-- A port trains: it is on and has no link (R65, R66). Dropping its links makes it train again. (Log 38 DEDUCED) -/
def State.trains (s : State) (n : Nat) : Bool := s.ready && s.portOn n && (s.port n).link = 0

/-- ETH_PORT_LINK_CHANGE: a MAC gains or loses its link (R66). The first link of a training is recorded (R450, R453). (Log 38 DEDUCED) -/
def execEthPortLinkChange (mac : Nat) (up : Bool) (s : State) : Out :=
  if 8 ≤ mac then noUnit
  else
    let n := mac / 4
    let b : BitVec 4 := BitVec.ofNat 4 (2 ^ (mac % 4))
    if up then
      if !s.ready || !s.portOn n || !s.macInUse mac then .next s
      else
        let s1 := if s.trains n then s.journal recEth ([BitVec.ofNat 8 n, 0] ++ List.replicate 6 0) else s
        let s2 := s1.setPort n { s1.port n with trainFail := false }
        .next (s2.setLink n ((s2.port n).link ||| b))
    else .next (s.setLink n ((s.port n).link &&& ~~~b))

/-- ETH_PORT_TRAIN_FAIL: the attempt is recorded; the other port stays in service (R66, R450). (Log 38 DEDUCED) -/
def execEthPortTrainFail (port : Nat) (s : State) : Out :=
  if 2 ≤ port then noUnit
  else if !s.trains port then .next s
  else .next ((s.setPort port { s.port port with trainFail := true }).journal recEth ([BitVec.ofNat 8 port, 1] ++ List.replicate 6 0))

/-- ING_PORTn_CFG holds defined values (R65). -/
def portCfgOk (v : Nat) : Bool := bits v 63 8 = 0 && bits v 7 6 ≤ 1 && bits v 5 4 ≠ 3 && bits v 3 1 = 0

/-! ### Asking for a COMMIT (R438) -/

/-- Bit of a device-wide group (R499); a queue's group lies in its own registers. -/
def groupBit : Group → Nat
  | .ingPort n => n.val
  | .ingSp => 2
  | .tbSrc => 3
  | .tbPhase => 4
  | .glbBar4 => 5
  | .pwr => 6
  | .queue _ => 7

def maskBit (i : Nat) : BitVec 7 := BitVec.ofNat 7 (2 ^ i)

/-- COMMIT of device-wide groups is written 1. -/
def State.askGroups (s : State) (m : BitVec 7) : State := { s with host := { s.host with commit := s.host.commit ||| m } }

/-- COMMIT of a device-wide group reads 1. -/
def State.asked (s : State) (i : Nat) : Bool := s.host.commit.getLsbD i

/-! ### Applying a group (R438) -/

/-- The staged slow-path group is in range (R72, R504). -/
def spOk (c : Settings) : Bool :=
  16 ≤ c.sprxSize.toNat && c.sprxSize.toNat ≤ 26 && 16 ≤ c.sptxSize.toNat && c.sptxSize.toNat ≤ 26
    && c.sprxBase.toNat % 4096 = 0 && c.sptxBase.toNat % 4096 = 0 && c.spRate.toNat ≤ 1000000

/-- PWR_CTL holds defined values (R489). -/
def pwrCtlOk (v : Nat) : Bool := bits v 63 17 = 0 && (bits v 15 0 = 0 || (100 ≤ bits v 15 0 && bits v 15 0 ≤ 1000))

/-- GLB_BAR4_MAP holds defined values (R406). -/
def bar4MapOk (v : Nat) : Bool := bits v 63 35 = 0 && bits v 27 0 = 0

/-- The whole staged group passes its checks. (Log 97 DEDUCED) -/
def State.groupOk (s : State) (g : Group) : Bool :=
  let c := s.host.staged
  match g with
  | .ingPort n => portCfgOk (c.portCfg n.val)
  | .ingSp => spOk c
  | .tbSrc => tbSrcOk s c
  | .tbPhase => phaseError c = 0 && bits c.localOffset.toNat 63 32 = 0
  | .glbBar4 => bar4MapOk c.bar4Map.toNat
  | .pwr => pwrCtlOk c.pwrCtl.toNat
  | .queue q => (s.queue q.val).stagedOk

def State.setLive (s : State) (c : Settings) : State := { s with host := { s.host with live := c } }

/-- The slow-path group in force: all four indices restart at 0 (R439). -/
def State.applySp (s : State) (c : Settings) : State :=
  let s1 := s.setLive { s.host.live with sprxBase := c.sprxBase, sprxSize := c.sprxSize, sptxBase := c.sptxBase, sptxSize := c.sptxSize, spRate := c.spRate }
  { s1 with ing := { s1.ing with sprxProd := 0, sprxCons := 0, sptxProd := 0, sptxCons := 0 } }

/-- Every field of a group in force. A port's group drops its links, also when the staged value is the one in force (R65).
(Log 135 DESIGN CHOICE) -/
def State.groupApply (s : State) (g : Group) : State :=
  let c := s.host.staged
  match g with
  | .ingPort n =>
    (s.setLive (if n.val = 0 then { s.host.live with port0 := c.port0 } else { s.host.live with port1 := c.port1 })).setLink n.val 0
  | .ingSp => s.applySp c
  | .tbSrc => s.applyTbSrc c
  | .tbPhase => s.applyTbPhase c
  | .glbBar4 => s.setLive { s.host.live with bar4Map := c.bar4Map }
  | .pwr => s.setLive { s.host.live with pwrCtl := c.pwrCtl }
  | .queue q => s.applyQueue q.val

/-- COMMIT of a group reads 1. -/
def State.groupAsked (s : State) (g : Group) : Bool :=
  match g with
  | .queue q => (s.queue q.val).commit
  | g => s.asked (groupBit g)

/-- COMMIT clears itself; INVALID is set when the group was refused. -/
def State.groupDone (s : State) (g : Group) (bad : Bool) : State :=
  match g with
  | .queue q => s.setQueue q.val { s.queue q.val with commit := false, invalid := (s.queue q.val).invalid || bad }
  | g =>
    let m := maskBit (groupBit g)
    { s with host := { s.host with commit := s.host.commit &&& ~~~m, invalid := if bad then s.host.invalid ||| m else s.host.invalid } }

/-- Slow-path entries are in transfer. -/
def State.slowBusy (s : State) : Bool := s.pcie.xfers.any (fun x => x.owner.path = 2)

/-- The owning block is at the group's safe point (R439): no fetch of the queue, no slow-path entry in transfer. (Log 97 DEDUCED) -/
def State.safePoint (s : State) (g : Group) : Bool :=
  match g with
  | .queue q => !(s.queue q.val).fetching
  | .ingSp => !s.slowBusy
  | _ => true

/-- A refused group: TB_PHASE_ERR, INVALID and COMMIT_INVALID (R53, R438). -/
def State.groupRefuse (s : State) (g : Group) : State :=
  let s1 := match g with
    | .tbPhase =>
      if phaseError s.host.staged = 0 then s
      else { s with tb := { s.tb with phaseErr := BitVec.ofNat 32 (phaseError s.host.staged) } }
    | _ => s
  (s1.groupDone g true).ringDevice 8

/-- A group that was asked for is applied whole, or refused whole. -/
def State.commitGroup (s : State) (g : Group) : State :=
  if s.groupOk g then (s.groupApply g).groupDone g false else s.groupRefuse g

/-- The first multiple of a period at or after store time; the present one when it fell within this SYS_CLK cycle. -/
def nextMultiple (now period : Nat) : Nat := if now % period < 40 then now else (now / period + 1) * period

/-- Store time of the safe point: the next whole ms for TB_PHASE, the next shift step for PWR, at once otherwise (R439, R489). -/
def State.safeTime (s : State) (g : Group) : Nat :=
  match g with
  | .tbPhase => nextMultiple s.tb.time.toNat 1000000
  | .pwr => nextMultiple s.tb.time.toNat 10000000
  | _ => s.tb.time.toNat

/-- GROUP_APPLY (R438). (Log 97 DEDUCED) -/
def execGroupApply (g : Group) (s : State) : Out :=
  if s.groupAsked g && s.safePoint g then .next ((s.passTo (s.safeTime g)).commitGroup g) else .next s

/-! ### Staging (R438) -/

/-- A write to ST fields of a device-wide group: stored, or refused with BUSY while COMMIT reads 1. -/
def State.stage (s : State) (i : Nat) (f : Settings → Settings) : State :=
  if s.asked i then { s with host := { s.host with busy := s.host.busy ||| maskBit i } }
  else { s with host := { s.host with staged := f s.host.staged } }

/-- The same for a queue's group. -/
def State.stageQueue (s : State) (q : Nat) (f : Queue → Queue) : State :=
  let Q := s.queue q
  s.setQueue q (if Q.commit then { Q with busy := true } else f Q)

end Sys2Proof.Machine
end

