-- ==== Sys2Proof/Machine/Membership.lean ====
section
/-!
DEFINITION. Group membership: addresses, what the interfaces and demux entries join, reports and leaves, and queries (R69, R70).
-/
namespace Sys2Proof.Machine

/-! ### Addresses: byte 0 lowest (R74) -/

def addrByte (a : BitVec 128) (i : Nat) : Nat := a.toNat / 256 ^ i % 256
def addrOf (l : List Nat) : BitVec 128 := BitVec.ofNat 128 (l.foldr (fun b a => b + 256 * a) 0)
def macOf (l : List Nat) : BitVec 48 := BitVec.ofNat 48 (l.foldr (fun b a => b + 256 * a) 0)

/-- A multicast destination. -/
def isMulticast (family : Nat) (a : BitVec 128) : Bool :=
  if family = 4 then 224 ≤ addrByte a 0 && addrByte a 0 ≤ 239 else addrByte a 0 = 255

/-- The Ethernet address of a group: an IPv6 group begins with 0xFF, an IPv4 group does not. -/
def groupMac (g : BitVec 128) : BitVec 48 :=
  if addrByte g 0 = 255 then macOf [0x33, 0x33, addrByte g 12, addrByte g 13, addrByte g 14, addrByte g 15]
  else macOf [0x01, 0x00, 0x5E, addrByte g 1 % 128, addrByte g 2, addrByte g 3]

/-- The solicited-node group of an IPv6 address. -/
def solicitedNode (a : BitVec 128) : BitVec 128 :=
  addrOf [0xFF, 0x02, 0, 0, 0, 0, 0, 0, 0, 0, 0, 1, 0xFF, addrByte a 13, addrByte a 14, addrByte a 15]

/-! ### Membership (R69, R70) -/

/-- A demux entry joins its group on an interface. -/
def Dmx.joinsOn (d : Dmx) (i : Iface) : Bool :=
  isMulticast d.family d.dst && d.ports.getLsbD (i.mac / 4) && (d.vlan = 0xFFFF || d.vlan.toNat = i.vlan)

/-- A list without repeats, first occurrences kept. -/
def dedup (l : List (BitVec 128)) : List (BitVec 128) := l.foldl (fun a x => if a.contains x then a else a ++ [x]) []

/-- Sources of a membership: INCLUDE of at most 8 sources when every entry names one, else EXCLUDE of the empty set. -/
def sourcesOf (l : List Dmx) : List (BitVec 128) :=
  let src := dedup (l.map (·.src))
  if l.any (fun d => d.src = 0) || 8 < src.length then [] else src

/-- Groups an interface belongs to, with their sources: the demux entries that join there count, and no others. (Log 110 DESIGN CHOICE) -/
def groupsOn (dmx : Tbl Dmx) (i : Iface) : List (BitVec 128 × List (BitVec 128)) :=
  let d := (dmx.map (·.2)).filter (fun d => d.joinsOn i)
  let sol := dedup (([i.ipv6a, i.ipv6b].filter (· ≠ 0)).map solicitedNode)
  (dedup (d.map (·.dst))).map (fun g => (g, sourcesOf (d.filter (fun x => x.dst = g))))
    ++ (sol.filter (fun g => !d.any (fun x => x.dst = g))).map (fun g => (g, []))

/-- The membership table that interfaces and demux entries call for. -/
def membersOf (ifaces : Tbl Iface) (dmx : Tbl Dmx) : List (Nat × BitVec 128 × List (BitVec 128)) :=
  ifaces.flatMap (fun x => (groupsOn dmx x.2).map (fun g => (x.1, g.1, g.2)))

/-- The version of IGMP or MLD that an interface uses: the oldest of the queriers heard there (RFC 3376, RFC 3810). (Log 133 PRESUMED) -/
def State.hostVersion (s : State) (i : Nat) (v6 : Bool) : Nat :=
  (s.ing.queriers.filter (fun q => q.iface = i && q.v6 = v6 && s.clock < q.until_)).foldl (fun v q => min v q.version) (if v6 then 2 else 3)

/-- A group's family. -/
def isV6 (g : BitVec 128) : Bool := addrByte g 0 = 255

/-- Before version 3 of IGMP and version 2 of MLD there are no sources, and IGMP version 1 has no leave. -/
def fullVersion (v6 : Bool) (v : Nat) : Bool := if v6 then v = 2 else v = 3

def State.reportOf (s : State) (i : Nat) (g : BitVec 128) (src : List (BitVec 128)) : NetOut :=
  let v := s.hostVersion i (isV6 g)
  .groupReport i v g (if fullVersion (isV6 g) v then src else [])

def State.leaveOf (s : State) (i : Nat) (g : BitVec 128) : List NetOut :=
  let v := s.hostVersion i (isV6 g)
  if !isV6 g && v = 1 then [] else [.groupLeave i v g]

/-- The membership table follows the tables; each join and leave sends a report at once and one more later (R70). -/
def State.rejoinGroups (s : State) : State :=
  let new := membersOf s.ing.ifaces s.ing.dmx
  let joined := new.filter (fun m => !s.ing.members.contains m)
  let left := s.ing.members.filter (fun m => !new.any (fun x => x.1 = m.1 && x.2.1 = m.2.1))
  let due := (joined ++ left).map (fun m => (m.1, m.2.1))
  { s with ing := { s.ing with
    members := new, reports := s.ing.reports.filter (fun r => !due.contains r) ++ due
    sent := s.ing.sent ++ joined.map (fun m => s.reportOf m.1 m.2.1 m.2.2) ++ left.flatMap (fun m => s.leaveOf m.1 m.2.1) } }

/-- The report of a group as the membership stands. -/
def State.memberReport (s : State) (i : Nat) (g : BitVec 128) : List NetOut :=
  match s.ing.members.find? (fun m => m.1 = i && m.2.1 = g) with | some m => [s.reportOf i g m.2.2] | none => s.leaveOf i g

/-- MCAST_STATE_CHANGE_REPORT: the second report of a join or leave (R70). -/
def execMcastStateChangeReport (i : Nat) (g : BitVec 128) (s : State) : Out :=
  if 32 ≤ i then noUnit
  else if !s.ready || !s.ing.reports.contains (i, g) then .next s
  else .next { s with ing := { s.ing with reports := s.ing.reports.filter (· ≠ (i, g)), sent := s.ing.sent ++ s.memberReport i g } }

/-! ### Queries (R70, RFC 3376, RFC 3810) -/

/-- How long an older querier counts as present: twice the query interval of 125 s, and 10 s. (Log 133 PRESUMED) -/
def oldQuerierNs : Nat := 260000000000

/-- A querier of an older version is noted for the interface. -/
def State.hearQuerier (s : State) (i : Nat) (q : GroupQuery) : State :=
  if fullVersion q.v6 q.version then s
  else { s with ing := { s.ing with
    queriers := s.ing.queriers.filter (fun x => !(x.iface = i && x.v6 = q.v6 && x.version = q.version))
      ++ [{ iface := i, v6 := q.v6, version := q.version, until_ := s.clock + oldQuerierNs }] } }

/-- What a membership answers: to a general query and to one for its group, its report; to one that names sources too, those that it
takes. -/
def State.queryAnswer (s : State) (i : Nat) (q : GroupQuery) (m : Nat × BitVec 128 × List (BitVec 128)) : List NetOut :=
  if m.1 ≠ i || isV6 m.2.1 ≠ q.v6 || (q.group ≠ 0 && q.group ≠ m.2.1) then []
  else if q.sources.isEmpty || !fullVersion q.v6 (s.hostVersion i q.v6) then [s.reportOf i m.2.1 m.2.2]
  else
    let taken := if m.2.2.isEmpty then q.sources else q.sources.filter m.2.2.contains
    if taken.isEmpty then [] else [.sourceReport i (s.hostVersion i q.v6) m.2.1 taken]

/-- A query on an interface (R70). -/
def State.answerQuery (s : State) (i : Nat) (q : GroupQuery) : State :=
  let s1 := s.hearQuerier i q
  { s1 with ing := { s1.ing with sent := s1.ing.sent ++ s1.ing.members.flatMap (s1.queryAnswer i q) } }

end Sys2Proof.Machine
end

