-- ==== Sys2Proof/Machine/Reset.lean ====
section
/-!
DEFINITION. Function-level reset and the events that act like it (R414, R415, R510), and what a device restart removes (R456).
-/
namespace Sys2Proof.Machine

/-- Groups of R499 whose registers a reset keeps (R510). -/
def keptGroups : List Group := [.ingPort 0, .ingPort 1, .tbSrc, .tbPhase, .pwr]

/-- A kept group whose COMMIT reads 1 is applied before the reset completes (R510). (Log 97 DEDUCED) -/
def State.applyKept (s : State) : State := keptGroups.foldl (fun s g => if s.groupAsked g then s.commitGroup g else s) s

/-- Allocations that serve no partition and no sitter: contexts and firmware copies (R22, R392). (Log 39 DESIGN CHOICE) -/
def deviceAllocs (l : List (Nat × Nat)) : List (Nat × Nat) := l.filter (fun m => m.1 < firmwareBase + firmwareBytes)

/-- The configuration space, and the bits that the standard makes sticky or that show the link. (Log 11 PRESUMED) -/
def Pcie.resetConfig (p : Pcie) : Pcie :=
  { linkUp := p.linkUp, linkDue := p.linkDue, speed := p.speed, width := p.width, retrains := p.retrains, aer := p.aer, uncStatus := p.uncStatus
    uncMask := p.uncMask, uncSeverity := p.uncSeverity, corStatus := p.corStatus, corMask := p.corMask, firstError := p.firstError
    linkCtl2 := p.linkCtl2, discards := p.discards, aborts := p.aborts, reply := p.reply, hostMem := p.hostMem, posted := p.posted
    xfers := p.xfers, nextXfer := p.nextXfer, lastPath := p.lastPath, reads := p.reads, pba := p.pba, captures := p.captures
    intaAsserted := p.intaAsserted, flrNs := p.flrNs }

/-- MSI-X table back at its reset values is part of `resetConfig`; a device restart keeps both (R456). -/
def State.resetConfig (s : State) : State := { s with pcie := s.pcie.resetConfig }

/-- Memory groups return to ACTIVE under R393: those that have left it, and those on their way out. -/
def Mem.returnGroups (m : Mem) : Tbl Nat := (m.groups ++ m.moving).foldl (fun t x => tinsert t x.1 0) []

/-- The memory after host-created state is gone: partitions' ranges and granules and the Curator's allocations for them wait for
zeros (R379, R414). -/
def State.resetMem (s : State) : State :=
  let m := s.mem
  let keep := deviceAllocs m.allocs
  { s with mem := { m with
      allocs := keep
      zeroing := m.zeroing ++ m.allocs.filter (fun a => !keep.contains a) ++ s.parts.flatMap (fun x => x.2.ranges)
      zeroGal := m.zeroGal ++ s.parts.flatMap (fun x => x.2.gallery)
      moving := m.returnGroups, counters := [], arrived := [], barGen := [] } }

/-- The settings a reset returns to their reset values: the slow path, and GLB_BAR4_MAP when `bar4` holds. -/
def Settings.afterReset (c : Settings) (bar4 : Bool) : Settings :=
  let z : Settings := {}
  { c with sprxBase := z.sprxBase, sprxSize := z.sprxSize, sptxBase := z.sptxBase, sptxSize := z.sptxSize, spRate := z.spRate
           bar4Map := if bar4 then z.bar4Map else c.bar4Map }

/-- Host-facing registers: queues, rings, mailboxes and doorbells at their reset values; of the groups, ING_SP and GLB_BAR4 lose their
COMMIT, BUSY and INVALID. A device restart keeps GLB_BAR4_MAP and applies its pending COMMIT first. -/
def HostIf.afterReset (h : HostIf) (bar4 : Bool) : HostIf :=
  let keep : BitVec 7 := if bar4 then 0b1011011 else 0b1111011
  { staged := h.staged.afterReset bar4, live := h.live.afterReset bar4, commit := h.commit &&& keep, busy := h.busy &&& keep
    invalid := h.invalid &&& keep, taiUtc := h.taiUtc }

/-- The demux table and the slow path cleared (R96). -/
def Ingress.afterReset (i : Ingress) : Ingress :=
  { i with dmx := [], sprxProd := 0, sprxCons := 0, sptxProd := 0, sptxCons := 0, sprxDrop := 0 }

/-- The ingress engine after a reset: it leaves the groups of the demux entries, and stays in the solicited-node groups of the interfaces that
it keeps (R69, R96). -/
def State.clearIngress (s : State) : State := ({ s with ing := s.ing.afterReset } : State).rejoinGroups

/-- Engines without work; DBG_ENG counters are kept (R510). -/
def Med.afterReset (m : Med) : Med :=
  { engines := m.engines.map (fun x => (x.1, { x.2 with job := none, lastSitter := none }))
    fus := m.fus.map (fun x => (x.1, { x.2 with job := none })), mss := m.mss.map (fun x => (x.1, { x.2 with job := none })) }

/-- Measurement registers of a set cleared, with counts and entries (R473). -/
def Sec.clearRegs (c : Sec) (l : List Nat) : Sec :=
  { c with m := c.m.filter (fun x => !l.contains x.1), counts := c.counts.filter (fun x => !l.contains x.1)
           log := c.log.filter (fun e => !l.contains e.reg) }

/-- Every Easel is halted; their outstanding PUTs may have written any of their lines (R281), in memory that gets zeros next. (Log 94 DEDUCED) -/
def State.clearHost (s : State) (bar4 : Bool) : State :=
  let s1 := s.applyKept
  let s2 := (if bar4 || !s1.groupAsked .glbBar4 then s1 else s1.commitGroup .glbBar4).resetMem
  let s3 := { s2 with
    easels := [], parts := [], sitters := [], ateliers := [], disps := [], primers := [], lastLoan := 15
    host := s2.host.afterReset bar4, med := s2.med.afterReset
    pcie := { s2.pcie with xfers := [], reads := [], pba := 0, captures := [], intaAsserted := false } }
  s3.clearIngress

/-- ns that a function-level reset takes at most (R414). -/
def flrMax : Nat := 10000000

/-- A function-level reset (R414). During a start sequence only the configuration space resets (R415). It stands done at once and goes on
for a free time of at most 10 ms, in which the host's requests are turned away. (Log 24 DEDUCED, 112 DESIGN CHOICE) -/
def State.flr (s : State) : State :=
  let (x, s0) := s.draw
  let s1 := if !s0.ready then s0.resetConfig
    else
      let s1 := (s0.clearHost true).resetConfig
      { s1 with sec := { s1.sec.clearRegs [4, 5, 6] with flrs := s1.sec.flrs + 1 } }
  { s1 with pcie := { s1.pcie with flrNs := x.toNat % (flrMax + 1) } }

/-- FLR (R414). -/
def execFlr (s : State) : Out := .next s.flr
/-- PERST_N_ASSERT (R415). (Log 24 DEDUCED) -/
def execPerstNAssert (s : State) : Out := .next s.flr
/-- HOT_RESET (R415). -/
def execHotReset (s : State) : Out := .next s.flr

/-- LINK_DOWN: the link goes down; after ST20 this has the effect of an FLR (R415). (Log 24 DEDUCED) -/
def execLinkDown (s : State) : Out :=
  let s1 := if s.ready then s.flr else s
  .next { s1 with pcie := { s1.pcie with linkUp := false, linkDue := false, speed := 0, width := 0 } }

/-- The function leaves D3hot (R415). -/
def State.leaveD3 (s : State) : State := if s.pcie.d3hot then s.flr else s

/-- D3HOT_TO_D0 (R415). -/
def execD3hotToD0 (s : State) : Out := .next s.leaveD3

/-- The Curator has read the journal at this start and may write to it. -/
def Boot.journalOpen (b : Boot) : Bool := (tget {} b.steps 7).result ≠ 0

/-- The PCIE_LINK record of a link that came up degraded, once the journal is open (R400, R453). -/
def State.recordLink (s : State) : State :=
  if s.pcie.linkDue && s.boot.journalOpen then
    { s with pcie := { s.pcie with linkDue := false } }.journal recPcie
      ([BitVec.ofNat 8 s.pcie.speed, BitVec.ofNat 8 s.pcie.width] ++ List.replicate 6 0)
  else s

/-- The link comes up at a speed and a width (R400). -/
def State.linkUp (s : State) (speed width : BitVec 4) : State :=
  if linkOk speed width then
    ({ s with pcie := { s.pcie with linkUp := true, speed := speed.toNat, width := width.toNat
                                    linkDue := speed.toNat < 5 || width.toNat < 4 } } : State).recordLink
  else s

/-- PCIE_LINK_UP: the link trains to a speed and a width; a degraded link is recorded (R400). -/
def execPcieLinkUp (speed width : BitVec 4) (s : State) : Out :=
  .next (if s.board.clocksStopped || s.pcie.linkUp || s.board.porAsserted then s else s.linkUp speed width)

end Sys2Proof.Machine
end

