-- ==== Sys2Proof/Machine/Start.lean ====
section
/-!
DEFINITION. The start sequence (R441 to R451): what each step decides and does.
-/
namespace Sys2Proof.Machine

/-- Several free bytes. (Log 31 DESIGN CHOICE) -/
def State.freeBytes (s : State) (n : Nat) : List Byte × State :=
  ((List.range n).map (fun i => (Config.freeValue (s.free + i)).setWidth 8), { s with free := s.free + n })

/-! ### Outcomes (R443) -/

/-- JNL_STEPn.RESULT. -/
def rNotRun : Nat := 0
def rPass : Nat := 1
def rPassAlt : Nat := 2
def rFail : Nat := 3
def rSkipped : Nat := 4

/-- Steps with a persistent alternative. -/
def persistent (k : Nat) : Bool := [3, 9, 11, 13, 15, 16].contains k

/-- What a step came to. -/
structure StepRes where
  result   : Nat
  attempts : Nat
  code     : Nat := 0
  detail   : U16 := 0
  alt      : Bool := false
  deriving DecidableEq, Repr

/-- (Log 28 DEDUCED) -/
def obsOf (b : BootObs) (k : Nat) : Option StepObs := b.steps.find? (fun o => o.step = k)
def normalCode (b : BootObs) (k : Nat) : Nat := match obsOf b k with | some o => o.normal.toNat | none => 0
def altCode (b : BootObs) (k : Nat) : Nat := match obsOf b k with | some o => o.alt.toNat | none => 0
def detailOf (b : BootObs) (k : Nat) : U16 := match obsOf b k with | some o => o.detail | none => 0

/-- One or two attempts, given the codes of the normal method and of the alternative. -/
def attempt (useAlt hasAlt : Bool) (n a : Nat) (detail : U16) : StepRes :=
  if useAlt then { result := if a = 0 then rPassAlt else rFail, attempts := 1, code := a, detail := detail, alt := true }
  else if n = 0 then { result := rPass, attempts := 1 }
  else if !hasAlt then { result := rFail, attempts := 1, code := n, detail := detail }
  else if a = 0 then { result := rPassAlt, attempts := 2, code := n, alt := true }
  else { result := rFail, attempts := 2, code := a, detail := detail, alt := true }

/-! ### Links (R448, R451) -/

/-- Good lanes of a link in its two directions: 68 unless the observation lists it. -/
def lanesOf (b : BootObs) (l : Nat) : Nat × Nat := match b.lanes.find? (fun x => x.1 = l) with | some x => x.2 | none => (68, 68)

/-- A link with fewer than 32 good lanes in a direction. -/
def lanesDead (x : Nat × Nat) : Bool := x.1 < 32 || x.2 < 32
/-- A link with more than 4 bad lanes in a direction: half width. -/
def lanesHalf (x : Nat × Nat) : Bool := x.1 < 64 || x.2 < 64

/-- The links that ST09 loads from the journal: at a warm start, those that pass their pattern test. -/
def loadsLink (b : BootObs) (warm : Bool) (l : Nat) : Bool := warm && !b.lanes.any (fun x => x.1 = l)

/-- The body of the last STRETCHER, GDDR6 or MAXIMA record. -/
def Boot.lastBody (b : Boot) (type : U16) (index : Nat) : List Byte :=
  match lastRec b.sinceReset (fun r => r.type = type && (type = recMaxima || (r.body.getD 0 0).toNat = index)) with
  | r :: _ => r.body
  | [] => []

/-! ### Easels (R11, R481) -/

/-- Slots of a cluster that pass their self-test, ascending. -/
def slotsOk (b : BootObs) (c : Nat) : List Nat := (List.range 9).filter (fun i => b.selfTest.getLsbD (9 * c + i))

/-- The map of logical Easels (R11). -/
def easelMapOf (b : BootObs) : Tbl Nat :=
  (List.range 24).flatMap (fun c => ((slotsOk b c).take 8).zipIdx.map (fun x => (8 * c + x.2, 9 * c + x.1)))

/-- Spare slot of each cluster. -/
def spareMapOf (b : BootObs) : List Byte := (List.range 24).map (fun c => BitVec.ofNat 8 ((slotsOk b c).getD 8 0xFF))

/-- Exposed Easels of a compute die. -/
def exposedOn (b : BootObs) (die : Nat) : Nat :=
  ((List.range 4).map (fun c => min 8 (slotsOk b (4 * die + c)).length)).foldl (· + ·) 0

/-- Maxima of a MAXIMA record. -/
def maximaOf (body : List Byte) : Tbl Byte :=
  ((List.range 1728).map (fun i => (i, body.getD i 0))).filter (fun x => x.2 ≠ 0)

/-- The body of a MAXIMA record. -/
def maximaBody (t : Tbl Byte) : List Byte := (List.range 1728).map (fun i => tget 0 t i)

/-- The lowest logical Easel whose aged maximum falls below 400 MHz at some point (R481). (Log 33 DEDUCED) -/
def floorFail (map : Tbl Nat) (t : Tbl Byte) : Option Nat :=
  (map.find? (fun x => (List.range 8).any (fun p => agedMax (25 * (tget 0 t (8 * x.2 + p)).toNat) < 400))).map (·.1)

/-- The maxima that ST15 finds by a method: measured, or the journal's. (Log 33 DEDUCED) -/
def State.maximaBy (s : State) (b : BootObs) (journal : Bool) : Tbl Byte :=
  if journal then maximaOf (s.boot.lastBody recMaxima 0) else b.maxima

/-! ### Topology (R451, R467, R468) -/

/-- The topology of a Kyosum certificate. -/
def kyosumTopology : Topology := { dieSet := 0xFF, halfOk := 0x7E000, easels := [32, 32, 32, 32, 32, 32] }

/-- The topology that ST19 expects: the certificate's, or a Kyosum one (R468). -/
def State.topology (s : State) : Topology := s.sec.topology.getD kyosumTopology

/-- ST19: code and detail of the first check that fails. A die counts as in PWR_DIEn and die_set. (Log 32 DEDUCED) -/
def State.agreement (s : State) (b : BootObs) : Nat × Nat :=
  let t := s.topology
  match (List.range 8).find? (fun k => t.dieSet.getLsbD k && !b.dies.getLsbD k) with
  | some k => (1, k)
  | none =>
    match (List.range 19).find? (fun l => s.boot.half.getLsbD l && !t.halfOk.getLsbD l) with
    | some l => (2, l)
    | none =>
      match (List.range 6).find? (fun k => exposedOn b k < t.easels.getD k 32) with
      | some k => (3, k + 2)
      | none => (0, 0)

/-! ### What a step comes to -/

def State.warmStart (s : State) : Bool := s.boot.kind = 1

/-- The step uses its alternative at its first attempt. -/
def State.usesAlt (s : State) (k : Nat) : Bool :=
  persistent k && s.boot.straps ≠ 2 && (s.boot.lastOutcome k = rFail || s.boot.lastOutcome k = rPassAlt)

/-- What step k comes to. (Log 28 DEDUCED, 33 DEDUCED) -/
def State.stepRes (s : State) (b : BootObs) (k : Nat) : StepRes :=
  let n := normalCode b k
  let a := altCode b k
  let d := detailOf b k
  match k with
  | 3 =>
    let f := s.flashFormat
    attempt (s.usesAlt 3) true (if n ≠ 0 then n else f) (if a ≠ 0 then a else f) 0
  | 4 => attempt false false (imageCode s.flashN imageArea b.fwSigs) 0 0
  | 5 =>
    if n ≠ 0 || 8 ≤ a then { result := rFail, attempts := min 8 (a + 1), code := 1 } else { result := rPass, attempts := a + 1 }
  | 7 => if n = 0 then { result := rPass, attempts := 1 } else { result := rPassAlt, attempts := 1, code := n, alt := true }
  | 8 =>
    if n = 0 then { result := rPass, attempts := 1 }
    else if a = 0 then { result := rPass, attempts := 2, code := n }
    else { result := rFail, attempts := 2, code := a, detail := d }
  | 9 =>
    match (List.range 19).find? (fun l => lanesDead (lanesOf b l)) with
    | some l => attempt (s.usesAlt 9) true 1 1 (BitVec.ofNat 16 l)
    | none => attempt (s.usesAlt 9) true n 0 0
  | 12 =>
    if s.boot.straps ≠ 2 && s.boot.lastOutcome 12 = rFail then { result := rSkipped, attempts := 0 }
    else if s.warmStart && b.retrained = 0 then { result := rNotRun, attempts := 0 }
    else attempt false false n 0 d
  | 15 =>
    let f (journal : Bool) : Nat × U16 :=
      match floorFail s.boot.easelMap (s.maximaBy b journal) with | some e => (1, BitVec.ofNat 16 e) | none => (0, 0)
    let x := f s.warmStart
    let y := if (s.boot.lastBody recMaxima 0).isEmpty then (1, if x.1 ≠ 0 then x.2 else d) else f true
    let r := attempt (s.usesAlt 15) true (max n x.1) (max a y.1) d
    if r.result = rFail && y.1 ≠ 0 then { r with detail := y.2 } else r
  | 19 => let x := s.agreement b; attempt false false x.1 0 (BitVec.ofNat 16 x.2)
  | k => attempt (s.usesAlt k) (persistent k) n a d

/-! ### Records -/

/-- Body of a STEP record. (Log 32 DEDUCED) -/
def stepBody (k result attempts : Nat) (alt : Bool) (code detail : Nat) (duration : U32) : List Byte :=
  leBytes 1 k ++ leBytes 1 result ++ leBytes 1 attempts ++ [if alt then 1 else 0] ++ leBytes 2 code ++ leBytes 2 detail
    ++ leBytes 4 duration.toNat ++ leBytes 4 0

def State.record (s : State) (type : U16) (body : List Byte) : State := s.setBoot (s.boot.write type body)

/-- STRETCHER records of the links: loaded maps as the journal holds them, others as training finds them (free values). (Log 31 DESIGN CHOICE) -/
def State.linkRecords (s : State) (b : BootObs) : State :=
  (List.range 19).foldl (fun s l =>
    if loadsLink b s.warmStart l then
      let body := s.boot.lastBody recStretcher l
      let s1 := s.record recStretcher body
      s1.setBoot { s1.boot with half := if body.getD 1 0 = 1 then s1.boot.half ||| BitVec.ofNat 19 (2 ^ l) else s1.boot.half }
    else
      let h := lanesHalf (lanesOf b l)
      let (x, s1) := s.freeBytes 264
      let s2 := s1.record recStretcher ([BitVec.ofNat 8 l, if h then 1 else 0, 0, 0] ++ x ++ List.replicate 4 0)
      s2.setBoot { s2.boot with half := if h then s2.boot.half ||| BitVec.ofNat 19 (2 ^ l) else s2.boot.half }) s

/-- GDDR6 records of the groups. (Log 31 DESIGN CHOICE) -/
def State.gddrRecords (s : State) (b : BootObs) : State :=
  (List.range 16).foldl (fun s g =>
    if s.warmStart && !b.retrained.getLsbD g then
      let body := s.boot.lastBody recGddr g
      let s1 := s.record recGddr body
      s1.setBoot { s1.boot with rate16 := if body.getD 1 0 = 1 then s1.boot.rate16 ||| BitVec.ofNat 16 (2 ^ g) else s1.boot.rate16 }
    else
      let h := b.rate16.getLsbD g
      let (x, s1) := s.freeBytes 508
      let s2 := s1.record recGddr ([BitVec.ofNat 8 g, if h then 1 else 0, 0, 0] ++ x)
      s2.setBoot { s2.boot with rate16 := if h then s2.boot.rate16 ||| BitVec.ofNat 16 (2 ^ g) else s2.boot.rate16 }) s

/-! ### Licences (R469, R470) -/

def licenceBytes : Nat := 3421
def slotAddr (i : Nat) : Nat := 0x1107000 + 0x1000 * i

/-- A licence slot holds nothing. -/
def State.slotErased (s : State) (i : Nat) : Bool := (s.flashN (slotAddr i) licenceBytes).all (· = 0xFF)

/-- A licence of right form: header, reserved fields, and a defined tier (R461, R469). -/
def licenceForm (o : List Byte) : Bool :=
  signedOk o 4 64 && fieldLE o 88 4 < 16 && [0, 256, 512, 1024, 2048].contains (fieldLE o 92 2) && allZero (fieldBytes o 94 18)

def licNumber (o : List Byte) : U64 := BitVec.ofNat 64 (fieldLE o 80 8)

/-- A licence comes into force: number, features, tier, and the extension of M3 (R473). -/
def State.acceptLicence (s : State) (o : List Byte) : State :=
  let s1 := { s with sec := { s.sec with accepted := s.sec.accepted ++ [licNumber o]
                                         features := s.sec.features ||| BitVec.ofNat 4 (fieldLE o 88 4)
                                         tier := max s.sec.tier (fieldLE o 92 2) } }
  s1.measure 3 0x05 0xFFFF (digest o) 0

/-- ST18: the slots in order; a licence that is ignored is counted. Its signer is the LICENCE key whose certificate the flash holds
(R461, R462). -/
def State.licences (s : State) (b : BootObs) : State :=
  let cert := s.flashN 0x1105000 certBytes
  (List.range 16).foldl (fun s i =>
    if s.slotErased i then s
    else
      let o := s.flashN (slotAddr i) licenceBytes
      if b.licValid.getLsbD i && licenceForm o && keyCertForm cert 2 && signedBy o cert && fieldBytes o 48 32 = s.identity && !s.sec.accepted.contains (licNumber o)
      then s.acceptLicence o
      else { s with sec := { s.sec with rejected := s.sec.rejected + 1 } }) s

/-! ### Effects of the steps -/

/-- Dies in the order of PWR_DIEn, as the model numbers them: HUB, MED, CD0 to CD5. -/
def dieOrder : List Nat := [7, 6, 0, 1, 2, 3, 4, 5]

/-- Ends of the Stretcher links (R14). -/
def linkEnds (l : Nat) : Nat × Nat :=
  if l = 0 then (7, 6) else if l < 7 then (7, l - 1) else if l < 13 then (6, l - 7) else (l - 13, (l - 12) % 6)

/-- Die temperatures from a reading in the order of PWR_DIEn. -/
def tempsOf (l : List Int) : Tbl Int := (dieOrder.zip l).foldl (fun t x => tset 0 t x.1 x.2) []

/-- All dies at OP5 (R446). (Log 34 DEDUCED) -/
def allOp5 : Tbl Nat := (List.range 8).map (fun d => (d, 5))

/-- ST07: the journal is read, or treated as empty; the kind and number of the start, and the records that wait. (Log 30 DEDUCED) -/
def State.readJournal (s : State) (corrupt : Bool) : State :=
  let b0 := if corrupt then { s.boot with journalA := {}, journalB := {} } else s.boot
  let full := b0.straps = 2
  let warm := !full && b0.straps ≠ 1 && b0.warm s.identity s.sec.curatorDigest
  let kind := if full then 2 else if warm then 1 else 0
  let s1 := s.setBoot { b0 with number := b0.nextNumber, kind := kind }
  let s2 := if full then s1.record recReset (List.replicate 8 0) else s1
  s2.record recStart ([BitVec.ofNat 8 kind, BitVec.ofNat 8 b0.straps.toNat, 0, 0] ++ s.identity ++ s.sec.curatorDigest)

/-- ST11: every usable word zero; the decoder contexts and the firmware copies take their place in MG0. -/
def State.zeroMemory (s : State) (image : List Byte) : State :=
  { s with mem := { s.mem with
    dev := mwriteN 0 [] firmwareBase image, flips := [], zeroing := [], zeroGal := [], groups := [], moving := [], banks := []
    retracks := [], allocs := [(0, contextBytes), (firmwareBase, firmwareBytes)] } }

/-- The firmware region as an Easel holds it after its fetch (R155, R447). -/
def State.firmwareCells (s : State) : Cells :=
  (s.mem.dev.filter (fun x => firmwareBase ≤ x.1 && x.1 < firmwareBase + 0x2000)).map (fun x => (x.1 - firmwareBase + 0xE000, x.2))

/-- A verified image in HUB SRAM: its manifest's fields, and the extensions of M1 (R463, R473). -/
def State.takeImage (s : State) (r : Image) : State :=
  let m := manifestOf r
  let s1 := { s with sec := { s.sec with
    release := BitVec.ofNat 32 (fieldLE m 48 4), subsys := (BitVec.ofNat 16 (fieldLE m 52 2), BitVec.ofNat 16 (fieldLE m 54 2))
    curatorDigest := fieldBytes m 72 32, easelDigest := fieldBytes m 104 32, easelImage := r (easelOffset m) 8192 } }
  (s1.measure 1 0x02 0xFFFF (digest m) 0).measure 1 0x03 0xFFFF s1.sec.curatorDigest 0

/-- What a step that passed does. (Log 34 DEDUCED) -/
def State.stepEffect (s : State) (b : BootObs) (k : Nat) (r : StepRes) : State :=
  match k with
  | 1 => s.measure 0 0x01 0xFFFF b.romDigest 0
  | 2 => match b.link with | some (x, y) => if s.pcie.linkUp then s else s.linkUp x y | none => s
  | 4 => s.takeImage s.flashN
  | 5 =>
    let key := identityKeyOf b.puf
    let t := s.deviceCert b.certSigs key
    { s with sec := { s.sec with idReady := true, identityKey := key, certBad := t.isNone, topology := t } }
  | 7 => s.readJournal (r.result = rPassAlt)
  | 8 => { s with pwr := { s.pwr with railMissing := b.railMissing, ops := if s.pwr.alert then [] else allOp5, change := none, todo := [] } }
  | 9 =>
    let t := tempsOf b.temps
    let s1 := { s with pwr := { s.pwr with temps := t, retrainDue := []
                                           linkTemps := (List.range 19).map (fun l => (l, (tget 0 t (linkEnds l).1, tget 0 t (linkEnds l).2))) } }
    s1.linkRecords b
  | 11 => (s.zeroMemory s.sec.easelImage).gddrRecords b
  | 14 =>
    let s1 := s.setBoot { s.boot with easelMap := easelMapOf b }
    s1.record recSpare (spareMapOf b)
  | 15 =>
    let t := s.maximaBy b (s.warmStart || r.alt)
    let s1 := s.setBoot { s.boot with maxima := t }
    s1.record recMaxima (maximaBody t)
  | 16 =>
    let c := s.firmwareCells
    let s1 := { s with easels := (List.range 192).map (fun e => (e, { powered := true, is := c })) }
    s1.measure 2 0x04 0xFFFF s.sec.easelDigest 0
  | 18 => ((s.licences b).setLink 0 0).setLink 1 0
  | _ => s

/-! ### Running the steps -/

/-- The STEP record of step k as JNL_STEPk holds it, with a given result. (Log 29 DESIGN CHOICE, 32 DEDUCED) -/
def State.stepRecord (s : State) (k result : Nat) (alt : Bool) (detail : Nat) : State :=
  let j := tget {} s.boot.steps k
  s.record recStep (stepBody k result j.attempts alt j.code.toNat detail j.duration)

/-- STEP records of the steps that ran before the journal was read. -/
def State.earlyRecords (s : State) : State :=
  ((List.range 7).map (· + 1)).foldl (fun s k =>
    let j := tget {} s.boot.steps k
    if j.result = rNotRun then s else s.stepRecord k j.result (j.result = rPassAlt) 0) s

/-- The start ends without READY: recovery mode after ST03 and ST04, NOT_READY otherwise (R443, R455). (Log 32 DEDUCED) -/
def State.haltStart (s : State) (b : BootObs) (k : Nat) (r : StepRes) : State :=
  let s1 := if s.boot.journalOpen then s.record recEnd (leBytes 1 2 ++ leBytes 3 0 ++ leBytes 4 b.totalMs.toNat) else s
  s1.setBoot { s1.boot with state := if k = 3 || k = 4 then 3 else 2, code := BitVec.ofNat 8 r.code, detail := r.detail }

/-- Step k of a start in progress. -/
def State.runStep (s : State) (b : BootObs) (k : Nat) : State :=
  if s.boot.state ≠ 0 then s
  else
    let s0 := s.setBoot { s.boot with step := k }
    let r := s0.stepRes b k
    let (x, s1) := s0.draw
    let d : U32 := match obsOf b k with | some o => o.durationUs | none => x.setWidth 32
    let ran := r.result ≠ rNotRun
    let j : JStep := if ran then { duration := if r.result = rSkipped then 0 else d, code := BitVec.ofNat 8 r.code, attempts := r.attempts
                                   result := r.result } else {}
    let s2 := s1.setBoot { s1.boot with steps := tset {} s1.boot.steps k j }
    let ok := r.result ≠ rFail
    let s3 := if ok && ran && r.result ≠ rSkipped then s2.stepEffect b k r else s2
    let s4 :=
      if k < 7 || !ran then s3
      else if k = 7 then s3.earlyRecords.recordLink
      else s3.stepRecord k r.result r.alt r.detail.toNat
    let s5 := if k = 12 && !ok then s4.stepRecord 11 rFail false 0
      else if k = 19 && r.code = 2 then s4.stepRecord 9 rFail false r.detail.toNat else s4
    if ok || k = 12 then s5 else s5.haltStart b k r

/-- The timebase at the end of ST20: store time starts at 0 and runs free on SYS_CLK (R37); a source that the settings still select has yet
to lock (R39). (Log 113 DEDUCED) -/
def Timebase.atReady (t : Timebase) (sel : Nat) : Timebase :=
  { state := if sel = 0 then 0 else 1, phaseErr := t.phaseErr, todTx := t.todTx, delayReqs := t.delayReqs }

/-- ST20: READY, and store time starts (R37, R441). Easels that no partition holds go off (R477). (Log 29 DESIGN CHOICE) -/
def State.finishStart (s : State) (b : BootObs) : State :=
  if s.boot.state ≠ 0 then s
  else
    let s1 := s.setBoot { s.boot with step := 20, steps := tset {} s.boot.steps 20 { result := rPass, attempts := 1 } }
    let s2 := (s1.stepRecord 20 rPass false 0).record recEnd (leBytes 1 1 ++ leBytes 3 0 ++ leBytes 4 b.totalMs.toNat)
    let s3 := s2.setBoot ({ s2.boot with state := 1, code := 0, detail := 0, totalMs := b.totalMs } : Boot).compact
    { s3 with easels := [], tb := s3.tb.atReady s3.host.live.srcSel.toNat }.rephase

/-- Steps from k to 19, then ST20. (Log 28 DEDUCED) -/
def State.startFrom (s : State) (b : BootObs) (k : Nat) : State :=
  (((List.range 20).filter (fun i => k ≤ i && i ≠ 0)).foldl (fun s i => s.runStep b i) s).finishStart b

end Sys2Proof.Machine
end

