-- ==== Sys2Proof/Machine/Loader.lean ====
section
/-!
DEFINITION. The package loader (R292 to R296, R304 to R306, R311 to R315, R338): leaf assignment, stage ateliers, placement of regions, what is
written into leaves, and the load into a partition.
-/
namespace Sys2Proof.Machine

/-! ### Assignment of leaves (R292, R338) -/

/-- w_min leaves for each stage. -/
def assignMin : List StageDef → List Nat → List (List Nat) × List Nat
  | [], l => ([], l)
  | t :: ts, l =>
    let r := assignMin ts (l.drop t.wMin)
    (l.take t.wMin :: r.1, r.2)

/-- One round: a leaf for each STRIPES stage that may grow. -/
def assignRound : List StageDef → List (List Nat) → List Nat → List (List Nat) × List Nat
  | t :: ts, a :: as, x :: l =>
    if t.map = 1 && a.length < t.wMax then
      let r := assignRound ts as l
      ((a ++ [x]) :: r.1, r.2)
    else
      let r := assignRound ts as (x :: l)
      (a :: r.1, r.2)
  | _, as, l => (as, l)

/-- Rounds until no stage grows or no leaf is left. -/
def assignGrow (ts : List StageDef) : Nat → List (List Nat) → List Nat → List (List Nat)
  | 0, as, _ => as
  | fuel + 1, as, l =>
    let r := assignRound ts as l
    if r.2.length = l.length then as else assignGrow ts fuel r.1 r.2

/-- assign (R292). -/
def assign (ts : List StageDef) (leaves : List Nat) : List (List Nat) :=
  let r := assignMin ts leaves
  assignGrow ts (leaves.length + 1) r.1 r.2

/-- take (R338): the first leaf of the pool on a die, else the first leaf. -/
def takeLeaf (d : Nat) (pool : List Nat) : Option Nat := match pool.find? (fun e => dieOf e = d) with | some e => some e | none => pool.head?

/-- `n` leaves taken in turn. -/
def takeLeaves (d : Nat) : Nat → List Nat → List Nat × List Nat
  | 0, pool => ([], pool)
  | n + 1, pool =>
    match takeLeaf d pool with
    | none => ([], pool)
    | some e => let r := takeLeaves d n (pool.erase e); (e :: r.1, r.2)

def affinityMin : List (StageDef × Nat) → List Nat → List Nat × List Nat
  | [], pool => ([], pool)
  | (t, d) :: ts, pool =>
    let a := takeLeaves d t.wMin pool
    let r := affinityMin ts a.2
    (a.1 ++ r.1, r.2)

/-- One round of growth: leaves appended, the pool left, and the stages' counts. -/
def affinityRound : List (StageDef × Nat) → List Nat → List Nat → List Nat × List Nat × List Nat
  | (t, d) :: ts, c :: cs, pool =>
    if t.map = 1 && c < t.wMax then
      let a := takeLeaves d 1 pool
      let r := affinityRound ts cs a.2
      (a.1 ++ r.1, r.2.1, (c + a.1.length) :: r.2.2)
    else
      let r := affinityRound ts cs pool
      (r.1, r.2.1, c :: r.2.2)
  | _, cs, pool => ([], pool, cs)

def affinityGrow (ts : List (StageDef × Nat)) : Nat → List Nat → List Nat → List Nat
  | 0, _, pool => pool
  | fuel + 1, cs, pool =>
    let r := affinityRound ts cs pool
    if r.1.isEmpty then pool else r.1 ++ affinityGrow ts fuel r.2.2 r.2.1

/-- Granules of a partition's memory in the groups of a compute die. -/
def Part.memOnDie (P : Part) (d : Nat) : Nat := ((P.mem.filter (fun m => m.1 = 4 + 2 * d || m.1 = 5 + 2 * d)).map (fun m => m.2.2)).foldl (· + ·) 0

/-- die(s) of a stage without a preference. -/
def Part.homeDie (P : Part) : Nat := (List.range 6).foldl (fun b d => if P.memOnDie b < P.memOnDie d then d else b) 0

/-- affinity_order (R338). -/
def affinityOrder (P : Part) (ts : List StageDef) (leaves : List Nat) : List Nat :=
  let ds := ts.map (fun t => (t, if t.diePref = 0xFF then P.homeDie else t.diePref))
  let r := affinityMin ds leaves
  r.1 ++ affinityGrow ds (leaves.length + 1) (ts.map (·.wMin)) r.2

/-! ### Placing regions (R295) -/

/-- Start of the granules or ranges that a region may use: (address, bytes). -/
def Part.galleryOn (P : Part) (die : Nat) : List (Nat × Nat) := (P.gallery.filter (fun g => g.1 = die)).map (fun g => (granuleAddr g, 0x10000))

/-- Every byte of a range lies in one of some unit-sized pieces that do not overlap. -/
def covered (pieces : List (Nat × Nat)) (a n : Nat) : Bool :=
  n ≤ (pieces.map (fun p => min (p.1 + p.2) (a + n) - max p.1 a)).foldl (· + ·) 0

/-- The lowest aligned address in the pieces at which `n` bytes fit clear of what is placed. -/
def placeLowest (pieces placed : List (Nat × Nat)) (align n : Nat) : Option Nat :=
  let c := (pieces.map (·.1) ++ placed.map (fun p => p.1 + p.2)).map (upTo align)
  (c.filter (fun a => covered pieces a n && !placed.any (fun p => rangesMeet p (a, n)))).foldl
    (fun m a => match m with | none => some a | some b => some (min a b)) none

/-- Addresses of the regions of one kind class, in region order; the number of the first that does not fit. -/
def placeRegions (pieces : RegionDef → List (Nat × Nat)) : List (RegionDef × Nat) → List (Nat × Nat) → List (Nat × Nat) → Except Nat (List (Nat × Nat))
  | [], _, acc => .ok acc
  | (r, i) :: l, placed, acc =>
    match placeLowest (pieces r) placed r.align r.bytes with
    | none => .error i
    | some a => placeRegions pieces l ((a, r.bytes) :: placed) ((i, a) :: acc)

/-! ### The load's outcome before anything is written -/

/-- What the checks found: the state with the package's ateliers defined, the stages, and the regions' addresses. -/
structure Plan where
  s        : State
  stages   : List StageRun
  regions  : List Nat
  ateliers : List Nat
  deriving DecidableEq, Repr

/-- Descriptors of the ATELIERS section, 192 bytes each. -/
def pkgAteliers (b : List Byte) : List (List Byte) :=
  let t := pkgSection b 0x0A 0
  (List.range ((t.length + 191) / 192)).map (fun i => fieldBytes t (192 * i) 192)

/-- The section's descriptors defined one at a time (R29, R35). -/
def State.defineAteliers (s : State) (p sect : Nat) : List (List Byte × Nat) → Except Fail State
  | [] => .ok s
  | (b, i) :: l =>
    let d := decodeAtelier b
    let e := s.atelierError d true
    if e ≠ 0 then .error { code := 0x0911, sect := sect, item := i, detail := e } else (s.setAtelier d (some p)).defineAteliers p sect l

/-- Free software descriptors, lowest first. -/
def State.freeAteliers (s : State) : List Nat := ((List.range 225).map (· + 31)).filter (fun i => (tfind s.ateliers i).isNone)

/-- The stages' units: an Easel, or a descriptor that the loader defines (R292). A stage of more leaves than a descriptor has members is
refused as R29 refuses its descriptor. -/
def State.defineStages (s : State) (p : Nat) : List ((StageDef × List Nat) × Nat) → Except Fail (State × List StageRun × List Nat)
  | [] => .ok (s, [], [])
  | ((t, lv), i) :: l =>
    if lv.length ≤ 1 then
      match s.defineStages p l with
      | .error f => .error f
      | .ok (s1, rs, ids) => .ok (s1, { unit := BitVec.ofNat 16 (lv.headD 0), leaves := lv, entry := t.entry } :: rs, ids)
    else if 64 < lv.length then .error { code := 0x0911, item := i, detail := 0x0402 }
    else
      let id := s.freeAteliers.headD 0
      let d : AtlDesc := { id := id, count := lv.length, entry := t.entry, members := lv, rsvBad := false }
      match (s.setAtelier d (some p)).defineStages p l with
      | .error f => .error f
      | .ok (s1, rs, ids) => .ok (s1, { unit := BitVec.ofNat 16 (0x8000 + id), leaves := lv, entry := t.entry } :: rs, id :: ids)

/-- Addresses of every region, or the one that does not fit (PKG_GALLERY_FIT, PKG_MEMORY_FIT). -/
def regionPlan (b : List Byte) (P : Part) (leaves : List (List Nat)) : Except Fail (List Nat) :=
  let rs := (pkgRegions b).zipIdx
  let die (r : RegionDef) : Nat := dieOf ((leaves.getD r.stage []).headD 0)
  let f (c i : Nat) : Fail := { code := c, sect := secIx b 6 0, item := i, found := ((pkgRegions b)[i]?).map (·.bytes) }
  match placeRegions (fun r => P.galleryOn (die r)) (rs.filter (fun x => x.1.kind ≠ 0)) [] [] with
  | .error i => .error (f 0x0914 i)
  | .ok g =>
    match placeRegions (fun _ => P.ranges) (rs.filter (fun x => x.1.kind = 0)) [] [] with
    | .error i => .error (f 0x0915 i)
    | .ok m => .ok ((List.range rs.length).map (fun i => ((tfind g i).getD ((tfind m i).getD 0))))

/-- The checks against the partition's resources (R311), with what they lead to. -/
def State.loadPlan (s : State) (p : Nat) (b : List Byte) (len0 : Nat) : Except Fail Plan :=
  match s.pkgFail b len0 with
  | some f => .error f
  | none =>
    let P := s.part p
    let old := match P.pkg with | some k => k.ateliers | none => []
    let s0 := old.foldl State.freeAtelier s
    let defs := pkgAteliers b
    match s0.defineAteliers p (secIx b 0x0A 0) defs.zipIdx with
    | .error f => .error f
    | .ok s1 =>
      let ts := pkgStages b
      let exp := s1.expansion P.root.toNat
      let sum := (ts.map (·.wMin)).foldl (· + ·) 0
      if exp.length < sum then .error { code := 0x0912, limit := some exp.length, found := some sum }
      else
        let lvs := assign ts (if P.affinity then affinityOrder P ts exp else exp)
        let multi := (lvs.filter (fun l => 1 < l.length)).length
        if s1.freeAteliers.length < multi then
          .error { code := 0x0913, limit := some s0.freeAteliers.length, found := some (multi + defs.length) }
        else
          match s1.defineStages p (ts.zip lvs).zipIdx with
          | .error f => .error f
          | .ok (s2, runs, ids) =>
            match regionPlan b P lvs with
            | .error f => .error f
            | .ok rs => .ok { s := s2, stages := runs, regions := rs, ateliers := (defs.map (fun d => (decodeAtelier d).id)) ++ ids }

/-! ### What the loader writes (R296) -/

/-- A leaf with its registers, Canvas sets, local store and every ECR field that a program can write at 0 (R151, R296). (Log 94 DEDUCED) -/
def Easel.cleared (E : Easel) : Easel := { ({} : Easel) with powered := E.powered, is := E.is, lastPart := E.lastPart, loanNs := E.loanNs, spanCyc := E.spanCyc, busyCyc := E.busyCyc }

/-- Addresses of the resolved descriptor table, and of the region address table. -/
def descTable (n : Nat) : Nat := 0x1FF000 - 32 * n

def bytesAt (a : Nat) (b : List Byte) : List (Nat × Byte) := b.zipIdx.map (fun x => (a + x.2, x.1))

/-- The local store of a stage's leaf: both tables and the INIT image. -/
def stageLs (k : Pkg) (stage : Nat) : List (Nat × Byte) :=
  let ds := pkgDescs k.bytes
  bytesAt 0x1FF000 (k.regions.flatMap (fun a => leBytes 8 a))
    ++ bytesAt (descTable ds.length) (ds.flatMap (fun d =>
      leBytes 6 (k.regions.getD d.region 0 + fieldLE d.bytes 0 6) ++ fieldBytes d.bytes 6 26))
    ++ bytesAt 0 (pkgSection k.bytes 0x0C stage)

/-- What the loader leaves in a stage's leaf: local store, code, watchdog limit (R185, R296). -/
def Easel.placed (E : Easel) (k : Pkg) (p stage : Nat) : Easel :=
  let wd := match (pkgStages k.bytes)[stage]? with | some t => t.watchdog | none => 0
  { E with ls := mwriteL 0 E.ls (stageLs k stage), is := mwriteL 0 E.is (bytesAt 0 (pkgSection k.bytes 2 stage)), wdog := BitVec.ofNat 32 wd, lastPart := some p }

/-- The stage that a leaf belongs to. -/
def Pkg.stageOf (k : Pkg) (e : Nat) : Option Nat := k.stages.findIdx? (fun t => t.leaves.contains e)

/-- An Easel whose domain is on; waking fills its arrays with zeros, and its firmware is fetched (R478, R155). -/
def State.woken (s : State) (e : Nat) : Easel := if (s.easel e).powered then s.easel e else { powered := true, is := s.firmwareCells }

/-- A leaf of a partition as the loader leaves it. -/
def State.placeLeaf (s : State) (p : Nat) (k : Pkg) (e : Nat) : State :=
  let E := (s.woken e).cleared
  s.setEasel e (match k.stageOf e with | some i => E.placed k p i | none => { E with lastPart := some p })

/-- A leaf whose last dispatch was another partition's, before a dispatch of this one: local store, instruction store and ECR_USER as the
loader left them, and ECR_WDOG of the stage (R337, R185). (Log 73 DEDUCED) -/
def State.rewriteLeaf (s : State) (p : Nat) (k : Pkg) (e : Nat) : State :=
  let E := s.woken e
  let E1 : Easel := { E with ls := [], is := mclear E.is 0 0xE000, user := [], lastPart := some p }
  s.setEasel e (match k.stageOf e with | some i => E1.placed k p i | none => E1)

/-- A leaf that runs another partition's work now; the loader's contents reach it before this partition's next dispatch (R337). -/
def State.leafBusy (s : State) (p e : Nat) : Bool := match s.dispOf e with | some d => d.part ≠ p | none => (s.easel e).loan.isSome

/-- (Log 66 DEDUCED) -/
def State.placeLeaves (s : State) (p : Nat) (k : Pkg) : State := ((s.partLeaves p).filter (fun e => !s.leafBusy p e)).foldl (fun s e => s.placeLeaf p k e) s

/-- WEIGHTS sections copied to their regions (R297). -/
def State.placeWeights (s : State) (k : Pkg) : State :=
  (secs k.bytes 3).foldl (fun s x =>
    let w := pkgSection k.bytes 3 x.1.index
    s.setDevN (k.regions.getD (fieldLE w 0 2) 0) w) s

/-- g(n, ℓ) (R300). -/
def generation (n l : Nat) : Nat := (n % 2 ^ 24 * 256 + l) % 2 ^ 32

/-- The three flags of each half of a layer's halo slots at g(n0 − 1, 255) (R305, R306); n0 − 1 is the last sitting. -/
def haloFlags (base : Nat) (h : TileHdr) (maxBatches last : Nat) : List (Nat × Byte) :=
  (List.range (2 * maxBatches * h.items)).flatMap (fun i =>
    (List.range 3).flatMap (fun j => bytesAt (base + i * (128 + h.haloBytes) + 8 * j) (leBytes 4 0 ++ leBytes 4 (generation last 255))))

/-- Completion words 0 (R304), and halo flags. -/
def State.resetFlags (s : State) (k : Pkg) (last : Nat) : State :=
  let mb := pkgMaxBatches k.bytes
  (pkgTiles k.bytes).foldl (fun s h =>
    let s1 := s.clearDev (k.regions.getD h.comp 0 + h.compOff) (8 * h.items * mb)
    if h.halo = 0xFFFF then s1 else s1.setDev (haloFlags (k.regions.getD h.halo 0) h mb last)) s

/-- Units of a partition: its root's expansion, the ateliers in it, and its package's ateliers. -/
def State.partUnits (s : State) (p : Nat) (k : Pkg) : List Nat :=
  s.partLeaves p ++ (s.ateliersIn 257 (s.part p).root.toNat).map (· + 0x8000) ++ k.ateliers.map (· + 0x8000)

/-- Work counters of a partition's units at next 0 and limit 0, and nobody at their barriers (R172, R457). -/
def State.resetUnits (s : State) (p : Nat) (k : Pkg) : State :=
  let us := s.partUnits p k
  { s with mem := { s.mem with counters := s.mem.counters.filter (fun x => !us.contains (x.1 / 16)), arrived := s.mem.arrived.filter (fun x => !us.contains x.1) } }

/-- Every prepared-batch buffer FREE (R146). -/
def State.freeBuffers (s : State) (p : Nat) : State :=
  let s1 := match s.framing p with
    | none => s
    | some f => f.queues.foldl (fun (s : State) (q : FQueue) => (List.range q.buffers).foldl (fun s b => s.setBufState q b 0) s) s
  s1.setPart p { s1.part p with bufs := [] }

/-- Buffers FREE, and the crop-list, flow-request and chunk rings at 0 (R146, R457). -/
def State.resetRings (s : State) (p : Nat) : State :=
  let P := s.part p
  let s1 := match s.framing p with
    | none => s
    | some f =>
      let s1 := if f.cropEntries = 0 then s else s.clearDev f.cropProd 4
      if f.flowEntries = 0 then s1 else s1.clearDev f.flowProd 4
  let s2 := if P.be then s1.clearDev P.chunkRing.toNat 8 else s1
  s2.setPart p { s2.part p with cropTaken := 0, flowTaken := 0, chunkDone := [], chunkOut := [] }

/-- WORK_LIST regions of a package, lowest-numbered first: (address, bytes). -/
def Pkg.workLists (k : Pkg) : List (Nat × Nat) :=
  ((pkgRegions k.bytes).zip k.regions).filterMap (fun x => if x.1.kind = 2 then some (x.2, x.1.bytes) else none)

/-- The emit ring: (address, entries) (R346). -/
def Pkg.emitRing (k : Pkg) : Option (Nat × Nat) := match k.workLists with | _ :: (a, n) :: _ => some (a, (n - 64) / 16) | _ => none

/-- Consumer index of the emit ring. -/
def State.setEmit (s : State) (p : Nat) (k : Pkg) (v : Nat) : State :=
  match k.emitRing with
  | none => s
  | some (a, _) => (s.setDevN (a + 4) (leBytes 4 v)).setPart p { s.part p with emitTaken := BitVec.ofNat 32 v }

/-- Leaves left over after assignment are gated (R292), unless another partition's root holds them or work runs on them. -/
def State.gateSpare (s : State) (p : Nat) (k : Pkg) : State :=
  ((s.partLeaves p).filter (fun e => k.stageOf e = none && !s.leafBusy p e && !s.partIds.any (fun x => x ≠ p && (s.partLeaves x).contains e))).foldl
    (fun s e => s.setEasel e {}) s

/-- Everything a load writes, after the checks. (Log 66 DEDUCED) -/
def State.loadInto (s : State) (p : Nat) (k : Pkg) : State :=
  let P := s.part p
  let s0 := match P.pkg with | some o => s.deallocate o.copyAddr | none => s
  let s1 := (s0.setDevN k.copyAddr k.bytes).setPart p { P with
    state := .ready, pkg := some k, restarts := 0, sitting := 0, marks := [], swaps := [], samples := none, job := none, cause := none, orphans := [] }
  let s2 := ((s1.placeWeights k).placeLeaves p k).resetFlags k 0
  let s3 := (((s2.resetUnits p k).resetRings p).freeBuffers p)
  let s4 := match k.emitRing with | some (a, _) => s3.clearDev a 4 | none => s3
  (s4.setEmit p k 0).gateSpare p k

/-- The load of a package that passes: its copy is placed first fit (R314, R536). Without room for the copy the load is refused. (Log 66 DEDUCED) -/
def State.load (s : State) (p : Nat) (b : List Byte) (len0 : Nat) : Except Fail State :=
  match s.loadPlan p b len0 with
  | .error f => .error f
  | .ok pl =>
    match pl.s.allocate b.length with
    | none => .error { code := 0x0915, found := some b.length }
    | some (a, s1) =>
      .ok (s1.loadInto p { bytes := b, digest := fieldBytes b 16 32, copyAddr := a, regions := pl.regions, stages := pl.stages, ateliers := pl.ateliers
                           training := pkgTraining b })

/-! ### Reports (R312, R313) -/

/-- A failure report; the values that the manual does not name are free. (Log 65 DEDUCED) -/
def State.failReport (s : State) (f : Fail) : List Byte × State :=
  let x := s.draw
  let y := x.2.draw
  (leBytes 2 f.code ++ leBytes 2 f.sect ++ leBytes 4 f.item ++ leBytes 8 (f.limit.getD x.1.toNat) ++ leBytes 8 (f.found.getD y.1.toNat) ++ leBytes 8 f.detail, y.2)

/-- The load report: with the regions' addresses when there is room for them. -/
def loadReport (k : Pkg) (len1 : Nat) : List Byte :=
  let n := k.regions.length
  leBytes 2 0 ++ leBytes 2 0xFFFF ++ leBytes 4 n ++ List.replicate 24 0
    ++ (if 32 + 8 * n ≤ len1 then k.regions.flatMap (fun a => leBytes 8 a) else [])

end Sys2Proof.Machine
end

