-- ==== Sys2Proof/Machine/Movement.lean ====
section
/-!
DEFINITION. FETCH, PUT and the completion of an operation on a track (R166 to R169, R270 to R285).
-/
namespace Sys2Proof.Machine

/-- Operations outstanding on a track, oldest first. -/
def Easel.track (E : Easel) (t : Nat) : List TrackOp := tget [] E.tracks t
def Easel.setTrack (E : Easel) (t : Nat) (l : List TrackOp) : Easel := { E with tracks := tset [] E.tracks t l }

/-- The completion flag of RF and RG: Gallery offset and generation (R169). -/
def flagOf (E : Easel) (rf rg : RegF) : Option (Nat × U32) :=
  if rf = 0 then none else some ((E.sr rf.toNat).toNat, (E.sr rg.toNat).setWidth 32)

/-- The check of a completion flag: its cause and address (R169, R162, R21). -/
def State.flagCheck (s : State) (e : Nat) (fl : Option (Nat × U32)) : Option (Nat × Nat) :=
  match fl with
  | none => none
  | some (off, _) =>
    if off % 8 ≠ 0 then some (exAlign, off)
    else if gallerySize < off + 8 then some (exAddress, off)
    else if !s.ownsRange (s.workPart e) (galleryBase (dieOf e) + off, 8) then some (exProtect, off)
    else none

/-- A completion word of a package that holds the generation already counts a duplicate tile in the package's partition (R303). (Log 78 DEDUCED) -/
def State.countDuplicate (s : State) (a : Nat) (g : U32) : State :=
  if s.devLE (a + 4) 4 ≠ g.toNat then s
  else
    match s.parts.find? (fun x => match x.2.pkg with | some k => k.completions.any (fun r => r.1 ≤ a && a < r.1 + r.2) | none => false) with
    | none => s
    | some x => s.setPart x.1 { x.2 with duplicate := x.2.duplicate + 1 }

/-- A completion flag is written: its generation half, not its state word (R169); a duplicate is counted (R303). -/
def State.writeFlag (s : State) (e : Nat) (fl : Option (Nat × U32)) : State :=
  match fl with
  | none => s
  | some (off, g) =>
    let a := galleryBase (dieOf e) + off
    (s.countDuplicate a g).setDevN (a + 4) (leBytes 4 g.toNat)

/-- A destination of a FETCH with DEV = 1: the own-die Gallery or GDDR6 (R166). -/
def State.devDestOk (s : State) (e : Nat) (w : Window) : Bool :=
  match w with
  | .gddr g _ => s.groupState g = 0
  | .gallery d _ => d = dieOf e
  | _ => false

/-- The device checks of R166 and R282: the first range that no window, or no range of the partition, holds. -/
def State.devCheck (s : State) (e : Nat) (rs : List (Nat × Nat)) (ok : Window → Bool) : Option (Nat × Nat) :=
  match rs.find? (fun r => !rangeIn r ok) with
  | some r => some (exAddress, r.1)
  | none =>
    match rs.find? (fun r => !s.ownsRange (s.workPart e) r) with
    | some r => some (exProtect, r.1)
    | none => none

/-- FETCH (`put` false) and PUT: capture and checks at issue, then a place on the track (R166, R167, R180, R285). (Log 85 DEDUCED) -/
def moveIssue (put : Bool) (e : Nat) (w : MoveF) (s : State) : Out :=
  let insn := wordMove (if put then 2 else 1) w
  issue e 8 insn (w.rsv = 0 && !(put && w.dev = 1)) { sr := [w.rl.toNat, w.rc.toNat, w.rf.toNat, w.rg.toNat] } s (fun E =>
    let op : TrackOp :=
      { put := put, desc := E.dr w.dn.toNat, o := E.sr w.rc.toNat, rl := E.sr w.rl.toNat, dev := w.dev = 1
        ta := w.ta.toNat, tb := w.tb.toNat, flag := flagOf E w.rf w.rg }
    let t := decodeDesc op.desc
    let rl := op.rl.toNat
    let n := locBytes t op.ta op.tb
    match descCheck t op.o rl op.ta op.tb op.dev E.lsLimit with
    | some d => s.easelFault e exDesc insn 0 d
    | none =>
      match s.devCheck e (devRanges t op.o) s.reachable with
      | some x => s.easelFault e x.1 insn x.2 0
      | none =>
        match (if op.dev then s.devCheck e [(rl, n)] (s.devDestOk e) else none) with
        | some x => s.easelFault e x.1 insn x.2 0
        | none =>
          match s.flagCheck e op.flag with
          | some x => s.easelFault e x.1 insn x.2 0
          | none =>
            let q := E.track w.trk.toNat
            if 4 ≤ q.length || (!op.dev && s.lsStall e op.extent.1 op.extent.2 (!put)) then s
            else s.retire e 8 (E.setTrack w.trk.toNat (q ++ [op])))

/-- FETCH (R166). -/
def execFetch (e : Nat) (w : MoveF) (s : State) : Out := moveIssue false e w s
/-- PUT (R166). -/
def execPut (e : Nat) (w : MoveF) (s : State) : Out := moveIssue true e w s

/-! ### Operations of different tracks are not ordered (R280) -/

/-- A range touches the 64-byte line of an address. -/
def onLine (rs : List (Nat × Nat)) (a : Nat) : Bool := rs.any (fun r => r.2 ≠ 0 && r.1 / 64 ≤ a / 64 && a / 64 ≤ (r.1 + r.2 - 1) / 64)

/-- Bytes that outstanding PUTs of other tracks are to write in the lines that an operation reads. -/
def State.racing (s : State) (e track : Nat) (rs : List (Nat × Nat)) : List (Nat × Byte) :=
  s.easels.flatMap (fun x => x.2.tracks.flatMap (fun t =>
    if x.1 = e && t.1 = track then [] else (t.2.filter (·.put)).flatMap (fun o => (putOpWrites x.2 o).filter (fun b => onLine rs b.1))))

/-- Device memory as a FETCH sees it: in each line that another track's PUT writes meanwhile, old or new bytes, as a free value says. -/
def State.fetchView (s : State) (e track : Nat) (op : TrackOp) : State × (Nat → Nat → List Byte) :=
  let new := s.racing e track (devRanges (decodeDesc op.desc) op.o)
  let seen := op.seen ++ new.filter (fun b => (Config.freeValue (s.free + b.1 / 64)).getLsbD 0)
  let rd (a n : Nat) : List Byte := (List.range n).map (fun i => (tfind seen (a + i)).getD (s.dev (a + i)))
  (if new.isEmpty then s else { s with free := s.free + 2 ^ 42 }, if seen.isEmpty then s.devN else rd)

/-- What an outstanding FETCH has read before some lines are written: those seen earlier stay, and a free value decides each other line. -/
def TrackOp.sees (o : TrackOp) (s : State) (ws : List (Nat × Byte)) : TrackOp :=
  let rs := devRanges (decodeDesc o.desc) o.o
  let hit := ws.filter (fun b => onLine rs b.1
    && (o.seen.any (fun y => y.1 / 64 = b.1 / 64) || (Config.freeValue (s.free + b.1 / 64)).getLsbD 0))
  if o.put then o else { o with seen := o.seen ++ hit.map (fun b => (b.1, s.dev b.1)) }

/-- Outstanding FETCHes of other tracks may have read lines that an operation is about to write. -/
def State.markSeen (s : State) (e track : Nat) (ws : List (Nat × Byte)) : State :=
  let hit (x : Nat) (t : Nat × List TrackOp) : Bool :=
    !(x = e && t.1 = track) && t.2.any (fun o => !o.put && ws.any (fun b => onLine (devRanges (decodeDesc o.desc) o.o) b.1))
  if s.easels.any (fun x => x.2.tracks.any (hit x.1)) then
    { s with
      free := s.free + 2 ^ 42
      easels := s.easels.map (fun x => (x.1, { x.2 with tracks := x.2.tracks.map (fun t => if hit x.1 t then (t.1, t.2.map (fun o => o.sees s ws)) else t) })) }
  else s

/-- The bytes of a completed operation move (R278, R279), and what a program's write releases (R142); then its flag is written (R169).
(Log 103 DESIGN CHOICE) -/
def State.moveData (s : State) (e track : Nat) (op : TrackOp) : State :=
  let t := decodeDesc op.desc
  let rl := op.rl.toNat
  if op.put then
    let ws := putOpWrites (s.easel e) op
    (s.markSeen e track ws).programWrite 1 (s.workPart e) ws (fun s => s.writeFlag e op.flag)
  else
    let v := s.fetchView e track op
    let ws := (fetchWrites t op.o op.ta op.tb v.2).map (fun x => (rl + x.1, x.2))
    if op.dev then (v.1.markSeen e track ws).programWrite 1 (s.workPart e) ws (fun s => s.writeFlag e op.flag)
    else (v.1.setEasel e ((v.1.easel e).wrLs ws)).writeFlag e op.flag

/-- TRACK_OP_COMPLETE: the oldest operation of a track moves its data and then writes its flag (R167, R169). A word it reads that
cannot be corrected stops it: nothing is delivered, and the word's owner restarts (R282, R395). -/
def execTrackOpComplete (e track : Nat) (s : State) : Out :=
  if 192 ≤ e || 8 ≤ track then noUnit
  else if s.board.clocksStopped then .next s
  else
    let E := s.easel e
    match E.track track with
    | [] => .next s
    | op :: rest =>
      let s0 := s.setEasel e (E.setTrack track rest)
      .next (s0.unitRead 1 (if op.put then [] else devRanges (decodeDesc op.desc) op.o) (fun s => s.moveData e track op))

end Sys2Proof.Machine
end

