-- ==== Sys2Proof/Machine/Sync.lean ====
section
/-!
DEFINITION. Synchronisation (R170 to R178), the Easel control registers and SYS instructions (R152, R153, R173), dispatch at issue
(R179), and the watchdog (R185).
-/
namespace Sys2Proof.Machine

/-! ### Units an instruction may name (R178) -/

/-- A unit in the expansion of the partition whose work the Easel runs: defined, with every leaf a leaf of its root. (Log 88 DEDUCED) -/
def State.unitAllowed (s : State) (e ref : Nat) : Bool :=
  s.unitOk ref && !(s.expansion ref).isEmpty && (s.expansion ref).all (fun l => (s.partLeaves (s.workPart e)).contains l)

/-- A leaf's power domain is on. -/
def State.isOn (s : State) (e : Nat) : Bool := (s.easel e).powered

/-- s[r][15:0] as a unit reference. -/
def unitReg (E : Easel) (r : RegF) : Nat := (E.sr r.toNat).toNat % 2 ^ 16

/-- ECR_DISP.UNIT. -/
def Easel.dispUnit (E : Easel) : Nat := E.disp.toNat % 2 ^ 16

/-! ### Work counters (R172) -/

def State.counter (s : State) (unit c : Nat) : U32 × U32 := tget (0, 0) s.mem.counters (16 * unit + c)
def State.setCounter (s : State) (unit c : Nat) (v : U32 × U32) : State :=
  { s with mem := { s.mem with counters := tset (0, 0) s.mem.counters (16 * unit + c) v } }

/-- TAKE (R172): B and the unused bits of C and K are reserved. -/
def execTake (e : Nat) (k : BitVec 7) (a b c : RegF) (s : State) : Out :=
  issue e 4 (wordR 0x10 k.toNat 0 c.toNat b.toNat a.toNat) (b = 0 && c.toNat < 16 && k.toNat < 8) { sr := [a.toNat] } s (fun E =>
    let (nx, lim) := s.counter E.dispUnit c.toNat
    if nx.ult lim then
      (s.retire e 4 ((E.setSr a.toNat (nx.setWidth 64)).setPr k.toNat false)).setCounter E.dispUnit c.toNat (nx + 1, lim)
    else s.retire e 4 ((E.setSr a.toNat (lim.setWidth 64)).setPr k.toNat true))

/-- TSET (R172). -/
def execTset (e : Nat) (k : BitVec 7) (a b c : RegF) (s : State) : Out :=
  issue e 4 (wordR 0x10 k.toNat 1 c.toNat b.toNat a.toNat) (k = 0 && a.toNat < 16) { sr := [b.toNat, c.toNat] } s (fun E =>
    (s.retire e 4 E).setCounter E.dispUnit a.toNat ((E.sr b.toNat).setWidth 32, (E.sr c.toNat).setWidth 32))

/-! ### WAIT (R170, R174) -/

/-- Generation g is at or after w (R170). -/
def genAfter (g w : U32) : Bool := (g - w).toNat < 2 ^ 31

/-- The flag at a Gallery offset of the Easel's die has reached a generation. -/
def State.flagReached (s : State) (e off : Nat) (g : U32) : Bool := genAfter (BitVec.ofNat 32 (s.devLE (galAddr e off + 4) 4)) g

/-- What a stalled Easel waits for holds. -/
def State.waitOver (s : State) (e : Nat) : Stall → Bool
  | .flag off g => s.flagReached e off g
  | .doorbell => (s.easel e).db &&& (s.easel e).dbMask ≠ 0
  | _ => false

/-- WAIT (R174): on a flag, or on doorbells when B is s0, and C must then be s0. (Log 86 DEDUCED) -/
def execWaitI (e : Nat) (k : BitVec 7) (a b c : RegF) (s : State) : Out :=
  let w := wordR 0x10 k.toNat 2 c.toNat b.toNat a.toNat
  issue e 4 w (k = 0 && a = 0 && !(b = 0 && c ≠ 0)) { sr := [b.toNat, c.toNat] } s (fun E =>
    let off := (E.sr b.toNat).toNat
    let st : Stall := if b = 0 then .doorbell else .flag off ((E.sr c.toNat).setWidth 32)
    if b = 0 then s.retire e 4 (if s.waitOver e st then E else { E with stall := st }) else onGallery s e w off 8 (s.loadGallery e off 8 (fun s => s.retire e 4 (if s.waitOver e st then E else { E with stall := st }))))

/-- WAIT_SATISFIED: the condition of a stalled WAIT comes to hold, and the Easel goes on (R174). -/
def execWaitSatisfied (e : Nat) (s : State) : Out :=
  if 192 ≤ e then noUnit
  else if !s.board.clocksStopped && s.waitOver e (s.easel e).stall then .next (s.setEasel e { s.easel e with stall := .none }) else .next s

/-! ### RING, POST, COLLECT (R175, R176, R437) -/

/-- The Curator's mailbox and signal bits for an Easel (R433). -/
def State.fromMbx (s : State) (e : Nat) : FromMbx := tget {} s.host.fromE e
def State.setFromMbx (s : State) (e : Nat) (m : FromMbx) : State := { s with host := { s.host with fromE := tset {} s.host.fromE e m } }

/-- A store into a mailbox (R431): the mailbox after it, and whether the value was stored. (Log 27 DEDUCED) -/
def Mbx.store (m : Mbx) (v : U64) : Mbx × Bool := if m.full then ({ m with overrun := true }, false) else ({ m with val := v, full := true }, true)

/-- A consuming read (R431): the value and the mailbox after it. (Log 27 DEDUCED) -/
def Mbx.take (m : Mbx) : U64 × Mbx := if m.full then (m.val, { m with val := 0, full := false }) else (0, m)

/-- The inbound mailbox posts reach: on loan, the copy held for the lender (R333). -/
def Easel.inbox (E : Easel) : Mbx := match E.loan with | some l => l.mbx | none => E.mbx
def Easel.setInbox (E : Easel) (m : Mbx) : Easel :=
  match E.loan with | some l => { E with loan := some { l with mbx := m } } | none => { E with mbx := m }

/-- RING (R175). (Log 95 DEDUCED) -/
def execRing (e : Nat) (k : BitVec 7) (a b c : RegF) (s : State) : Out :=
  let w := wordR 0x10 k.toNat 3 c.toNat b.toNat a.toNat
  issue e 4 w (k = 0 && a = 0) { sr := [b.toNat, c.toNat] } s (fun E =>
    let u := unitReg E b
    let v : U32 := (E.sr c.toNat).setWidth 32
    let s1 := s.retire e 4 E
    if u = 0xFFFF then s1.ringHost (s.workPart e) v
    else if u = 0xFFFE then
      (s1.setFromMbx e { s1.fromMbx e with signal := (s1.fromMbx e).signal ||| v }).ringDevice 4
    else if !s.unitAllowed e u then s.easelFault e exUnit w 0 0
    else if !(s.expansion u).all s.isOn then s.easelFault e exGated w 0 0
    else s1.ringUnit u v)

/-- POST (R176). (Log 27 DEDUCED, 95 DEDUCED) -/
def execPost (e : Nat) (k : BitVec 7) (a b c : RegF) (s : State) : Out :=
  let w := wordR 0x10 k.toNat 4 c.toNat b.toNat a.toNat
  issue e 4 w (k.toNat < 8 && a = 0) { sr := [b.toNat, c.toNat] } s (fun E =>
    let u := unitReg E b
    let v := E.sr c.toNat
    if u = 0xFFFE then
      let r := (s.fromMbx e).mbx.store v
      let s1 := (s.retire e 4 (E.setPr k.toNat r.2)).setFromMbx e { s.fromMbx e with mbx := r.1 }
      if r.2 then s1.ringDevice 4 else s1
    else if u = 0xFFFF || !s.unitAllowed e u then s.easelFault e exUnit w 0 0
    else
      let l := s.lead u
      if !s.isOn l then s.easelFault e exGated w 0 0
      else
        let r := (s.easel l).inbox.store v
        let s1 := s.setEasel l ((s.easel l).setInbox r.1)
        s1.retire e 4 ((s1.easel e).setPr k.toNat r.2))

/-- COLLECT (R176). -/
def execCollect (e : Nat) (k : BitVec 7) (a b c : RegF) (s : State) : Out :=
  issueReg e 4 (wordR 0x10 k.toNat 5 c.toNat b.toNat a.toNat) (k.toNat < 8 && b = 0 && c = 0) { sr := [a.toNat] } s (fun E =>
    let r := E.mbx.take
    ({ E with mbx := r.2 }.setSr a.toNat r.1).setPr k.toNat E.mbx.full)

/-! ### BARRIER (R177) -/

/-- Leaves that have arrived at a unit's current barrier generation. -/
def State.arrivedAt (s : State) (u : Nat) : List Nat := tget [] s.mem.arrived u

/-- BARRIER_RELEASE: every leaf has arrived; all leave together and the generation count steps (R177, R28). -/
def State.releaseBarrier (s : State) (u : Nat) : State :=
  let s1 := (s.expansion u).foldl (fun s l =>
    if (s.easel l).stall = .barrier (BitVec.ofNat 16 u) then s.setEasel l { s.easel l with stall := .none } else s) s
  { s1 with mem := { s1.mem with arrived := terase s1.mem.arrived u, barGen := tset 0 s1.mem.barGen u (tget 0 s1.mem.barGen u + 1) } }

/-- BARRIER: arrive at the unit's current generation and wait (R177). (Log 86 DEDUCED, 88 DEDUCED) -/
def execBarrier (e : Nat) (k : BitVec 7) (a b c : RegF) (s : State) : Out :=
  let w := wordR 0x10 k.toNat 6 c.toNat b.toNat a.toNat
  issue e 4 w (k = 0 && a = 0 && c = 0) { sr := [b.toNat] } s (fun E =>
    let u := if b = 0 then E.dispUnit else unitReg E b
    if !s.unitAllowed e u || !(s.expansion u).contains e then s.easelFault e exUnit w 0 0
    else
      let l := e :: s.arrivedAt u
      let s1 := s.retire e 4 { E with stall := .barrier (BitVec.ofNat 16 u) }
      let s2 := { s1 with mem := { s1.mem with arrived := tset [] s1.mem.arrived u l } }
      if (s.expansion u).all (fun x => l.contains x) then s2.releaseBarrier u else s2)

/-! ### Easel control registers (R152, R153, R212, R237, R266) -/

/-- ECR_ID (R153). -/
def ecrId (e : Nat) : U64 := BitVec.ofNat 64 (e % 8 * 2 ^ 13 + e % 32 / 8 * 2 ^ 11 + e / 32 * 2 ^ 8 + e)

/-- ECR_PART (R153). -/
def State.ecrPart (s : State) (e : Nat) : U64 :=
  let p := s.workPart e
  let be := if (s.part p).be then 16 else 0
  match (s.easel e).loan with
  | some l => BitVec.ofNat 64 (l.lender * 2 ^ 12 + 32 + be + p)
  | none => BitVec.ofNat 64 (be + p)

/-- ECR_CLK (R152). -/
def State.ecrClk (s : State) (e : Nat) : U64 := BitVec.ofNat 64 (s.op (dieOf e) * 256 + s.easelMhz e / 25)

/-- ECR_TMSTAT (R152). -/
def Easel.tmstat (E : Easel) : U64 := BitVec.ofNat 64 (E.tracks.foldl (fun a x => a + x.2.length * 2 ^ (3 * x.1)) 0)

/-- ECR_PRSTAT (R266). -/
def State.prstat (s : State) (e : Nat) : U64 :=
  let l := s.primer (clusterOf e)
  BitVec.ofNat 64 (l.length + (l.filter (fun j => j.easel = e)).length * 256)

/-- ECR_MBX (R153). -/
def mbxStat (m : Mbx) : U64 := (if m.overrun then 2 else 0) + (if m.full then 1 else 0)

/-- ECR_CYCLE: the whole Easel clock cycles since the partition's last restart (R152). (Log 89 DESIGN CHOICE) -/
def Easel.cycle (E : Easel) : U64 := BitVec.ofNat 64 (E.cycles / 1000)

/-- The value of an ECR that is listed (R152). -/
def State.ecrValue (s : State) (e i : Nat) : Option U64 :=
  let E := s.easel e
  match i with
  | 0x000 => some (ecrId e)
  | 0x001 => some (E.disp.setWidth 64)
  | 0x002 => some (s.ecrPart e)
  | 0x010 => some E.cycle
  | 0x011 => some (s.timeOf (s.workPart e))
  | 0x012 => some (s.ecrClk e)
  | 0x020 => some (E.db.setWidth 64)
  | 0x021 => some (E.dbMask.setWidth 64)
  | 0x022 => some (mbxStat E.mbx)
  | 0x023 => some (if E.mbx.full then E.mbx.val else 0)
  | 0x030 => some (E.wdog.setWidth 64)
  | 0x031 => some 0
  | 0x040 => some (E.lend.setWidth 64)
  | 0x060 => some E.tmstat
  | 0x100 => some E.cvstat
  | 0x101 => some E.cvCount
  | 0x200 => some E.plstat
  | 0x300 => some (s.prstat e)
  | 0x301 => some E.prDone
  | i => if 0x070 ≤ i && i ≤ 0x07F then some (tget 0 E.user (i - 0x070)) else none

/-- Reserved bits of a listed ECR (R152, R153, R212, R237, R266). -/
def ecrReserved (i : Nat) : U64 :=
  match i with
  | 0x000 => 0xFFFFFFFFFFFF0000
  | 0x001 => 0xFFFFFFFF00000000
  | 0x002 => 0xFFFFFFFFFFFF0FC0
  | 0x012 => 0xFFFFFFFFFFFFF800
  | 0x020 => 0xFFFFFFFF00000000
  | 0x021 => 0xFFFFFFFF00000000
  | 0x022 => 0xFFFFFFFFFFFFFFFC
  | 0x030 => 0xFFFFFFFF00000000
  | 0x040 => 0xFFFFFFFF7F00E0E0
  | 0x060 => 0xFFFFFFFFFF000000
  | 0x100 => 0xFFFFFFFFFFFFFFF0
  | 0x200 => 0xFFFFFFFFFFFFFFE0
  | 0x300 => 0xFFFFFFFFFFFFF8E0
  | _ => 0

/-- Window fields of ECR_LEND: IBASE, ISIZE, LBASE, LSIZE (R153). -/
def lendI (v : U32) : Nat × Nat := (bits v.toNat 19 16, bits v.toNat 23 20)
def lendL (v : U32) : Nat × Nat := (bits v.toNat 4 0, bits v.toNat 12 8)

/-- A value of ECR_LEND with ENABLE 1 and windows out of range (R153). -/
def lendBad (v : U32) : Bool :=
  let (ib, isz) := lendI v
  let (lb, lsz) := lendL v
  bitAt v.toNat 31 && (isz = 0 || 14 < isz || 14 < ib + isz || lsz = 0 || 31 < lsz || 32 < lb + lsz)

/-- A write to a listed ECR by its access code (R7, R152). -/
def Easel.ecrWrite (E : Easel) (i : Nat) (v : U64) : Easel :=
  match i with
  | 0x020 => { E with db := w1c 32 E.db (v.setWidth 32) }
  | 0x021 => { E with dbMask := v.setWidth 32 }
  | 0x022 => { E with mbx := { E.mbx with overrun := E.mbx.overrun && !v.getLsbD 1 } }
  | 0x031 => { E with wdogNs := 0 }
  | 0x040 => { E with lend := v.setWidth 32 }
  | 0x100 => { E with cvFlags := w1c 3 E.cvFlags (v.setWidth 3) }
  | 0x200 => { E with plFlags := w1c 5 E.plFlags (v.setWidth 5) }
  | i => if 0x070 ≤ i && i ≤ 0x07F then { E with user := tset 0 E.user (i - 0x070) v } else E

/-- ECRR (R173). A read of ECR_CVSTAT or ECR_PLSTAT waits for the instructions of its unit issued before it (R212, R237). -/
def execEcrr (e : Nat) (a b : RegF) (imm : BitVec 12) (s : State) : Out :=
  let w := wordI 0x12 imm.toNat 0 b.toNat a.toNat
  issue e 4 w (b = 0) { sr := [a.toNat] } s (fun E =>
    match s.ecrValue e imm.toNat with
    | none => s.easelFault e exIllegal w 0 imm.toNat
    | some v =>
      if (imm.toNat = 0x100 && !(E.frontQ.isEmpty && E.backQ.isEmpty)) || (imm.toNat = 0x200 && !E.palQ.isEmpty) then s
      else s.retire e 4 (E.setSr a.toNat v))

/-- ECRW (R173): a non-zero write to a reserved field, or an invalid ECR_LEND, is EX_ILLEGAL. -/
def execEcrw (e : Nat) (a b : RegF) (imm : BitVec 12) (s : State) : Out :=
  let w := wordI 0x12 imm.toNat 1 b.toNat a.toNat
  issue e 4 w (a = 0) { sr := [b.toNat] } s (fun E =>
    let v := E.sr b.toNat
    if (s.ecrValue e imm.toNat).isNone || v &&& ecrReserved imm.toNat ≠ 0 || (imm.toNat = 0x040 && lendBad (v.setWidth 32)) then
      s.easelFault e exIllegal w 0 imm.toNat
    else s.retire e 4 (E.ecrWrite imm.toNat v))

/-- TRAP: EX_TRAP with I12 as its code (R173). -/
def execTrap (e : Nat) (a b : RegF) (imm : BitVec 12) (s : State) : Out :=
  let w := wordI 0x12 imm.toNat 2 b.toNat a.toNat
  issue e 4 w (a = 0 && b = 0) {} s (fun _ => s.easelFault e exTrap w 0 imm.toNat)

/-- HALT: the Easel waits for LEAF_HALTED (R179). (Log 86 DEDUCED) -/
def execHalt (e : Nat) (a b : RegF) (imm : BitVec 12) (s : State) : Out :=
  issue e 4 (wordI 0x12 imm.toNat 3 b.toNat a.toNat) (a = 0 && b = 0 && imm = 0) {} s
    (fun E => s.retire e 4 { E with stall := .halting })

/-- TWAIT: goes on when every named track is empty (R173). (Log 86 DEDUCED) -/
def execTwait (e : Nat) (a b : RegF) (imm : BitVec 12) (s : State) : Out :=
  issue e 4 (wordI 0x12 imm.toNat 4 b.toNat a.toNat) (a = 0 && b = 0 && imm.toNat < 256) {} s (fun E =>
    if E.tracks.any (fun t => bitAt imm.toNat t.1 && !t.2.isEmpty) then s else s.retire e 4 E)

/-- The watchdog's count, in µs, has reached ECR_WDOG (R185). -/
def Easel.watchdogDue (E : Easel) : Bool := E.running && decide (E.wdog.toNat ≤ E.wdogNs / 1000)

/-- WATCHDOG_EXPIRY: the watchdog of a running Easel raises EX_WATCHDOG once its count has reached ECR_WDOG (R185). (Log 3 DESIGN CHOICE) -/
def execWatchdogExpiry (e : Nat) (s : State) : Out :=
  if 192 ≤ e then noUnit
  else if !s.board.clocksStopped && (s.easel e).watchdogDue then .next (s.easelFault e exWatchdog (s.easel e).nextInsn 0 0) else .next s

/-! ### DISPATCH (R179) -/

/-- The dispatch of a chunk to a lent Easel (R333); it is no dispatch to the Easel's unit in the lender's eyes. -/
def isChunk (d : Disp) : Bool := match d.issuer with | .chunk _ _ => true | _ => false

/-- DISPATCH: the unit, entry point and argument are captured; the leaves start by LEAF_START. A dispatch to a unit whose previous
dispatch has not completed waits. (Log 88 DEDUCED) -/
def execDispatch (e : Nat) (k : BitVec 7) (f : BitVec 3) (a b c : RegF) (s : State) : Out :=
  let w := wordR 0x11 k.toNat f.toNat c.toNat b.toNat a.toNat
  issue e 4 w (f = 0 && k.toNat < 32) { sr := [a.toNat, b.toNat, c.toNat] } s (fun E =>
    let u := unitReg E b
    if !s.unitAllowed e u || (s.expansion u).contains e then s.easelFault e exUnit w 0 0
    else if s.disps.any (fun d => !isChunk d && d.unit.toNat = u) then s
    else
      let entry := if a = 0 then s.defaultEntry u else (E.sr a.toNat).toNat % 2 ^ 16
      let d : Disp := { unit := BitVec.ofNat 16 u, entry := entry, arg := E.sr c.toNat, issuer := .easel e k.toNat
                        part := s.workPart e, toStart := s.expansion u, running := [] }
      { s.retire e 4 E with disps := s.disps ++ [d] })

end Sys2Proof.Machine
end

