-- ==== Sys2Proof/WellFormed.lean ====
section
/-!
DEFINITION. Well-formed commands: every number names a unit that the part has. A command that is not well formed names no unit of the part
(fault noSuchUnit).
-/
namespace Sys2Proof

/-- Engines of a kind: video engines, JPEG engines, framing units, motion search engines (R97, R127, R343). -/
def engineCount : EngineKind → Nat
  | .vde => 32
  | .jd => 4
  | .fu => 8
  | .ms => 2

/-- An access to BAR0, BAR2 or the configuration space (7): inside it, and in the configuration space within one dword (R405). -/
def regShape (bar off size : Nat) : Bool :=
  if bar = 7 then off < 4096 && (size = 1 || size = 2 || size = 4) && off % size = 0
  else (bar = 0 && off + size ≤ 0x4000000) || (bar = 2 && off + size ≤ 0x400000)

/-- The word that a scrub reads lies in the array that it names (R18, R150, R375). -/
def arrayOk (a : EccArray) (addr : Nat) : Bool :=
  match a with
  | .localStore e => e < 192 && addr < 0x200000
  | .instStore e => e < 192 && addr < 0x10000
  | .regFile e => e < 192
  | .gallery => 0x1000000000 ≤ addr && addr < 0x1018000000 && addr % 0x4000000 < 0x2000000
  | .medSram => 0x1080000000 ≤ addr && addr < 0x1083400000
  | .hubSram => 0x10C0000000 ≤ addr && addr < 0x10C1400000
  | .gddr6 => addr < 0x800000000 && addr % 0x80000000 < 0x60000000

/-- The unit of a failed access exists. -/
def edcOpOk : EdcOp → Bool
  | .track e t => e < 192 && t < 8
  | .primer c => c < 24
  | .decode n => n < 36
  | .framing n => n < 8
  | .motion n => n < 2
  | _ => true

/-- A failed access lies in the usable part of the group, in a unit of the channel (R383). -/
def edcOk (channel : Nat) : Option EdcFail → Bool
  | none => true
  | some f => f.off < 0x60000000 && f.off / 128 % 2 = channel && edcOpOk f.op

/-- Well-formedness. -/
def Instr.wf : Instr → Bool
  | .porNDeassert _ => true
  | .recoveryVerify _ => true
  | .recoveryRun _ _ => true
  | .recoveryWrite _ _ => true
  | .curatorWatchdogExpiry => true
  | .deviceRestart _ _ => true
  | .partitionRestart p _ => p < 16
  | .flr => true
  | .perstNAssert => true
  | .hotReset => true
  | .linkDown => true
  | .d3hotToD0 => true
  | .pcieLinkRetrain _ _ => true
  | .laneMarginCommand lane _ => lane < 16
  | .barReadShapeAbort bar _ _ => bar = 0 || bar = 2
  | .bar4Read off len => off + len ≤ 0x800000000
  | .bar4Write off b => off + b.length ≤ 0x800000000
  | .poisonedTlpReceived bar _ _ => bar = 0 || bar = 2 || bar = 4
  | .hostReadCompletion tag _ => tag < 1024
  | .completionTimeout tag => tag < 1024
  | .msixMessageSend v => v < 256
  | .assertInta => true
  | .registerWrite bar off size _ => regShape bar off size
  | .registerReadCapture bar off size => regShape bar off size
  | .commitIngPort _ => true
  | .commitIngSp => true
  | .commitTbSrc => true
  | .commitTbPhase => true
  | .commitGlbBar4 => true
  | .commitPwr => true
  | .commitQueue _ => true
  | .groupApply _ => true
  | .ethPortLinkChange mac _ => mac < 8
  | .dbSqWrite q _ => q < 64
  | .resume q => q < 64
  | .hqQnCqConsWrite q _ => q < 64
  | .submissionFetch q => q < 64
  | .commandStart q => q < 64
  | .commandComplete q _ => q < 64
  | .cqCoalTimer q => q < 64
  | .nop q _ => q < 64
  | .atlSet q _ => q < 64
  | .atlDelete q _ => q < 64
  | .partCreate q _ => q < 64
  | .partLoad q _ => q < 64
  | .partTiming q _ => q < 64
  | .partStart q _ => q < 64
  | .partStop q _ => q < 64
  | .partDelete q _ => q < 64
  | .weightSwap q _ => q < 64
  | .sitRegister q _ => q < 64
  | .sitUpdate q _ => q < 64
  | .sitDelete q _ => q < 64
  | .sitParamsets q _ => q < 64
  | .pbqMark q _ => q < 64
  | .ifSet q _ => q < 64
  | .ifClear q _ => q < 64
  | .dmxSet q _ => q < 64
  | .dmxClear q _ => q < 64
  | .inject q _ => q < 64
  | .setTime q _ => q < 64
  | .replaySetTime q _ => q < 64
  | .replayAdvance q _ => q < 64
  | .replaySitting p _ => p < 16
  | .ringSet q _ => q < 64
  | .ringDelete q _ => q < 64
  | .adaptSamples q _ _ => q < 64
  | .adaptStart q _ => q < 64
  | .adaptAbort q _ => q < 64
  | .memGroup q _ => q < 64
  | .memInject q _ => q < 64
  | .secCerts q _ => q < 64
  | .quote q _ => q < 64
  | .measLog q _ => q < 64
  | .measExtend q _ => q < 64
  | .licInstall q _ _ _ => q < 64
  | .licRemove q _ _ => q < 64
  | .licList q _ => q < 64
  | .mbH2cWrite _ => true
  | .curatorMailboxEcho => true
  | .mbC2hRead => true
  | .mbEmbxDataWrite e _ => e < 192
  | .mbFromDataRead e => e < 192
  | .dbHostMaskWrite w _ => w < 17
  | .hqRingConsWrite r _ => r < 64
  | .ingSprxConsWrite _ => true
  | .ingSptxProdWrite _ => true
  | .ethFrameReceive mac _ => mac < 8
  | .mcastStateChangeReport iface _ => iface < 32
  | .reorderGapTimeout sitter => sitter < 2048
  | .ptpAnnounceTimeout => true
  | .ptmDialogue _ => true
  | .ppsInEdge _ => true
  | .todRxMessage _ => true
  | .ppsEdgeTimeout => true
  | .ppsOutEdge => true
  | .todTxSend => true
  | .phaseBoundary => true
  | .sittingInstant p _ => p < 16
  | .decodeStart engine _ => engine < 36
  | .decodeComplete engine _ => engine < 36
  | .engineDomainGate k n => n < engineCount k
  | .framingSlotStart fu => fu < 8
  | .framingSlotComplete fu => fu < 8
  | .cropListTake p => p < 16
  | .flowRequestTake ms p => ms < 2 && p < 16
  | .flowComplete ms => ms < 2
  | .resultBlockTake p => p < 16
  | .resultGroupWrite sitter => sitter < 2048
  | .ringIntrTimer r => r < 64
  | .loanStart e => e < 192
  | .loanRecall e _ => e < 192
  | .add e _ _ _ => e < 192
  | .sub e _ _ _ => e < 192
  | .andR e _ _ _ => e < 192
  | .orR e _ _ _ => e < 192
  | .xorR e _ _ _ => e < 192
  | .sll e _ _ _ => e < 192
  | .srl e _ _ _ => e < 192
  | .sra e _ _ _ => e < 192
  | .minR e _ _ _ => e < 192
  | .maxR e _ _ _ => e < 192
  | .minu e _ _ _ => e < 192
  | .maxu e _ _ _ => e < 192
  | .clz e _ _ _ => e < 192
  | .popc e _ _ _ => e < 192
  | .andn e _ _ _ => e < 192
  | .sel e _ _ _ _ => e < 192
  | .addi e _ _ _ => e < 192
  | .andi e _ _ _ => e < 192
  | .ori e _ _ _ => e < 192
  | .xori e _ _ _ => e < 192
  | .slli e _ _ _ => e < 192
  | .srli e _ _ _ => e < 192
  | .srai e _ _ _ => e < 192
  | .luih e _ _ => e < 192
  | .lui e _ _ => e < 192
  | .cmp e _ _ _ _ _ => e < 192
  | .cmpi e _ _ _ _ => e < 192
  | .pand e _ _ _ _ => e < 192
  | .por e _ _ _ _ => e < 192
  | .pxor e _ _ _ _ => e < 192
  | .pandn e _ _ _ _ => e < 192
  | .pnot e _ _ _ _ => e < 192
  | .pset e _ _ _ _ => e < 192
  | .ptos e _ _ _ _ => e < 192
  | .stop e _ _ _ _ => e < 192
  | .mul e _ _ _ _ => e < 192
  | .mulh e _ _ _ _ => e < 192
  | .mulhu e _ _ _ _ => e < 192
  | .div e _ _ _ _ => e < 192
  | .divu e _ _ _ _ => e < 192
  | .rem e _ _ _ _ => e < 192
  | .remu e _ _ _ _ => e < 192
  | .ldl e _ _ _ _ => e < 192
  | .stl e _ _ _ _ => e < 192
  | .ldg e _ _ _ _ => e < 192
  | .stg e _ _ _ _ => e < 192
  | .br e _ _ => e < 192
  | .jal e _ _ => e < 192
  | .jalr e _ _ _ _ => e < 192
  | .dld e _ _ _ => e < 192
  | .dst e _ _ _ => e < 192
  | .dldg e _ _ _ => e < 192
  | .dstg e _ _ _ => e < 192
  | .drd e _ _ _ => e < 192
  | .dwr e _ _ _ => e < 192
  | .dcopy e _ _ _ => e < 192
  | .fetch e _ => e < 192
  | .put e _ => e < 192
  | .trackOpComplete e track => e < 192 && track < 8
  | .take e _ _ _ _ => e < 192
  | .tset e _ _ _ _ => e < 192
  | .waitI e _ _ _ _ => e < 192
  | .waitSatisfied e => e < 192
  | .ring e _ _ _ _ => e < 192
  | .post e _ _ _ _ => e < 192
  | .collect e _ _ _ _ => e < 192
  | .barrier e _ _ _ _ => e < 192
  | .dispatch e _ _ _ _ _ => e < 192
  | .leafStart e => e < 192
  | .leafHalted e => e < 192
  | .atelierComplete u => u.toNat < 192 || (0x8000 ≤ u.toNat && u.toNat < 0x8100)
  | .ecrr e _ _ _ => e < 192
  | .ecrw e _ _ _ => e < 192
  | .trap e _ _ _ => e < 192
  | .halt e _ _ _ => e < 192
  | .twait e _ _ _ => e < 192
  | .watchdogExpiry e => e < 192
  | .stroke e _ => e < 192
  | .ewise e _ => e < 192
  | .swap e _ => e < 192
  | .loadacc e _ _ _ _ _ => e < 192
  | .drain e _ _ _ _ _ => e < 192
  | .canvasQueueExecute e _ => e < 192
  | .vadd e _ _ _ => e < 192
  | .vsub e _ _ _ => e < 192
  | .vmul e _ _ _ => e < 192
  | .vmin e _ _ _ => e < 192
  | .vmax e _ _ _ => e < 192
  | .vand e _ _ _ => e < 192
  | .vor e _ _ _ => e < 192
  | .vxor e _ _ _ => e < 192
  | .vsll e _ _ _ => e < 192
  | .vsrl e _ _ _ => e < 192
  | .vsra e _ _ _ => e < 192
  | .vfadd e _ _ _ _ => e < 192
  | .vfsub e _ _ _ _ => e < 192
  | .vfmul e _ _ _ _ => e < 192
  | .vfmin e _ _ _ _ => e < 192
  | .vfmax e _ _ _ _ => e < 192
  | .vfdiv e _ _ _ _ => e < 192
  | .vfsqrt e _ _ _ _ => e < 192
  | .vfabs e _ _ _ _ => e < 192
  | .vcmp e _ _ _ _ _ => e < 192
  | .vsel e _ _ _ _ => e < 192
  | .vbcast e _ _ _ _ => e < 192
  | .vget e _ _ _ _ => e < 192
  | .vput e _ _ _ _ => e < 192
  | .vperm e _ _ _ _ => e < 192
  | .viota e _ _ _ _ => e < 192
  | .vcvt e _ _ _ _ _ => e < 192
  | .vact e _ _ _ _ _ => e < 192
  | .vsum e _ _ _ _ => e < 192
  | .vmaxr e _ _ _ _ => e < 192
  | .vargmax e _ _ _ _ => e < 192
  | .visum e _ _ _ _ => e < 192
  | .vld e _ _ _ _ _ => e < 192
  | .vst e _ _ _ _ _ => e < 192
  | .vrs e _ _ _ _ _ => e < 192
  | .vcorr e _ _ _ _ _ => e < 192
  | .vsort e _ _ _ _ => e < 192
  | .vmerge e _ _ _ _ => e < 192
  | .viou e _ _ _ _ => e < 192
  | .pquant e _ _ => e < 192
  | .psoftmax e _ _ => e < 192
  | .plnorm e _ _ => e < 192
  | .prmsnorm e _ _ => e < 192
  | .ppool e _ _ => e < 192
  | .pdwconv e _ _ => e < 192
  | .pgconv e _ _ => e < 192
  | .pewise e _ _ => e < 192
  | .paletteQueueExecute e => e < 192
  | .plaunch e _ _ _ _ _ => e < 192
  | .plaunchF e _ _ _ _ => e < 192
  | .pwait e _ _ _ _ _ => e < 192
  | .primerJobStart cluster => cluster < 24
  | .primerJobComplete cluster => cluster < 24
  | .shiftStep => true
  | .opChangeSettle _ => true
  | .stretcherLinkRetrain link a b => link < 19 && a ≤ 72 && b ≤ 72
  | .telemetrySample _ => true
  | .pmAlert _ => true
  | .pwrAlert _ => true
  | .alertAutoClear => true
  | .thermTrip => true
  | .scrubRead a addr _ => addr % 8 = 0 && arrayOk a addr
  | .gddrRefresh group channel bank => group < 16 && channel < 2 && bank < 16
  | .gddrRetrack group channel failed => group < 16 && channel < 2 && edcOk channel failed
  | .rowIdleClose group channel bank => group < 16 && channel < 2 && bank < 16
  | .memGroupTransitionDone group _ => group < 16
  | .smbusReadStatus => true
  | .smbusReadTemperature => true
  | .smbusReadPower => true
  | .smbusReadDieTemps => true
  | .smbusReadIdentity => true
  | .smbusReadPwrStatus => true
  | .smbusWriteRefused _ => true
  | .smbusCopyRefresh => true
  | .bypass => true
  | .idcode => true
  | .samplePreload _ => true
  | .extest => true
  | .highz => true
  | .porNAssert _ => true
  | .powerLoss => true
  | .pcieLinkUp _ _ => true
  | .ethPortTrainFail port => port < 2
  | .ptpDelayReqSend => true
  | .freedMemoryZeroed => true

end Sys2Proof
end

