-- ==== Sys2Proof/Machine/Memory.lean ====
section
/-!
DEFINITION. Memory groups (R391 to R394), error injection (R398), the scrubber (R378, R390), and accesses that fail their checksum (R385, R389).
-/
namespace Sys2Proof.Machine

/-! ### Memory groups -/

/-- A group holds a range of a partition that is RUNNING or RESTARTING, or Curator-managed data in use, or is MG0 (R392). (Log 45 DEDUCED) -/
def State.groupBusy (s : State) (g : Nat) : Bool :=
  g = 0 || s.mem.allocs.any (fun m => m.1 / 0x80000000 = g)
    || s.parts.any (fun x => (x.2.state = .running || x.2.state = .restarting) && x.2.mem.any (fun m => m.1 = g))

/-- Groups of a mask. -/
def maskGroups (m : Nat) : List Nat := (List.range 16).filter (fun g => bitAt m g)

/-- The error of MEM_GROUP, 0 for none. -/
def State.memGroupError (s : State) (a : Nat) : Nat :=
  let l := maskGroups a
  let t := bits a 17 16
  if 3 ≤ t || bits a 63 18 ≠ 0 || l.isEmpty then 0x0D01
  else if l.any s.groupBusy then 0x0D02
  else if t = 1 && l.any (fun g => s.groupState g = 2) then 0x0D03
  else 0

/-- Groups asked to move to a state; those that have it already stay (R392). -/
def State.moveGroups (s : State) (l : List Nat) (t : Nat) : State :=
  { s with mem := { s.mem with moving := l.foldl (fun m g => if s.groupState g = t then m else tinsert m g t) s.mem.moving } }

/-- No group of a list is in transition. (Log 45 DEDUCED) -/
def State.groupsSettled (s : State) (l : List Nat) : Bool := l.all (fun g => tfind s.mem.moving g = none)

/-- A command that answers when memory groups have reached their states: `start` begins, the answer follows when they have. -/
def State.markWaiting (s : State) (q : Nat) (n : U32) : State := s.updCmd q (Cmd.unanswered n) (fun c => { c with waiting := true })

/-- MEM_GROUP (R391 to R393): it completes when every group of the mask has reached its target. (Log 45 DEDUCED) -/
def execMemGroup (q : Nat) (n : U32) (s : State) : Out :=
  if 64 ≤ q then noUnit
  else
    match s.running q n 0x0080 with
    | none => .next s
    | some (c, b) =>
      let a := c.entry.arg0.toNat
      let l := maskGroups a
      let done (s : State) : State := (s.measureConfig c.entry b 0xFFFF).answer q n 0 0
      if !s.groupsSettled l then .next s
      else if c.waiting then .next (done s)
      else if s.memGroupError a ≠ 0 then .next (s.answer q n (s.memGroupError a) 0)
      else
        let s1 := s.moveGroups l (bits a 17 16)
        if s1.groupsSettled l then .next (done s1) else .next (s1.markWaiting q n)

/-- The memory of a group lost: it reads as zeros from then on (R393). -/
def State.loseGroup (s : State) (g : Nat) : State := s.forgetDev (groupBase g) 0x80000000

/-- A bank after its group has changed state: its row is closed; after training its history is that of R387. -/
def Bank.reopened (b : Bank) (trained : Bool) : Bank := { b with openRow := none, hist := if trained then 3 else b.hist }

/-- A channel's re-track is counted (R389). -/
def State.retrack (s : State) (k : Nat) : State := { s with mem := { s.mem with retracks := tset 0 s.mem.retracks k (tget 0 s.mem.retracks k + 1) } }

/-- A group is back from self-refresh: both channels re-track (R393), and the scrubber visits it before any other (R390). -/
def State.wakeGroup (s : State) (g : Nat) : State :=
  let s1 := (s.retrack (2 * g)).retrack (2 * g + 1)
  { s1 with mem := { s1.mem with scrubFirst := s1.mem.scrubFirst.filter (fun x => x.1 ≠ g) ++ [(g, groupBase g)] } }

/-- MEM_GROUP_TRANSITION_DONE: a group reaches its target state (R393). (Log 45 DEDUCED) -/
def execMemGroupTransitionDone (group : Nat) (retrained : Bool) (s : State) : Out :=
  if 16 ≤ group then noUnit
  else if s.board.clocksStopped then .next s
  else
    match tfind s.mem.moving group with
    | none => .next s
    | some t =>
      let woken := t = 0 && s.groupState group = 1
      let s1 := if t = 2 then s.loseGroup group else if woken then s.wakeGroup group else s
      .next { s1 with mem := { s1.mem with
        groups := tset 0 s1.mem.groups group t, moving := terase s1.mem.moving group
        scrubFirst := if t = 0 then s1.mem.scrubFirst else s1.mem.scrubFirst.filter (fun x => x.1 ≠ group)
        banks := s1.mem.banks.map (fun x => if x.1 / 32 = group then (x.1, x.2.reopened (woken && retrained)) else x) } }

/-! ### Injection (R398) -/

/-- Bit positions of MEM_INJECT. (Log 44 DEDUCED) -/
def injectBits (a : Nat) : List Nat := ([bits a 7 0, bits a 15 8, bits a 23 16]).filter (· ≠ 0xFF)

/-- The word may be injected. -/
def State.injectOk (s : State) (a : Nat) (l : List Nat) : Bool :=
  a % 8 = 0 && l.all (· < 80)
    && (match windowOf a with | .gddr g _ => s.groupState g = 0 | _ => false)
    && (match s.partIds.find? (fun p => s.ownsByte p a) with
        | some p => (s.part p).state = .empty || (s.part p).state = .ready
        | none => !s.mem.allocs.any (fun m => m.1 ≤ a && a < m.1 + m.2))

/-- MEM_INJECT: the word is written, its flips stay until it is read or written whole, and the injection is logged as kind 5. (Log 44 DEDUCED) -/
def execMemInject (q : Nat) (n : U32) (s : State) : Out :=
  command q n 0x0081 s (fun e _ =>
    let a := e.arg0.toNat
    let l := (injectBits e.arg2.toNat).eraseDups
    if !s.injectOk a l then (s, 0x0D04, 0)
    else
      let s1 := s.setDevN a (leBytes 8 e.arg1.toNat)
      let s2 := { s1 with mem := { s1.mem with flips := tset [] s1.mem.flips a l } }
      (s2.logError (errRecord 5 6 6 0xFFFF (s.wordOwner a) a s.tb.time 0xFF 0xFF), 0, 0))

/-! ### The scrubber (R376 to R378) -/

/-- Owners a word may have: of MED's line buffers, the partitions that MED's engines work for, or
the device (R375, R396); of the Curator's part of a Gallery, which holds the counters and barrier state of units, the partitions with units
on that die, or the device (R295, R396). (Log 119 DESIGN CHOICE) -/
def State.ownersOf (s : State) (a : Nat) : List Nat :=
  match windowOf a with
  | .med off =>
    if off < 0x1400000 then [s.wordOwner a]
    else
      let busy := s.med.engines.filterMap (fun x => x.2.job.map (fun j => (s.sitter j.sitter).partition))
        ++ s.med.fus.filterMap (fun x => x.2.job.map (·.part)) ++ s.med.mss.filterMap (fun x => x.2.job.map (·.part))
      0xFE :: busy.eraseDups
  | .gallery d off =>
    if off < 0x40000 then 0xFE :: s.partIds.filter (fun p => (s.partLeaves p).any (fun e => dieOf e = d)) else [s.wordOwner a]
  | _ => [s.wordOwner a]

/-- An uncorrectable word found by the scrubber; where several owners are possible a free value says which. (Log 119 DESIGN CHOICE) -/
def State.scrubBad (s : State) (a : Nat) : State :=
  let (x, s1) := s.draw
  let l := s1.ownersOf a
  s1.uncorrectableOf 0 a (l.getD (x.toNat % l.length) 0xFE)

/-- A word of device memory with flipped bits, as the scrubber finds it (R376). -/
def State.scrubWord (s : State) (a : Nat) (l : List Nat) : State :=
  if l.isEmpty then s
  else if l.length ≤ 2 then s.correctWord 0 a l
  else if l.length = 3 then s.scrubBad a
  else
    -- four or more: detected, or miscorrected to a value that nothing constrains
    let (x, s1) := s.draw
    let (v, s2) := s1.draw
    if x.getLsbD 0 then s2.scrubBad a else (s2.setDevN a (leBytes 8 v.toNat)).correctWord 0 a [x.toNat / 2 % 80]

/-- A word of an Easel on loan lies in what the chunk uses: the windows, and the register files (R396). -/
def Loan.covers (l : Loan) (array addr : Nat) : Bool :=
  match array with
  | 0 => l.lBase * 0x10000 ≤ addr && addr < (l.lBase + l.lSize) * 0x10000
  | 1 => l.iBase * 0x1000 ≤ addr && addr < (l.iBase + l.iSize) * 0x1000
  | _ => true

/-- Owner of a word of an Easel's own arrays: the partition whose work runs there; outside the windows of a loan, the lender; none of an
Easel that no partition holds (R156, R396). -/
def State.easelWordOwner (s : State) (e array addr : Nat) : Nat :=
  match (s.easel e).loan with
  | none => if (s.dispOf e).isNone && (s.owner e).isNone then 0xFF else s.workPart e
  | some l => if l.covers array addr then l.borrower else l.lender

/-- An uncorrectable word of an Easel: EX_UNCORRECTABLE in the work that uses the word, with the word's location in detail (R156, R186);
outside the windows of a loan, the lender restarts (R396); a word without an owner is written with zero. -/
def State.easelWordBad (s : State) (e array addr : Nat) : State :=
  let o := s.easelWordOwner e array addr
  let s1 := s.countError (dieOf e) array 2
  let s2 := s1.logError (errRecord 3 array 0 e o addr s.tb.time 0xFF 0xFF)
  let E := s2.easel e
  if o = 0xFF then
    s2.setEasel e (match array with | 0 => { E with ls := mclear E.ls addr 8 } | 1 => { E with is := mclear E.is addr 8 } | _ => E)
  else if o = s2.workPart e then s2.easelFault e exUncorrectable E.nextInsn 0 addr
  else s2.partFault o { cause := 2, easel := BitVec.ofNat 16 e, detail := BitVec.ofNat 64 addr }

/-- A corrected word of an Easel is counted and logged (R377, R380). -/
def State.easelCorrected (s : State) (e array addr : Nat) (bits : List Nat) : State :=
  (s.countError (dieOf e) array (bits.length - 1)).logError
    (errRecord bits.length array 0 e (s.easelWordOwner e array addr) addr s.tb.time (bits.getD 0 0xFF) (bits.getD 1 0xFF))

/-- A miscorrected word of the register files (R374, R376): which word it is, and its value, are free. (Log 44 DEDUCED) -/
def Easel.spoil (E : Easel) (x : Nat) (v : U64) : Easel :=
  let i := x / 8
  let w : BitVec 32 := v.setWidth 32
  let pair (l : List (BitVec 32)) (k : Nat) : List (BitVec 32) := (l.set (2 * k) w).set (2 * k + 1) ((v >>> 32).setWidth 32)
  match x % 8 with
  | 0 => E.setSr (i % 31 + 1) v
  | 1 => E.setDr (i % 16) (setQuad (E.dr (i % 16)) (i / 16 % 4) v)
  | 2 => E.setVr (i % 32) (pair (E.vr (i % 32)) (i / 32 % 32))
  | 3 => { E with p := v.setWidth 8 &&& 0xFE }
  | 4 => { E with front := packCells (pair (cells E.front) (i % 2048)) }
  | 5 => { E with back := packCells (pair (cells E.back) (i % 2048)) }
  | 6 => if i % 2 = 0 then { E with db := w } else { E with dbMask := w }
  | _ => match i % 4 with
    | 0 => { E with wdog := w }
    | 1 => { E with cvCount := v }
    | 2 => { E with prDone := v }
    | _ => { E with disp := w }

/-- A word of an Easel's own arrays as the scrubber finds it. A domain that is off is never read. -/
def State.scrubEasel (s : State) (e array addr : Nat) (l : List Nat) : Out :=
  if 192 ≤ e then noUnit
  else if !(s.easel e).powered || l.isEmpty then .next s
  else if l.length ≤ 2 then .next (s.easelCorrected e array addr l)
  else if l.length = 3 then .next (s.easelWordBad e array addr)
  else
    let (x, s1) := s.draw
    let (v, s2) := s1.draw
    if x.getLsbD 0 then .next (s2.easelWordBad e array addr)
    else
      let E := s2.easel e
      let c := s2.easelCorrected e array addr [x.toNat / 2 % 80]
      let b := leBytes 8 v.toNat
      .next (match array with
        | 0 => c.setEasel e { E with ls := mwriteN 0 E.ls addr b }
        | 1 => c.setEasel e { E with is := mwriteN 0 E.is addr b }
        | _ => c.setEasel e (E.spoil (x.toNat / 2) v))

/-- The step of a start after which the arrays of a window are on (R378, R446, R477). (Log 120 DEDUCED) -/
def arrayStep (w : Window) : Nat := match w with | .gddr _ _ => 11 | .gallery _ _ => 13 | .med _ => 11 | _ => 1

/-- A window's arrays are on. -/
def State.arrayOn (s : State) (w : Window) : Bool := !s.board.porAsserted && (s.boot.state = 1 || arrayStep w < s.boot.step)

/-- Every word with flips in some ranges is handled, in address order; a group that is not ACTIVE is not read (R378). -/
def State.scrubRanges (s : State) (rs : List (Nat × Nat)) : State :=
  rs.foldl (fun s r => (s.flipsIn [r]).foldl (fun s f =>
    match windowOf f.1 with
    | .gddr g _ => if s.groupState g = 0 then s.scrubWord f.1 f.2 else s
    | _ => s.scrubWord f.1 f.2) (s.touch [r])) s

/-- The way of the GDDR6 scrubber to the unit at `u` (R390): the groups it visits first, then device-address order from where it stands, round
the end of the last group. Answers the ranges it reads, and its positions afterwards. -/
def scrubWay (at_ u : Nat) : List (Nat × Nat) → List (Nat × Nat) × Nat × List (Nat × Nat)
  | [] => (if at_ ≤ u then [(at_, u + 128 - at_)] else [(at_, 0x800000000 - at_), (0, u + 128)], u + 128, [])
  | (g, x) :: l =>
    let top := groupBase g + groupSize
    if x ≤ u && u < top then ([(x, u + 128 - x)], at_, if u + 128 = top then l else (g, u + 128) :: l)
    else
      let r := scrubWay at_ u l
      ((x, top - x) :: r.1, r.2)

/-- The GDDR6 scrubber reads on to the unit of a word, in which it finds these bits in error. -/
def State.scrubGddr (s : State) (addr : Nat) (bits : List Nat) : State :=
  let w := scrubWay s.mem.scrubAt (addr / 128 * 128) s.mem.scrubFirst
  let s1 := { s with mem := { s.mem with
    flips := tset [] s.mem.flips addr (tget [] s.mem.flips addr ++ bits).eraseDups, scrubAt := w.2.1, scrubFirst := w.2.2 } }
  s1.scrubRanges w.1

/-- SCRUB_READ: the scrubber of an array comes to a word and finds these bits of it in error, besides those that were injected (R378,
R390, R398). (Log 104 DESIGN CHOICE) -/
def execScrubRead (array : EccArray) (addr : Nat) (bits : List Nat) (s : State) : Out :=
  if addr % 8 ≠ 0 then noUnit
  else if s.board.clocksStopped then .next s
  else
    match array with
    | .localStore e => s.scrubEasel e 0 addr bits
    | .instStore e => s.scrubEasel e 1 addr bits
    | .regFile e => s.scrubEasel e 2 addr bits
    | _ =>
      if !s.arrayOn (windowOf addr) then onUnit (windowOf addr ≠ .hole) s
      else
        match windowOf addr with
        | .gddr g _ => if s.groupState g ≠ 0 then .next s else .next (s.scrubGddr addr bits)
        | .hole => noUnit
        | _ =>
          let s1 := { s with mem := { s.mem with flips := tset [] s.mem.flips addr (tget [] s.mem.flips addr ++ bits).eraseDups } }
          .next (s1.scrubWord addr (tget [] s1.mem.flips addr))

/-! ### Checksum errors (R385, R389) -/

/-- The agent of an access (R380). -/
def edcAgent : EdcOp → Nat
  | .scrub => 0
  | .track _ _ => 1
  | .primer _ => 2
  | .decode _ => 3
  | .framing _ => 3
  | .motion _ => 3
  | .ingress => 4
  | .results => 5
  | .curator => 6
  | .barRead _ _ => 7
  | .barWrite => 7

/-- The operation ends without its data (R395): a FETCH or PUT stops, a Primer job raises EX_PRIMER_UNCORRECTABLE (R265), an engine gives
up its picture, slot or request, and a host read completes with Completer Abort. -/
def State.failOp (s : State) : EdcOp → State
  | .track e t => s.setEasel e ((s.easel e).setTrack t ((s.easel e).track t).tail)
  | .primer c =>
    match s.primer c with
    | [] => s
    | j :: q => if j.started then (s.setPrimer c q).easelFaultAt j.easel j.pc exPrimerUncorrectable j.insn.toNat 0 0 else s
  | .decode n =>
    let E := tget {} s.med.engines n
    let s1 := { s with med := { s.med with engines := tset {} s.med.engines n { E with job := none } } }
    match E.job with
    | some j => s1.setSitter j.sitter { s1.sitter j.sitter with engine := none }
    | none => s1
  | .framing n => { s with med := { s.med with fus := tset {} s.med.fus n { tget {} s.med.fus n with job := none } } }
  | .motion n => { s with med := { s.med with mss := tset {} s.med.mss n { tget {} s.med.mss n with job := none } } }
  | .barRead off len => s.abort 4 off len
  | _ => s

/-- What follows from an access that fails although the channel has re-tracked: kind 4 is logged, the agent's operation ends, and the
128-byte unit counts as an uncorrectable error of its owner (R385, R395, R396). (Log 105 DEDUCED) -/
def State.edcFailed (s : State) (group : Nat) (f : EdcFail) : State :=
  let u := groupBase group + f.off / 128 * 128
  let o := s.wordOwner u
  let w := windowOf u
  let s1 := (s.countError (dieOfWindow w) 6 2).logError (errRecord 4 6 (edcAgent f.op) 0xFFFF o u s.tb.time 0xFF 0xFF)
  let s2 := s1.failOp f.op
  if o = 0xFE then s2.raiseDevCause 1
  else if o = 0xFF then s2.clearDev u 128
  else s2.ownerFault o u ((List.range 16).map (fun i => u + 8 * i))

/-- GDDR_RETRACK: the channel re-tracks; no data and no bank changes (R389). It also follows three failed retries of an access, which
may then fail for good (R385). (Log 105 DEDUCED) -/
def execGddrRetrack (group channel : Nat) (failed : Option EdcFail) (s : State) : Out :=
  if group < 16 && channel < 2 && edcOk channel failed then
    let k := 2 * group + channel
    if s.groupState group = 0 && !s.board.clocksStopped then
      let s1 := s.retrack k
      match failed with
      | none => .next s1
      | some f => .next (s1.edcFailed group f)
    else .next s
  else noUnit

end Sys2Proof.Machine
end

