-- ==== Sys2Proof/Machine/Rings.lean ====
section
/-!
DEFINITION. RING_SET and RING_DELETE (R352, R353).
-/
namespace Sys2Proof.Machine

def resBad : Nat := 0x0B01
def resExists : Nat := 0x0B02
def resNotFound : Nat := 0x0B03
def resInUse : Nat := 0x0B04

/-- Every field of the RING_SET layout in range, and reserved fields 0 (R352). -/
def ringFieldsOk (b : List Byte) : Bool :=
  let use := fieldLE b 1 1
  fieldLE b 0 1 < 64 && use ≤ 1 && 16 ≤ fieldLE b 2 1 && fieldLE b 2 1 ≤ 30 && fieldLE b 3 1 < 2 && fieldLE b 6 2 < 256
    && fieldLE b 8 8 % 4096 = 0 && fieldLE b 16 8 % 16 = 0 && allZero (fieldBytes b 32 32)
    && (use = 0 || (fieldLE b 3 1 = 0 && fieldLE b 4 2 = 0))

/-- A new ring: nothing written, nothing released. -/
def ringOf (b : List Byte) : Ring :=
  { use := fieldLE b 1 1, sizeLog2 := fieldLE b 2 1, timeEvents := fieldLE b 3 1 = 1, partEvents := BitVec.ofNat 16 (fieldLE b 4 2)
    vector := BitVec.ofNat 8 (fieldLE b 6 2), base := BitVec.ofNat 64 (fieldLE b 8 8), writeback := BitVec.ofNat 64 (fieldLE b 16 8)
    intrBytes := fieldLE b 24 4, intrUs := fieldLE b 28 4 }

/-- The first error of RING_SET (R353). -/
def State.ringSetError (s : State) (b : List Byte) : Nat :=
  if !ringFieldsOk b then resBad else if (s.ring (fieldLE b 0 1)).defined then resExists else 0

/-- RING_SET (R352). -/
def execRingSet (q : Nat) (n : U32) (s : State) : Out :=
  command q n 0x0060 s (fun e b =>
    let c := s.ringSetError b
    config s e b 0xFFFF (if c ≠ 0 then .error c else .ok (s.setRing (fieldLE b 0 1) (ringOf b))))

/-- A registered sitter names a ring. -/
def State.ringNamed (s : State) (r : Nat) : Bool := s.sitters.any (fun x => x.2.state ≠ 0 && (x.2.resultRing = r || (x.2.archive && x.2.archiveRing = r)))

/-- The first error of RING_DELETE (R353). -/
def State.ringDeleteError (s : State) (r : Nat) : Nat :=
  if !(s.ring r).defined then resNotFound else if s.ringNamed r then resInUse else 0

/-- RING_DELETE (R352). (Log 76 DEDUCED) -/
def execRingDelete (q : Nat) (n : U32) (s : State) : Out :=
  command q n 0x0061 s (fun e b =>
    let r := e.arg0.toNat % 64
    let c := s.ringDeleteError r
    config s e b 0xFFFF (if c ≠ 0 then .error c else .ok (s.setRing r {})))

end Sys2Proof.Machine
end

