-- ==== Sys2Proof/Machine/Partitions.lean ====
section
/-!
DEFINITION. The partition commands (R321 to R323, R33 to R35), PART_LOAD (R311 to R314) and WEIGHT_SWAP (R315, R371).
-/
namespace Sys2Proof.Machine

/-! ### Errors (R323) -/

def partBad : Nat := 0x0A11
def partExists : Nat := 0x0A12
def partNotFound : Nat := 0x0A13
def partStateErr : Nat := 0x0A14
def partLicence : Nat := 0x0A15
def partAtelier : Nat := 0x0A16
def partLeafShared : Nat := 0x0A17
def partMemory : Nat := 0x0A18
def partGallery : Nat := 0x0A19
def partSitterShare : Nat := 0x0A1A
def partHasSitters : Nat := 0x0A1B
def partPackageUse : Nat := 0x0A1C

/-- The first of some (condition, code) that holds; 0: none. -/
def firstCode : List (Bool × Nat) → Nat
  | [] => 0
  | (b, c) :: l => if b then c else firstCode l

/-- The code of a command on a partition that exists and stands in an allowed state. -/
def State.partCode (s : State) (p : Nat) (ok : PartState → Bool) : Nat :=
  match s.part? p with | none => partNotFound | some P => if ok P.state then 0 else partStateErr

/-! ### PART_CREATE -/

/-- Memory range i of a configuration: group, first granule, count. -/
def cfgRange (b : List Byte) (i : Nat) : Nat × Nat × Nat := (fieldLE b (32 + 4 * i) 1, fieldLE b (33 + 4 * i) 1, fieldLE b (34 + 4 * i) 1)

def cfgRanges (b : List Byte) : List (Nat × Nat × Nat) := (List.range (fieldLE b 14 1)).map (cfgRange b)

/-- The partition of a configuration (R321). -/
def cfgPart (b : List Byte) : Part :=
  { be := fieldLE b 1 1 = 1, replay := bitAt (fieldLE b 2 1) 0, affinity := bitAt (fieldLE b 2 1) 1, root := BitVec.ofNat 16 (fieldLE b 4 2)
    maxSitters := fieldLE b 6 2, period := fieldLE b 8 2, offset := fieldLE b 10 2, lendLead := fieldLE b 12 2, mem := cfgRanges b
    chunkRing := BitVec.ofNat 64 (fieldLE b 96 8), chunkEntries := fieldLE b 104 4 }

/-- Period, offset and lend lead in range. -/
def timingOk (be : Bool) (period offset lead : Nat) : Bool := 50 ≤ period && period ≤ 65535 && offset < period && lead ≤ (if be then 0 else 1000)

/-- A memory range that a configuration may name. -/
def cfgRangeOk (b : List Byte) (i : Nat) : Bool :=
  let m := cfgRange b i
  m.1 ≤ 15 && m.2.1 ≤ 95 && 1 ≤ m.2.2 && m.2.1 + m.2.2 ≤ 96 && fieldLE b (35 + 4 * i) 1 = 0

/-- The chunk ring of a best-effort configuration: aligned, and whole in one of its ranges or granule-contiguous ranges. -/
def cfgChunkOk (b : List Byte) : Bool :=
  let P := cfgPart b
  let n := P.chunkEntries
  if P.be then P.chunkRing.toNat % 64 = 0 && isPow2 n && 64 ≤ n && n ≤ 65536 && covered P.ranges P.chunkRing.toNat (64 + 64 * n)
  else P.chunkRing = 0 && n = 0

/-- Every field in range and every reserved field 0. -/
def cfgOk (b : List Byte) : Bool :=
  let P := cfgPart b
  let n := fieldLE b 14 1
  fieldLE b 0 1 ≤ 15 && fieldLE b 1 1 ≤ 1 && fieldLE b 2 1 < 4 && fieldLE b 3 1 = 0 && bits P.root.toNat 14 8 = 0
    && (0x8000 ≤ P.root.toNat || P.root.toNat < 192) && P.maxSitters ≤ 2048 && timingOk P.be P.period P.offset P.lendLead && n ≤ 16
    && fieldLE b 15 1 = 0 && (List.range 6).all (fun d => fieldLE b (16 + 2 * d) 2 ≤ 508) && fieldLE b 28 4 = 0
    && (List.range n).all (cfgRangeOk b) && allZero (fieldBytes b (32 + 4 * n) (64 - 4 * n)) && allZero (fieldBytes b 108 20) && cfgChunkOk b

/-- Two ranges of one list overlap. -/
def anyMeet : List (Nat × Nat) → Bool
  | [] => false
  | r :: l => l.any (rangesMeet r) || anyMeet l

/-- The root names a free atelier, or one that is held and not only by best-effort partitions (R28, R34). -/
def State.rootBad (s : State) (P : Part) : Bool :=
  let r := P.root.toNat
  0x8000 ≤ r && ((s.members (r - 0x8000)).isNone || s.parts.any (fun x => s.holds x.1 (r - 0x8000) && !(P.be && x.2.be)))

/-- A leaf of the root is a leaf of another partition, and either is latency-critical (R34). -/
def State.leafShared (s : State) (P : Part) : Bool :=
  let l := s.expansion P.root.toNat
  s.parts.any (fun x => !(P.be && x.2.be) && (s.partLeaves x.1).any l.contains)

/-- Gallery granules of a die that a partition holds. -/
def State.granulesHeld (s : State) (d : Nat) : List Nat := s.parts.flatMap (fun x => (x.2.gallery.filter (fun g => g.1 = d)).map (·.2))

def State.partCreateCode (s : State) (b : List Byte) : Nat :=
  let P := cfgPart b
  firstCode [
    (!cfgOk b, partBad), ((s.part? (fieldLE b 0 1)).isSome, partExists),
    ((!s.sec.features.getLsbD 3 && 4 ≤ s.parts.length) || (P.replay && !s.sec.features.getLsbD 2), partLicence),
    (s.rootBad P, partAtelier), (s.leafShared P, partLeafShared),
    (anyMeet P.ranges || P.ranges.any (fun r => (s.mem.allocs ++ s.parts.flatMap (fun x => x.2.ranges)).any (rangesMeet r)), partMemory),
    ((List.range 6).any (fun d => 508 < (s.granulesHeld d).length + fieldLE b (16 + 2 * d) 2), partGallery),
    (s.sec.tier < P.maxSitters + (s.parts.map (fun x => x.2.maxSitters)).foldl (· + ·) 0, partSitterShare)]

/-- Memory that the configuration asks for still waits for zeros (R379). -/
def State.createWaits (s : State) (b : List Byte) : Bool :=
  (cfgPart b).ranges.any (fun r => s.mem.zeroing.any (rangesMeet r))
    || (List.range 6).any (fun d => fieldLE b (16 + 2 * d) 2 ≠ 0 && s.mem.zeroGal.any (fun g => g.1 = d))

/-- The lowest free granules of every die (R321). -/
def State.takeGranules (s : State) (b : List Byte) : List (Nat × Nat) :=
  (List.range 6).flatMap (fun d =>
    (((List.range 508).filter (fun g => !(s.granulesHeld d).contains g)).take (fieldLE b (16 + 2 * d) 2)).map (fun g => (d, g)))

/-- The Easels of some leaves are on (R35, R477). (Log 94 DEDUCED, 131 DESIGN CHOICE) -/
def State.powerOn (s : State) (l : List Nat) : State := l.foldl (fun s e => s.setEasel e (s.woken e)) s

/-- PART_CREATE (R321, R322). (Log 67 DEDUCED) -/
def execPartCreate (q : Nat) (n : U32) (s : State) : Out :=
  if 64 ≤ q then noUnit
  else
    match s.running q n 0x0020 with
    | none => .next s
    | some (_, b) =>
      if s.partCreateCode b = 0 && s.createWaits b then .next s
      else
        command q n 0x0020 s (fun e b =>
          let p := fieldLE b 0 1
          let c := s.partCreateCode b
          let P : Part := { cfgPart b with gallery := s.takeGranules b }
          config s e b p (if c ≠ 0 then .error c else .ok ((s.setPart p P).powerOn (s.expansion P.root.toNat))))

/-! ### PART_TIMING -/

/-- PART_TIMING (R322). (Log 67 DEDUCED) -/
def execPartTiming (q : Nat) (n : U32) (s : State) : Out :=
  command q n 0x0022 s (fun e b =>
    let p := e.arg0.toNat % 16
    let a := e.arg1.toNat
    let P := s.part p
    let c := firstCode [(!timingOk P.be (bits a 15 0) (bits a 31 16) (bits a 47 32), partBad),
      (true, s.partCode p (fun t => t = .empty || t = .ready))]
    config s e b p (if c ≠ 0 then .error c
      else .ok (s.setPart p { P with period := bits a 15 0, offset := bits a 31 16, lendLead := bits a 47 32 })))

/-! ### Groups that a partition needs ACTIVE (R394) -/

/-- Groups of a partition that are not ACTIVE. -/
def State.sleeping (s : State) (p : Nat) : List Nat := ((s.part p).mem.map (·.1)).filter (fun g => s.groupState g ≠ 0)

/-- A command that first returns the partition's groups to ACTIVE, and then runs. -/
def withGroups (q : Nat) (n : U32) (op : Nat) (s : State) (code : State → Entry → Nat) (run : State → Entry → List Byte → State × Nat × Nat) : Out :=
  if 64 ≤ q then noUnit
  else
    match s.running q n op with
    | none => .next s
    | some (c, b) =>
      let p := c.entry.arg0.toNat % 16
      if s.heldBack c.entry then .next s
      else if code s c.entry ≠ 0 then .next (s.answer q n (code s c.entry) 0)
      else if !(s.sleeping p).isEmpty then (if c.waiting then .next s else .next ((s.moveGroups (s.sleeping p) 0).markWaiting q n))
      else
        let r := run s c.entry b
        .next (r.1.answer q n r.2.1 r.2.2)

/-! ### PART_LOAD -/

/-- Loans of a kind end. -/
def State.recallLoans (s : State) (f : Loan → Bool) : State :=
  (s.easels.map (·.1)).foldl (fun s e => match (s.easel e).loan with | some l => if f l then s.endLoan e else s | none => s) s

/-- MED's work for a partition is abandoned (R146). -/
def State.dropMedWork (s : State) (p : Nat) : State :=
  { s with med := { s.med with
    slots := s.med.slots.filter (fun j => j.part ≠ p)
    fus := s.med.fus.map (fun x => (x.1, { x.2 with job := x.2.job.filter (fun j => j.part ≠ p) }))
    mss := s.med.mss.map (fun x => (x.1, { x.2 with job := x.2.job.filter (fun j => j.part ≠ p) })) } }

/-- A load answers with its report, whether it passes or not. -/
def State.partLoad (s : State) (e : Entry) (b : List Byte) : State × Nat × Nat :=
  let p := e.arg0.toNat % 16
  match s.load p b e.len0.toNat with
  | .error f =>
    let r := s.failReport f
    (r.2.hostWrite e.addr1.toNat r.1, f.code, 0)
  | .ok s1 =>
    let s2 := (s1.recallLoans (fun l => l.borrower = p)).dropMedWork p
    let k := (s2.part p).pkg
    let rep := match k with | some k => loadReport k e.len1.toNat | none => []
    let d := match k with | some k => k.digest | none => []
    (((s2.measure 4 0x06 p d 0).partEvent p { event := 1 }).hostWrite e.addr1.toNat rep, 0, 0)

/-- A load whose package copy needs memory still to be zeroed. (Log 66 DEDUCED) -/
def State.copyWaits (s : State) (q : Nat) (n : U32) : Bool :=
  s.zerosDue && match s.running q n 0x0021 with
    | none => false
    | some (c, b) =>
      match s.load (c.entry.arg0.toNat % 16) b c.entry.len0.toNat with
      | .error f => f.code = 0x0915 && f.sect = 0xFFFF
      | .ok _ => false

/-- PART_LOAD (R311 to R314, R322). (Log 67 DEDUCED) -/
def execPartLoad (q : Nat) (n : U32) (s : State) : Out :=
  if !s.busOn || s.copyWaits q n then onUnit (q < 64) s
  else withGroups q n 0x0021 s (fun s e => s.partCode (e.arg0.toNat % 16) (fun t => t = .empty || t = .ready || t = .failed)) State.partLoad

/-! ### PART_START, PART_STOP -/

/-- A package cannot run its sittings: no work list of its size, or no Q0 while the partition holds a sitter (PART_PACKAGE_USE). -/
def State.packageUse (s : State) (p : Nat) : Bool :=
  match (s.part p).pkg with
  | none => true
  | some k =>
    !k.workLists.any (fun x => 64 + 16 * pkgMaxBatches k.bytes ≤ x.2)
      || (!hasSection k.bytes 9 && s.sitters.any (fun x => x.2.state ≠ 0 && x.2.partition = p))

def State.partStartCode (s : State) (p : Nat) : Nat :=
  firstCode [(s.partCode p (· = .ready) ≠ 0, s.partCode p (· = .ready)), (s.packageUse p, partPackageUse)]

/-- PART_START (R322): sittings run from store time on; a replay partition goes on from its virtual time. (Log 67 DEDUCED) -/
def execPartStart (q : Nat) (n : U32) (s : State) : Out :=
  withGroups q n 0x0023 s (fun s e => s.partStartCode (e.arg0.toNat % 16)) (fun s e b =>
    let p := e.arg0.toNat % 16
    let P := s.part p
    let s1 := (s.setPart p { P with state := .running, from_ := if P.replay then P.from_ else s.tb.time }).takeWeights p
    ((s1.partEvent p { event := 2 }).measureConfig e b p, 0, 0))

/-- Sitters of a partition, ascending. -/
def State.sittersOf (s : State) (p : Nat) : List Nat := (s.sitters.filter (fun x => x.2.state ≠ 0 && x.2.partition = p)).map (·.1)

/-- The adaptation job of a partition ends as ABORTED (R369). -/
def State.abortJob (s : State) (p : Nat) : State :=
  match (s.part p).job with
  | none => s
  | some j => (s.setPart p { s.part p with job := none, run := (s.part p).run.map (fun (r : SittingRun) => { r with step := none }) }).adaptRecord p j.job 3 j.done j.steps j.loss (j.done * j.batch)

/-- A stop takes effect (R322): READY, every sitter joins again, loans of the partition's Easels end (R334), and its job is aborted (R369). (Log 64 DEDUCED) -/
def State.stopPart (s : State) (p : Nat) : State :=
  let s1 := (s.setPart p { s.part p with state := .ready, stopping := none }).abortJob p
  let s2 := (s1.sittersOf p).foldl State.stopSitter s1
  (s2.recallLoans (fun l => l.lender = p)).partEvent p { event := 3, sitters := (s1.sittersOf p).length }

/-- A stop that has waited completes (R322). (Log 73 DEDUCED) -/
def State.finishStop (s : State) (p : Nat) : State :=
  match (s.part p).stopping with
  | none => s
  | some (q, n) =>
    match s.cmd? q n with
    | none => s.stopPart p
    | some c => ((s.stopPart p).measureConfig c.entry (c.block.getD []) p).answer q n 0 0

/-- PART_STOP: at once between sittings, else when the current sitting completes (R322). -/
def execPartStop (q : Nat) (n : U32) (s : State) : Out :=
  if 64 ≤ q then noUnit
  else
    match s.running q n 0x0024 with
    | none => .next s
    | some (c, _) =>
      let p := c.entry.arg0.toNat % 16
      let code := s.partCode p (· = .running)
      if c.waiting || s.heldBack c.entry then .next s
      else if code ≠ 0 then .next (s.answer q n code 0)
      else
        let s1 := s.setPart p { s.part p with stopping := some (q, n) }
        if (s.part p).run.isSome then .next (s1.markWaiting q n) else .next (s1.finishStop p)

/-! ### PART_DELETE -/

/-- A partition gone: its memory, package copy, descriptors and Easels returned (R35). -/
def State.deletePart (s : State) (p : Nat) : State :=
  let P := s.part p
  let leaves := s.partLeaves p
  let s0 := match P.advance with | some (q, n, _) => s.answer q n partNotFound 0 | none => s
  let s1 := ((s0.partEvent p { event := 8 }).recallLoans (fun l => l.borrower = p || l.lender = p)).dropMedWork p
  let s2 := match P.pkg with | some k => k.ateliers.foldl State.freeAtelier (s1.deallocate k.copyAddr) | none => s1
  let s3 := s2.freePart P
  let s4 : State := { s3 with parts := terase s3.parts p, disps := s3.disps.filter (fun d => d.part ≠ p) }
  (leaves.filter (fun e => !s4.partIds.any (fun x => (s4.partLeaves x).contains e))).foldl (fun s e => s.setEasel e {}) s4

/-- PART_DELETE (R322, R323). -/
def execPartDelete (q : Nat) (n : U32) (s : State) : Out :=
  command q n 0x0025 s (fun e b =>
    let p := e.arg0.toNat % 16
    let st := s.partCode p (fun t => t = .empty || t = .ready || t = .failed)
    let c := firstCode [(st ≠ 0, st), (!(s.sittersOf p).isEmpty, partHasSitters)]
    config s e b p (if c ≠ 0 then .error c else .ok (s.deletePart p)))

/-! ### WEIGHT_SWAP (R315, R371) -/

/-- The checks of an offered section. -/
def swapFail (k : Pkg) (ix : Nat) (w : List Byte) : Chk :=
  let b := k.bytes
  let l := secs b 3
  match l.find? (fun x => x.1.index = ix) with
  | none => some { code := 0x0903, found := some ix }
  | some x =>
    let others := (l.filter (fun y => y.1.index ≠ ix)).map (fun y => fieldLE (pkgSection b 3 y.1.index) 0 2)
    let old := fieldLE (pkgSection b 3 ix) 0 2
    firstFail [
      need (1 ≤ w.length) { code := 0x0903, sect := x.2, limit := some 1, found := some 0 }, chkWeights b w x.2 others,
      need (w.length = x.1.bytes) { code := 0x0916, sect := x.2, limit := some x.1.bytes, found := some w.length },
      need (fieldLE w 0 2 = old) { code := 0x0916, sect := x.2, limit := some old, found := some (fieldLE w 0 2) }]

/-- The package with a section replaced and its digest recomputed. -/
def swapBytes (b : List Byte) (off : Nat) (w : List Byte) : List Byte :=
  let b1 := b.take off ++ w ++ b.drop (off + w.length)
  b1.take 16 ++ digest (b1.drop 64) ++ b1.drop 48

/-- The swap enters the package copy; it takes effect at the next scan. -/
def State.swapIn (s : State) (p : Nat) (k : Pkg) (ix : Nat) (w : List Byte) : State :=
  let off := match (secs k.bytes 3).find? (fun x => x.1.index = ix) with | some x => x.1.off | none => 0
  let b := swapBytes k.bytes off w
  let d := fieldBytes b 16 32
  (s.setDevN k.copyAddr b).setPart p { s.part p with pkg := some { k with bytes := b, digest := d }, swaps := (s.part p).swaps ++ [(ix, w, d)] }

/-- WEIGHT_SWAP (R371). -/
def execWeightSwap (q : Nat) (n : U32) (s : State) : Out :=
  if !s.busOn then onUnit (q < 64) s
  else
    command q n 0x0026 s (fun e b =>
      let p := e.arg0.toNat % 16
      let ix := bits e.arg0.toNat 31 16
      let c := s.partCode p (fun t => t = .ready || t = .running)
      if c ≠ 0 then (s, c, 0)
      else
        match (s.part p).pkg with
        | none => (s, partStateErr, 0)
        | some k =>
          match swapFail k ix b with
          | some f =>
            let r := s.failReport f
            (r.2.hostWrite e.addr1.toNat r.1, f.code, 0)
          | none => (s.swapIn p k ix b, 0, 0))

/-- An INIT image written again; in a lent local store, outside the window, which returns as zeros (R334, R371). -/
def Easel.reInit (E : Easel) (b : List Byte) : Easel :=
  let inWindow (a : Nat) : Bool := match E.loan with | some l => l.lBase * 0x10000 ≤ a && a < (l.lBase + l.lSize) * 0x10000 | none => false
  { E with ls := mwriteL 0 E.ls ((bytesAt 0 b).filter (fun x => !inWindow x.1)) }

/-- The swaps that wait take effect before a scan (R371): sections written, INIT images written again, measured and reported. -/
def State.applySwaps (s : State) (p : Nat) : State :=
  let P := s.part p
  match P.pkg with
  | none => s
  | some k =>
    if P.swaps.isEmpty then s
    else
      let s1 := P.swaps.foldl (fun s x => s.setDevN (k.regions.getD (fieldLE x.2.1 0 2) 0) x.2.1) s
      let s2 := ((s.partLeaves p).filter (fun e => (s.easel e).loan.isSome || !s.leafBusy p e)).foldl (fun s e =>
        match k.stageOf e with
        | some i => s.setEasel e ((s.easel e).reInit (pkgSection k.bytes 0x0C i))
        | none => s) s1
      let s3 := P.swaps.foldl (fun s x => (s.measure 4 0x07 p x.2.2 P.sitting).partEvent p { event := 7 }) s2
      s3.setPart p { s3.part p with swaps := [] }

end Sys2Proof.Machine
end

