-- ==== Sys2Proof/Machine/Adapt.lean ====
section
/-!
DEFINITION. On-site adaptation (R360 to R364, R369, R373): the sample set, and a job's start and abort. Its steps are sittings
(Machine/Sittings.lean, Machine/Leaves.lean).
-/
namespace Sys2Proof.Machine

/-! ### Errors (R373) -/

def adpBad : Nat := 0x0C01
def adpPartition : Nat := 0x0C02
def adpBusy : Nat := 0x0C03
def adpNoJob : Nat := 0x0C04
def adpSampleBad : Nat := 0x0C05
def adpSampleMemory : Nat := 0x0C06
def adpOrder : Nat := 0x0C07

/-- A partition that may adapt (R360). -/
def State.adaptable (s : State) (p : Nat) : Bool :=
  match s.part? p with
  | none => false
  | some P => P.state = .running && P.be && !P.replay && (s.sittersOf p).isEmpty && match P.pkg with | some k => k.training | none => false

/-! ### ADAPT_SAMPLES (R361, R362) -/

/-- A sample of the buffer: its place, label and JPEG length. -/
structure SampleHdr where
  off   : Nat
  label : Nat
  len   : Nat
  deriving DecidableEq, Repr

/-- The headers of `n` samples one after another; the index of the first that is not whole or breaks its header's rule. -/
def sampleHeaders (b : List Byte) : Nat → Nat → Nat → Except Nat (List SampleHdr)
  | 0, _, _ => .ok []
  | n + 1, i, off =>
    let len := fieldLE b (off + 4) 4
    if b.length < off + 16 + len || len < 1 || 0x100000 < len || fieldLE b (off + 8) 8 ≠ 0 then .error i
    else
      match sampleHeaders b n (i + 1) (off + 16 + (len + 7) / 8 * 8) with
      | .error k => .error k
      | .ok l => .ok ({ off := off, label := fieldLE b off 4, len := len } :: l)

/-- The sitter-like layout that a sample is decoded into (R362). -/
def sampleSitterOf (o : PicDesc) (a : Nat) : Sitter :=
  let L := sampleLayout o.jpeg.width o.jpeg.height
  { L with slots := BitVec.ofNat 64 a, slotBytes := L.slotSize, bounds := (a, L.slotSize) }

/-- A sample within R361 that decodes with no concealed block. -/
def sampleOk (o : PicDesc) : Bool :=
  let S := sampleSitterOf o 0
  jpegOk S o.jpeg && 16 ≤ o.jpeg.width && o.jpeg.width ≤ 1024 && 16 ≤ o.jpeg.height && o.jpeg.height ≤ 1024
    && (o.jpeg.chroma = .c420 || o.jpeg.chroma = .c400) && (picResult S o 0).conc.isEmpty

/-- The first failing index of a set. (Log 79 DEDUCED) -/
def sampleBad (b : List Byte) (n : Nat) (l : List PicDesc) : Option Nat :=
  let pics := (List.range n).find? (fun i => match l[i]? with | some o => !sampleOk o | none => true)
  match sampleHeaders b n 0 0 with
  | .error k => some (match pics with | some j => min j k | none => k)
  | .ok _ => pics

/-- Slot bytes of a sample (R104, R362). -/
def sampleSlot (o : PicDesc) : Nat := (sampleLayout o.jpeg.width o.jpeg.height).slotSize

/-- Addresses of the slots, each aligned to 4 KiB, and the end of the last. -/
def placeSamples : List PicDesc → Nat → List Nat × Nat
  | [], a => ([], a)
  | o :: l, a => let r := placeSamples l (upTo 4096 a + sampleSlot o); (upTo 4096 a :: r.1, r.2)

/-- A directory entry. -/
def dirEntry (label : Nat) (o : PicDesc) (a : Nat) : List Byte :=
  leBytes 4 label ++ leBytes 2 o.jpeg.width ++ leBytes 2 o.jpeg.height ++ leBytes 8 a ++ leBytes 4 (sampleSlot o) ++ List.replicate 12 0

/-- A decoded sample in its slot: planes, statistics header and block records as R104 and R120 lay them out. The manual gives a sample no capture
time and no au_index: both are free values. (Log 126 DESIGN CHOICE) -/
def State.writeSample (s : State) (o : PicDesc) (a : Nat) : State :=
  let (x, s1) := s.draw
  let (y, s2) := s1.draw
  let S := sampleSitterOf o a
  s2.setDev (s2.pictureWrites S 0 o x y (picResult S o 0))

/-- The sample set written: directory and slots. -/
def State.loadSamples (s : State) (p area bytes : Nat) (b : List Byte) (l : List PicDesc) : State :=
  let hs := match sampleHeaders b l.length 0 0 with | .ok h => h | .error _ => []
  let places := (placeSamples l (area + 32 * l.length)).1
  let s1 := s.setDevN area (((hs.zip l).zip places).flatMap (fun x => dirEntry x.1.1.label x.1.2 x.2))
  let s2 := (l.zip places).foldl (fun s x => s.writeSample x.1 x.2) s1
  s2.setPart p { s2.part p with samples := some (BitVec.ofNat 64 area, bytes, l.length) }

/-- ADAPT_SAMPLES; `samples` is what the JPEG engines make of each stream. -/
def execAdaptSamples (q : Nat) (n : U32) (samples : List PicDesc) (s : State) : Out :=
  command q n 0x0070 s (fun e b =>
    let p := bits e.arg2.toNat 31 24
    let count := bits e.arg2.toNat 16 0
    let area := e.arg0.toNat
    let bytes := e.arg1.toNat
    let c := firstCode [
      (15 < p || count = 0 || 65536 < count || area % 64 ≠ 0 || ((s.part? p).isSome && !s.within p area bytes), adpBad), (!s.adaptable p, adpPartition),
      ((s.part p).job.isSome, adpBusy)]
    if c ≠ 0 then (s, c, 0)
    else
      match sampleBad b count samples with
      | some i => (s, adpSampleBad, i)
      | none =>
        let l := samples.take count
        if area + bytes < (placeSamples l (area + 32 * count)).2 then (s, adpSampleMemory, 0) else (s.loadSamples p area bytes b l, 0, 0))

/-! ### ADAPT_START (R363, R364) -/

/-- f32 bits: finite; positive and finite; 0.0 ≤ value < 1.0; zero. -/
def f32Finite (v : Nat) : Bool := bits v 30 23 ≠ 255
def f32Positive (v : Nat) : Bool := f32Finite v && 0 < v && v < 2 ^ 31
def f32Below1 (v : Nat) : Bool := v < 0x3F800000 || v = 0x80000000
def f32Zero (v : Nat) : Bool := v % 2 ^ 31 = 0

/-- Optimiser fields in range. -/
def optimiserOk (b : List Byte) : Bool :=
  let adam : Bool := fieldLE b 5 1 = 1
  f32Positive (fieldLE b 64 4) && f32Below1 (fieldLE b 68 4)
    && (if adam then f32Below1 (fieldLE b 72 4) && f32Positive (fieldLE b 76 4) else f32Zero (fieldLE b 72 4) && f32Zero (fieldLE b 76 4))
    && (fieldLE b 80 4 = 0 || f32Positive (fieldLE b 80 4))

/-- Fields that need no partition. (Log 79 DEDUCED) -/
def jobFieldsOk (b : List Byte) : Bool :=
  fieldLE b 4 1 ≤ 15 && fieldLE b 5 1 ≤ 1 && fieldLE b 6 1 ≤ 1 && fieldLE b 7 1 = 0 && 1 ≤ fieldLE b 10 2 && 1 ≤ fieldLE b 12 4
    && fieldLE b 12 4 ≤ 16777216 && fieldLE b 20 4 = 0 && fieldLE b 24 8 % 8 = 0 && fieldLE b 32 8 % 64 = 0 && fieldLE b 40 8 % 64 = 0
    && fieldLE b 56 8 % 64 = 0 && optimiserOk b && allZero (fieldBytes b 84 44)

/-- The weights section: present, with every tensor I8 (R370). -/
def weightsI8 (k : Pkg) (i : Nat) : Bool :=
  let w := pkgSection k.bytes 3 i
  !w.isEmpty && (List.range (fieldLE w 2 2)).all (fun j => fieldLE w (33 + 32 * j) 1 = 0)

/-- The order table's entries, from its bytes: sample, record, reserved. -/
def orderEntries (t : List Byte) : List (Nat × Nat × Nat) :=
  (List.range (t.length / 8)).map (fun i => (fieldLE t (8 * i) 4, fieldLE t (8 * i + 4) 2, fieldLE t (8 * i + 6) 2))

/-- Ranges of a job: order table, state buffers, and the sample area. -/
def jobRanges (b : List Byte) (P : Part) : List (Nat × Nat) :=
  [(fieldLE b 24 8, 8 * fieldLE b 12 4 * fieldLE b 10 2), (fieldLE b 32 8, fieldLE b 48 8), (fieldLE b 40 8, fieldLE b 48 8)]
    ++ match P.samples with | some (a, n, _) => [(a.toNat, n)] | none => []

/-- Fields that depend on the partition. -/
def State.jobFitsPart (s : State) (p : Nat) (b : List Byte) : Bool :=
  let P := s.part p
  let rs := jobRanges b P
  rs.all (fun r => s.within p r.1 r.2) && !anyMeet rs
    && (match P.pkg with
        | some k => weightsI8 k (fieldLE b 8 2) && (match (s.framing p).bind (fun f => f.queues[0]?) with | some q => decide (fieldLE b 10 2 ≤ q.slots) | none => false)
        | none => true)
    && (orderEntries (s.devN (fieldLE b 24 8) (8 * fieldLE b 12 4 * fieldLE b 10 2))).all (fun x => x.2.2 = 0)

/-- The order names a sample beyond the set, or a record beyond the table, or there is no set. (Log 79 DEDUCED) -/
def State.orderBad (s : State) (p : Nat) (b : List Byte) : Bool :=
  match (s.part p).samples with
  | none => true
  | some (_, _, n) =>
    let aug := match s.framing p with | some f => f.augRecords | none => 0
    (orderEntries (s.devN (fieldLE b 24 8) (8 * fieldLE b 12 4 * fieldLE b 10 2))).any (fun x => n ≤ x.1 || (x.2.1 ≠ 0xFFFF && aug ≤ x.2.1))

/-- The job of a descriptor. -/
def decodeJob (b : List Byte) : Job :=
  { job := BitVec.ofNat 32 (fieldLE b 0 4), weights := fieldLE b 8 2, batch := fieldLE b 10 2, steps := fieldLE b 12 4, progress := fieldLE b 16 4
    order := BitVec.ofNat 64 (fieldLE b 24 8), stateA := BitVec.ofNat 64 (fieldLE b 32 8), stateB := BitVec.ofNat 64 (fieldLE b 40 8)
    exportTo := BitVec.ofNat 64 (fieldLE b 56 8), optimiser := fieldLE b 5 1, master := fieldLE b 6 1
    stateBytes := BitVec.ofNat 64 (fieldLE b 48 8), lr := BitVec.ofNat 32 (fieldLE b 64 4), beta1 := BitVec.ofNat 32 (fieldLE b 68 4)
    beta2 := BitVec.ofNat 32 (fieldLE b 72 4), eps := BitVec.ofNat 32 (fieldLE b 76 4), decay := BitVec.ofNat 32 (fieldLE b 80 4), desc := b }

/-- (Log 79 DEDUCED) -/
def State.adaptStartCode (s : State) (p : Nat) (b : List Byte) : Nat :=
  firstCode [
    (!jobFieldsOk b || ((s.part? p).isSome && !s.jobFitsPart p b), adpBad), (!s.adaptable p, adpPartition), ((s.part p).job.isSome, adpBusy),
    (s.orderBad p b, adpOrder)]

/-- The Curator reads the order table; a word that cannot be corrected restarts its partition, which then may not adapt (R360, R395).
(Log 104 DESIGN CHOICE) -/
def State.readOrder (s : State) (p : Nat) (b : List Byte) : State :=
  let r := (fieldLE b 24 8, 8 * fieldLE b 12 4 * fieldLE b 10 2)
  let x := s.readCheck 6 (if s.within p r.1 r.2 then [r] else [])
  x.2.foldl (fun s a => s.uncorrectable 6 a) x.1

/-- ADAPT_START. -/
def execAdaptStart (q : Nat) (n : U32) (s : State) : Out :=
  command q n 0x0071 s (fun e b =>
    let p := fieldLE b 4 1
    let s := s.readOrder p b
    let c := s.adaptStartCode p b
    config s e b p (if c ≠ 0 then .error c else .ok (s.setPart p { s.part p with job := some (decodeJob b) })))

/-- ADAPT_ABORT (R369). -/
def execAdaptAbort (q : Nat) (n : U32) (s : State) : Out :=
  command q n 0x0072 s (fun e _ =>
    let p := e.arg0.toNat % 16
    let c := firstCode [(!s.adaptable p, adpPartition), ((s.part p).job.isNone, adpNoJob)]
    if c ≠ 0 then (s, c, 0) else (s.abortJob p, 0, 0))

end Sys2Proof.Machine
end

