-- ==== Sys2Proof/Machine/Power.lean ====
section
/-!
DEFINITION. Operating points, telemetry, shift steps, alerts and link retraining (R477 to R494). Dies are numbered 0 to 5 for CD0 to CD5, 6 for
MED and 7 for HUB; the registers list them in the order of `dieOrder`.
-/
namespace Sys2Proof.Machine

/-! ### Preferences and bands (R485, R486) -/

/-- A Stretcher link joins two dies (R14). -/
def neighbours (a b : Nat) : Bool := a ≠ b && (6 ≤ a || 6 ≤ b || (a + 1) % 6 = b || (b + 1) % 6 = a)

/-- Position of a die in the order HUB, MED, CD0 to CD5. -/
def diePos (d : Nat) : Nat := if d = 7 then 0 else if d = 6 then 1 else d + 2

/-- op_pref of a die in the phase in force. -/
def State.opPref (s : State) (d : Nat) : Nat := s.host.live.opPref s.tb.phase (diePos d)

/-- pref[d] before R486: 0xFF gives OP4 for HUB and MED and OP5 for a compute die. -/
def State.rawPref (s : State) (d : Nat) : Nat := if s.opPref d = 0xFF then (if 6 ≤ d then 4 else 5) else s.opPref d

/-- A preference moved towards the neighbours applied before it, until it lies within four points of each. -/
def clipPref (applied : List (Nat × Nat)) (d p : Nat) : Nat :=
  let n := (applied.filter (fun x => neighbours x.1 d)).map (·.2)
  let lo := n.foldl (fun m q => max m (q - 4)) 0
  let hi := n.foldl (fun m q => min m (q + 4)) 7
  min hi (max lo p)

/-- Preferences in force, in the order HUB, MED, CD0 to CD5. -/
def State.prefs (s : State) : List (Nat × Nat) := dieOrder.foldl (fun l d => l ++ [(d, clipPref l d (s.rawPref d))]) []

def State.pref (s : State) (d : Nat) : Nat := match s.prefs.find? (fun x => x.1 = d) with | some x => x.2 | none => 0

/-- The band of a die. (Log 42 DEDUCED) -/
def State.band (s : State) (d : Nat) : Nat × Nat :=
  if 6 ≤ d then (s.pref d, s.pref d)
  else if s.opPref d = 0xFF then (0, 7)
  else (s.pref d - 2, min 7 (s.pref d + 2))

/-! ### Changes (R482) -/

/-- The point a die has once every change under way is made. -/
def State.planned (s : State) (d : Nat) : Nat :=
  match ((s.pwr.change.toList ++ s.pwr.todo).filter (fun c => c.die = d)).getLast? with
  | some c => c.to_
  | none => s.op d

/-- PMBus address of a die's rail (R483). -/
def railOf (d : Nat) : Nat := 0x40 + d

/-- The next change begins: VOUT_COMMAND; on a lower the clocks move first. -/
def State.beginChange (s : State) : State :=
  match s.pwr.change, s.pwr.todo with
  | none, c :: rest =>
    { s with pwr := { s.pwr with
        change := some c, todo := rest, vout := tset 0 s.pwr.vout (railOf c.die) (opVolt c.to_)
        ops := if c.to_ < s.op c.die then tset 0 s.pwr.ops c.die c.to_ else s.pwr.ops } }
  | _, _ => s

/-- A move keeps neighbours within four points (R486). -/
def State.moveOk (s : State) (d v : Nat) : Bool :=
  (List.range 8).all (fun x => !neighbours x d || (v ≤ s.planned x + 4 && s.planned x ≤ v + 4))

/-- A change of one point asked for. -/
def State.askChange (s : State) (d v : Nat) : State :=
  if s.moveOk d v then ({ s with pwr := { s.pwr with todo := s.pwr.todo ++ [({ die := d, to_ := v } : OpChange)] } } : State).beginChange else s

/-- raise(d): not above the band, nor above OP7. -/
def State.raiseOp (s : State) (d : Nat) : State :=
  if s.planned d < 7 && s.planned d + 1 ≤ (s.band d).2 then s.askChange d (s.planned d + 1) else s

/-- lower(d): not below the band, which the hot rule does not apply, nor below OP0. -/
def State.lowerOp (s : State) (d : Nat) (hot : Bool := false) : State :=
  if 0 < s.planned d && (hot || (s.band d).1 ≤ s.planned d - 1) then s.askChange d (s.planned d - 1) else s

/-- READ_VOUT lies within 1 % of a point's voltage (R482). -/
def voutSettled (mv op : Nat) : Bool := 99 * opVolt op ≤ 100 * mv && 100 * mv ≤ 101 * opVolt op

/-- OP_CHANGE_SETTLE: READ_VOUT, in mV, lies at the new voltage, or a raise is abandoned at the old point and REG_FAULT is set (R482). -/
def execOpChangeSettle (mv : Nat) (s : State) : Out :=
  match s.pwr.change with
  | none => .next s
  | some c =>
    if s.board.clocksStopped then .next s else
    let s0 := { s with pwr := { s.pwr with change := none } }
    let raising := s.op c.die < c.to_
    let s1 := if raising && !voutSettled mv c.to_ then { s0 with pwr := { s0.pwr with regFault := true } }
      else { s0 with pwr := { s0.pwr with ops := tset 0 s0.pwr.ops c.die c.to_, changes := s0.pwr.changes + 1 } }
    .next s1.beginChange

/-! ### Telemetry (R483, R484, R487) -/

/-- Temperature of a die, °C. -/
def State.temp (s : State) (d : Nat) : Int := tget 0 s.pwr.temps d

/-- The 100 ms average, 0.1 W: the mean of the last samples, at most 100 (R6, R483). (Log 42 DEDUCED) -/
def State.avgDw (s : State) : Nat :=
  if s.pwr.samples.isEmpty then 0 else (rneDiv (Int.ofNat (s.pwr.samples.foldl (· + ·) 0)) (Int.ofNat s.pwr.samples.length)).toNat

/-- BUDGET_W and FREEZE (R489). -/
def State.budget (s : State) : Nat := bits s.host.live.pwrCtl.toNat 15 0
def State.freeze (s : State) : Bool := bitAt s.host.live.pwrCtl.toNat 16

/-- The exposed Easels of a compute die that are leaves of latency-critical partitions. -/
def State.lcLeaves (s : State) (d : Nat) : List Nat :=
  (List.range 192).filter (fun e => dieOf e = d && s.parts.any (fun x => !x.2.be && (s.partLeaves x.1).contains e))

/-- Cycles of the present shift interval on a compute die's leaves: those in dispatches of their own partition, and all (R487). The leaves are
those of the interval's end. (Log 42 DEDUCED) -/
def State.occNow (s : State) (d : Nat) : Nat × Nat :=
  (s.lcLeaves d).foldl (fun x e => (x.1 + (s.easel e).busyCyc, x.2 + (s.easel e).spanCyc)) (0, 0)

/-- Power of a sample: the sum of READ_POUT of the regulators at the addresses of R483. -/
def samplePower (t : Telemetry) : Nat :=
  ((t.pout.filter (fun x => 0x40 ≤ x.1.toNat && x.1.toNat ≤ 0x4D)).map (·.2)).foldl (· + ·) 0

/-- The highest of a die's sensors; a die without a reading keeps 0 °C. -/
def hottest (l : List Int) : Int := match l with | [] => 0 | x :: r => r.foldl max x

/-- TELEMETRY_SAMPLE: the 1 ms reading of the regulators and of the die sensors (R483, R484). -/
def execTelemetrySample (t : Telemetry) (s : State) : Out :=
  if !s.boot.journalOpen || s.board.clocksStopped then .next s
  else .next { s with pwr := { s.pwr with samples := (samplePower t :: s.pwr.samples).take 100, temps := tempsOf (t.sensors.map hottest) } }

/-- PM_ALERT: any fault bit sets REG_FAULT; no point changes (R483). -/
def execPmAlert (anyFault : Bool) (s : State) : Out :=
  if !s.boot.journalOpen || s.board.clocksStopped then .next s else .next { s with pwr := { s.pwr with regFault := s.pwr.regFault || anyFault } }

/-! ### The shift step (R488) -/

/-- Neighbouring pairs with their temperature difference, the hotter die first. -/
def State.skewPairs (s : State) : List (Nat × Nat × Int) :=
  dieOrder.flatMap (fun a => (dieOrder.filter (fun b => neighbours a b && s.temp b < s.temp a)).map (fun b => (a, b, s.temp a - s.temp b)))

/-- The hotter die of the pair with the largest difference above 30 °C. -/
def State.skewDie (s : State) : Option Nat :=
  (s.skewPairs.filter (fun x => 30 < x.2.2)).foldl (fun (m : Option (Nat × Int)) x =>
    match m with | none => some (x.1, x.2.2) | some (d, v) => if v < x.2.2 then some (x.1, x.2.2) else some (d, v)) none |>.map (·.1)

/-- Occupancy of a die over the last interval: 0 of 1 without a latency-critical leaf. -/
def State.occOf (s : State) (d : Nat) : Nat × Nat := if (tget (0, 0) s.pwr.occ d).2 = 0 then (0, 1) else tget (0, 0) s.pwr.occ d

/-- An occupancy in whole percent. -/
def occPercent (x : Nat × Nat) : Nat := (rneDiv (Int.ofNat (100 * x.1)) (Int.ofNat x.2)).toNat

/-- One occupancy is below another, and below a number of percent. -/
def occLess (x y : Nat × Nat) : Bool := x.1 * y.2 < y.1 * x.2
def occBelow (x : Nat × Nat) (percent : Nat) : Bool := 100 * x.1 < percent * x.2

/-- The critical die: highest occupancy of at least 85 %, ties to the lower number (R487). -/
def State.criticalDie (s : State) : Option Nat :=
  ((List.range 6).filter (fun d => !occBelow (s.occOf d) 85)).foldl (fun (m : Option Nat) d =>
    match m with | none => some d | some x => if occLess (s.occOf x) (s.occOf d) then some d else some x) none

/-- The die with the lowest occupancy among some dies, ties to the higher number. -/
def State.leastLoaded (s : State) (l : List Nat) : Option Nat :=
  l.foldl (fun (m : Option Nat) d => match m with | none => some d | some x => if !occLess (s.occOf x) (s.occOf d) then some d else some x) none

/-- FREEZE: each die moves one point towards its preference. -/
def State.shiftFrozen (s : State) : State :=
  dieOrder.foldl (fun s d => if s.planned d < s.pref d then s.raiseOp d else if s.pref d < s.planned d then s.lowerOp d else s) s

/-- Dies outside their band. -/
def State.outOfBand (s : State) : List Nat := dieOrder.filter (fun d => s.planned d < (s.band d).1 || (s.band d).2 < s.planned d)

/-- Back into the band. -/
def State.shiftBand (s : State) : State :=
  s.outOfBand.foldl (fun s d => if s.planned d < (s.band d).1 then s.raiseOp d else s.lowerOp d) s

/-- Idle dies drift back. -/
def State.shiftIdle (s : State) (c : Option Nat) : State :=
  (List.range 6).foldl (fun s d => if c ≠ some d && occBelow (s.occOf d) 30 && s.pref d < s.planned d then s.lowerOp d else s) s

/-- The critical die against the budget, then the idle dies. -/
def State.shiftLoad (s : State) : State :=
  let c := s.criticalDie
  let s1 := match c with
    | none => s
    | some c =>
      if s.budget = 0 || 100 * s.avgDw ≤ 95 * (10 * s.budget) then s.raiseOp c
      else
        match s.leastLoaded ((List.range 6).filter (· ≠ c)) with
        | some l => if occBelow (s.occOf l) 60 then (s.lowerOp l).raiseOp c else s
        | none => s
  s1.shiftIdle c

/-- shift_step(). (Log 42 DEDUCED) -/
def State.shiftStep (s : State) : State :=
  if s.pwr.alert then s
  else
    let hot := dieOrder.filter (fun d => 100 ≤ s.temp d)
    if !hot.isEmpty then hot.foldl (fun s d => s.lowerOp d true) { s with pwr := { s.pwr with hot := true } }
    else
      match s.skewDie with
      | some d => { s with pwr := { s.pwr with skew := true } }.lowerOp d
      | none =>
        if s.freeze then s.shiftFrozen
        else if !s.outOfBand.isEmpty then s.shiftBand
        else if s.budget ≠ 0 && 10 * s.budget < s.avgDw then
          match s.leastLoaded ((List.range 6).filter (fun d => (s.band d).1 < s.planned d)) with
          | some d => s.lowerOp d
          | none => s
        else s.shiftLoad

/-- The links whose end die has moved by more than 20 °C since their last training: the lowest is asked to retrain (R493). (Log 42 DEDUCED) -/
def State.askRetrain (s : State) : State :=
  let moved (l : Nat) : Bool :=
    let t := tget (0, 0) s.pwr.linkTemps l
    20 < (s.temp (linkEnds l).1 - t.1).natAbs || 20 < (s.temp (linkEnds l).2 - t.2).natAbs
  match (List.range 19).find? moved with
  | some l => if s.pwr.retrainDue.contains l then s else { s with pwr := { s.pwr with retrainDue := s.pwr.retrainDue ++ [l] } }
  | none => s

/-- SHIFT_STEP: at the next store time that is a multiple of 10 ms. (Log 3 DESIGN CHOICE) -/
def execShiftStep (s : State) : Out :=
  if !s.ready then .next s
  else
    let s1 := s.passTo (nextMultiple s.tb.time.toNat 10000000)
    let s2 := { s1 with pwr := { s1.pwr with occ := (List.range 6).map (fun d => (d, s1.occNow d)) }
                        easels := s1.easels.map (fun (x : Nat × Easel) => (x.1, { x.2 with spanCyc := 0, busyCyc := 0 })) }
    .next s2.shiftStep.askRetrain

/-! ### Links (R17, R449, R493) -/

/-- STRETCHER_LINK_RETRAIN: the link retrains with these good lanes in its two directions (R449). (Log 42 DEDUCED) -/
def execStretcherLinkRetrain (link goodA goodB : Nat) (s : State) : Out :=
  if 19 ≤ link then noUnit
  else if !s.ready then .next s
  else
    let g := (goodA, goodB)
    let due := s.pwr.retrainDue.contains link
    let s1 := { s with pwr := { s.pwr with
      linkTemps := tinsert s.pwr.linkTemps link (s.temp (linkEnds link).1, s.temp (linkEnds link).2)
      retrainDue := s.pwr.retrainDue.filter (· ≠ link), retrains := if due then s.pwr.retrains + 1 else s.pwr.retrains } }
    if lanesDead g then .next (s1.raiseDevCause 3)
    else if lanesHalf g = s1.boot.half.getLsbD link then .next s1
    else
      let m := BitVec.ofNat 19 (2 ^ link)
      let s2 := s1.setBoot { s1.boot with half := if lanesHalf g then s1.boot.half ||| m else s1.boot.half &&& ~~~m }
      .next (s2.journal recLink ([BitVec.ofNat 8 link, if lanesHalf g then 1 else 0] ++ List.replicate 6 0))

/-! ### The last lines of defence (R491, R492) -/

/-- PWR_ALERT: asserted, every clock and rail goes to OP0 and ALERT latches; the changes under way are abandoned (R491). (Log 43 DEDUCED) -/
def execPwrAlert (asserted : Bool) (s : State) : Out :=
  if !asserted || s.board.porAsserted then .next { s with pwr := { s.pwr with alertPin := asserted } }
  else .next { s with pwr := { s.pwr with
    alertPin := true, alert := true, alerts := if s.pwr.alert then s.pwr.alerts else s.pwr.alerts + 1
    ops := [], change := none, todo := [], vout := (List.range 8).map (fun d => (railOf d, opVolt 0)) } }

/-- ALERT_AUTO_CLEAR: before ST20, 10 ms after the pin deasserts (R491). -/
def execAlertAutoClear (s : State) : Out :=
  if !s.ready && !s.pwr.alertPin then .next { s with pwr := { s.pwr with alert := false } } else .next s

/-- THERM_TRIP: every clock stops and the PCI Express link goes down, until POR_N (R492). (Log 37 DEDUCED, 43 DEDUCED) -/
def execThermTrip (s : State) : Out :=
  .next { s with board := { s.board with thermTrip := true, clocksStopped := true }
                 pcie := { s.pcie with linkUp := false, speed := 0, width := 0 } }

/-- PWR_STATUS (R489). -/
def State.pwrStatus (s : State) : Nat :=
  (if s.pwr.regFault then 128 else 0) + (if s.pwr.railMissing then 64 else 0) + (if s.pwr.skew then 32 else 0) + (if s.pwr.hot then 16 else 0)
    + (if s.budget ≠ 0 && 10 * s.budget < s.avgDw then 8 else 0) + (if s.pwr.alertPin then 2 else 0) + (if s.pwr.alert then 1 else 0)

/-- W1C bits of PWR_STATUS; ALERT stays while the pin is asserted (R491). -/
def State.clearPwr (s : State) (v : Nat) : State :=
  { s with pwr := { s.pwr with
    regFault := s.pwr.regFault && !bitAt v 7, skew := s.pwr.skew && !bitAt v 5, hot := s.pwr.hot && !bitAt v 4
    alert := s.pwr.alert && (!bitAt v 0 || s.pwr.alertPin) } }

/-- Clock of a die as PWR_DIEn.CLK gives it (R480, R489): for a compute die the lowest exposed Easel clock. -/
def State.dieClk (s : State) (d : Nat) : Nat :=
  if 6 ≤ d then min (opCeiling (s.op d)) 1700 / 25
  else ((List.range 32).map (fun i => s.easelMhz (32 * d + i))).foldl min 2400 / 25

/-- PWR_DIEn of a die. -/
def State.pwrDie (s : State) (d : Nat) : Nat :=
  (if 6 ≤ d then 0 else occPercent (s.occOf d) * 2 ^ 32) + (s.temp d).toNat % 256 * 2 ^ 24 + s.pref d * 2 ^ 16 + s.op d * 2 ^ 8 + s.dieClk d

end Sys2Proof.Machine
end

