-- ==== Sys2Proof/Machine/Board.lean ====
section
/-!
DEFINITION. The SMBus target (R526) and the JTAG port (R532).
-/
namespace Sys2Proof.Machine

/-! ### SMBus -/

/-- The SMBus target runs. (Log 37 DEDUCED) -/
def State.smbusOn (s : State) : Bool := !s.board.porAsserted && !s.board.clocksStopped

/-- The target's answer to a transaction; none is a NACK of the command byte. -/
def State.sbReply (s : State) (a : Option (List Byte)) : State :=
  { s with board := { s.board with sbAnswer := if s.smbusOn then a else none } }

/-- SMBUS_READ_STATUS: GLB_STATUS[15:0], from the always-on domain. -/
def execSmbusReadStatus (s : State) : Out := .next (s.sbReply (some (leBytes 2 s.boot.status)))
/-- SMBUS_READ_TEMPERATURE. -/
def execSmbusReadTemperature (s : State) : Out := .next (s.sbReply (some [s.board.sbTemp]))
/-- SMBUS_READ_POWER. -/
def execSmbusReadPower (s : State) : Out := .next (s.sbReply (some (leBytes 2 s.board.sbPower.toNat)))
/-- SMBUS_READ_DIE_TEMPS. -/
def execSmbusReadDieTemps (s : State) : Out := .next (s.sbReply (some (fieldBytes s.board.sbTemps 0 8)))
/-- SMBUS_READ_IDENTITY. -/
def execSmbusReadIdentity (s : State) : Out := .next (s.sbReply (some (fieldBytes s.board.sbIdentity 0 32)))
/-- SMBUS_READ_PWR_STATUS. -/
def execSmbusReadPwrStatus (s : State) : Out := .next (s.sbReply (some [s.board.sbPwrStatus]))

/-- SMBUS_WRITE_REFUSED: every write and every other command code gets a NACK of the command byte. -/
def execSmbusWriteRefused (_code : Byte) (s : State) : Out := .next (s.sbReply none)

/-- A temperature as an unsigned byte: 0 below 0 °C. (Log 37 DEDUCED) -/
def tempByte (t : Int) : Byte := BitVec.ofNat 8 (min 255 t.toNat)

/-- SMBUS_COPY_REFRESH: the Curator's copy of the values. -/
def execSmbusCopyRefresh (s : State) : Out :=
  if !s.boot.journalOpen || !s.smbusOn then .next s
  else
    .next { s with board := { s.board with
      sbTemp := tempByte ((dieOrder.map s.temp).foldl max 0), sbPower := BitVec.ofNat 16 (s.avgDw / 10)
      sbTemps := dieOrder.map (fun d => tempByte (s.temp d)), sbIdentity := if s.sec.idReady then s.identity else []
      sbPwrStatus := BitVec.ofNat 8 s.pwrStatus } }

/-! ### JTAG -/

/-- An instruction in the JTAG port: its number and the data register it selects. EXTEST and HIGHZ take effect only while POR_N is asserted. (Log 11 PRESUMED) -/
def State.jtag (s : State) (ir : Nat) (dr : U32) : State :=
  { s with board := { s.board with jtagIr := ir, jtagDr := dr, extestOn := ir = 3 && s.board.porAsserted
                                   highzOn := ir = 4 && s.board.porAsserted, clkreqLow := !(ir = 4 && s.board.porAsserted) } }

/-- BYPASS: the one-bit bypass register, which captures 0. -/
def execBypass (s : State) : Out := .next (s.jtag 0 0)
/-- IDCODE: 0x1088_0879. -/
def execIdcode (s : State) : Out := .next (s.jtag 1 0x10880879)
/-- SAMPLE_PRELOAD: the boundary register captures the pins, or takes the values shifted in. -/
def execSamplePreload (pins : List Bool) (s : State) : Out :=
  let s1 := s.jtag 2 0
  .next { s1 with board := { s1.board with boundary := pins } }
/-- EXTEST: the boundary register drives the pins; BYPASS unless POR_N is asserted. -/
def execExtest (s : State) : Out := .next (s.jtag 3 0)
/-- HIGHZ: every output in high impedance; BYPASS unless POR_N is asserted. -/
def execHighz (s : State) : Out := .next (s.jtag 4 0)

end Sys2Proof.Machine
end

