-- ==== Sys2Proof/Machine/Boot.lean ====
section
/-!
DEFINITION. Power-on, recovery mode and device restart (R441, R454 to R456, R520).
-/
namespace Sys2Proof.Machine

/-! ### POR_N and power (R454, R520) -/

/-- The part with every register at its reset value: the flash, the host's memory and the model's own fields stay. (Log 13 DESIGN CHOICE, 14 DESIGN CHOICE, 37 DEDUCED) -/
def State.por (s : State) : State :=
  { pending := s.pending, free := s.free
    boot := { journalA := s.boot.journalA, journalB := s.boot.journalB, flash := s.boot.flash }
    pcie := { hostMem := s.pcie.hostMem } }

/-- POR_N_ASSERT: 10 µs or longer resets the part, shorter than 5 µs does nothing, and between the two, which the board must not produce,
a free value decides (R520). (Log 14 DESIGN CHOICE) -/
def execPorNAssert (us : Nat) (s : State) : Out :=
  if us < 5 then .next s
  else if 10 ≤ us then .next s.por
  else
    let (x, s1) := s.draw
    .next (if x.getLsbD 0 then s1.por else s1)

/-- The last journal record as a loss of power during its writing leaves it: without its commit byte (R454). (Log 36 DESIGN CHOICE) -/
def JHalf.tear (h : JHalf) : JHalf :=
  match h.recs.reverse with
  | r :: t => { h with recs := (({ r with commit := false } : JRec) :: t).reverse }
  | [] => h

/-- POWER_LOSS: only the flash keeps its contents; whether the last record was complete is a free value (R454). (Log 36 DESIGN CHOICE) -/
def execPowerLoss (s : State) : Out :=
  let (x, s1) := s.draw
  let s2 := s1.por
  .next (if x.getLsbD 0 then { s2 with boot := s2.boot.setHalf s2.boot.half?.tear } else s2)

/-- The straps are sampled and the outputs leave high impedance (R442). (Log 34 DEDUCED) -/
def State.sampleStraps (s : State) (v : BitVec 2) : State :=
  let s1 := { s with board := { s.board with porAsserted := false, outputsHighZ := false, extestOn := false, highzOn := false, clkreqLow := true } }
  s1.setBoot { s1.boot with straps := v, strapBad := v = 3 }

/-- ST01 and ST02, then recovery mode (R442, R455). (Log 35 DEDUCED) -/
def State.startRecovery (s : State) (b : BootObs) : State :=
  let s1 := (s.runStep b 1).runStep b 2
  if s1.boot.state = 0 then s1.setBoot { s1.boot with state := 3 } else s1

/-- POR_N_DEASSERT: the part starts from ST01 (R441). RECOVERY enters recovery mode after ST02. (Log 14 DESIGN CHOICE, 28 DEDUCED) -/
def execPorNDeassert (b : BootObs) (s : State) : Out :=
  if !s.board.porAsserted then .next s
  else if b.straps = 1 then .next ((s.sampleStraps b.straps).startRecovery b)
  else .next ((s.sampleStraps b.straps).startFrom b 1)

/-! ### Recovery mode (R455) -/

/-- The boot ROM takes a command from MB_H2C when it holds operation `op`. (Log 35 DEDUCED) -/
def State.recoveryCmd (s : State) (op : Nat) : Option Nat :=
  if s.boot.state = 3 && s.host.h2c.full && bits s.host.h2c.val.toNat 7 0 = op then some (bits s.host.h2c.val.toNat 63 32) else none

/-- A store into MB_C2H (R431, R432). -/
def State.storeC2h (s : State) (v : U64) : State :=
  let r := s.host.c2h.store v
  let s1 := { s with host := { s.host with c2h := r.1 } }
  if r.2 then s1.ringDevice 3 else s1

/-- The boot ROM's answer; the command leaves MB_H2C. -/
def State.recoveryAnswer (s : State) (op status code : Nat) : State :=
  { s with host := { s.host with h2c := s.host.h2c.take.2 } }.storeC2h (BitVec.ofNat 64 (code * 0x10000 + status * 0x100 + op))

/-- Image lengths of 1 to 16 MiB. -/
def imageLenOk (n : Nat) : Bool := 0x100000 ≤ n && n ≤ 0x1000000

/-- The image in the window. -/
def State.windowN (s : State) (a n : Nat) : List Byte := s.devN (hubBase + a) n

/-- What the checks of ST04 give for an image of `n` bytes in the window (R455, R464). -/
def State.windowCode (s : State) (n : Nat) (sigs : FwSigs) : Nat := imageCode s.windowN n sigs

/-- RECOVERY_VERIFY (R455). -/
def execRecoveryVerify (sigs : FwSigs) (s : State) : Out :=
  match s.recoveryCmd 1 with
  | none => .next s
  | some n =>
    .next (if !imageLenOk n then s.recoveryAnswer 1 2 0
      else if s.windowCode n sigs ≠ 0 then s.recoveryAnswer 1 1 (s.windowCode n sigs) else s.recoveryAnswer 1 0 0)

/-- RECOVERY_RUN: a verified image starts at ST05 from HUB SRAM (R455). -/
def execRecoveryRun (sigs : FwSigs) (b : BootObs) (s : State) : Out :=
  match s.recoveryCmd 2 with
  | none => .next s
  | some n =>
    if !imageLenOk n then .next (s.recoveryAnswer 2 2 0)
    else if s.windowCode n sigs ≠ 0 then .next (s.recoveryAnswer 2 1 (s.windowCode n sigs))
    else
      let s1 := s.recoveryAnswer 2 0 0
      let s2 := s1.takeImage s.windowN
      let s3 := { s2 with sec := { s2.sec with recoveryRun := true } }
      .next ((s3.setBoot { s3.boot with state := 0, code := 0, detail := 0 }).startFrom b 5)

/-- The image area erased, with the first `n` bytes of the window programmed. (Log 35 DEDUCED) -/
def State.writeImage (s : State) (n : Nat) : State :=
  { s with boot := { s.boot with flash := mwriteN 0xFF (mclear s.boot.flash 0 0x1000000) 0 (s.devN hubBase n) } }

/-- RECOVERY_WRITE (R455). When the flash fails, a free value says how much of the image was programmed. (Log 35 DEDUCED) -/
def execRecoveryWrite (sigs : FwSigs) (flashOk : Bool) (s : State) : Out :=
  match s.recoveryCmd 3 with
  | none => .next s
  | some n =>
    if !imageLenOk n then .next (s.recoveryAnswer 3 2 0)
    else if s.windowCode n sigs ≠ 0 then .next (s.recoveryAnswer 3 1 (s.windowCode n sigs))
    else if flashOk then .next ((s.writeImage n).recoveryAnswer 3 0 0)
    else
      let (x, s1) := s.draw
      .next ((s1.writeImage (x.toNat % (n + 1))).recoveryAnswer 3 3 0)

/-! ### Device restart (R456) -/

/-- CURATOR_WATCHDOG_EXPIRY: cause 2 of a device restart; an earlier cause is kept. (Log 47 DEDUCED) -/
def execCuratorWatchdogExpiry (s : State) : Out := .next (if s.ready then s.raiseDevCause 2 else s)

/-- What a start sets anew: status, JNL_ registers of the steps that run again, licences and measurement registers. -/
def State.restartStatus (s : State) : State :=
  let b := s.boot
  let s1 := s.setBoot { b with state := 0, kind := 0, step := 0, code := 0, detail := 0, steps := b.steps.filter (fun x => x.1 < 3)
                               half := 0, rate16 := 0, totalMs := 0, devCause := none }
  { s1 with sec := { s1.sec.clearRegs [1, 2, 3, 4, 5, 6] with
      accepted := [], rejected := 0, features := 0, tier := 0, flrs := 0, logOverflow := false, recoveryRun := false } }

/-- DEVICE_RESTART: a cause that was raised, or one that the Curator's firmware detects (4), removes host-created state and runs
ST03 to ST20; the link, the configuration space and the MSI-X table stay. (Log 47 DEDUCED) -/
def execDeviceRestart (cause : Byte) (b : BootObs) (s : State) : Out :=
  if !s.ready || !(s.boot.devCause = some cause || cause = 4) then .next s
  else
    let s1 := s.clearHost false
    let s2 := s1.journal recRestart (cause :: List.replicate 7 0)
    let s3 := s2.setBoot { s2.boot with devRestarts := s2.boot.devRestarts + 1, state := 4 }
    .next (s3.restartStatus.startFrom b 3)

end Sys2Proof.Machine
end

