-- ==== Sys2Proof/Machine/Branch.lean ====
section
/-!
DEFINITION. Branches (R165). A target outside the code region faults at the target, when the next instruction would issue.
-/
namespace Sys2Proof.Machine

/-- pc + 4 × sext(I20), modulo 2^64. (Log 83 DEDUCED) -/
def branchTo (pc : Nat) (imm : BitVec 20) : Nat := (BitVec.ofNat 64 pc + (sext20 imm <<< 2)).toNat

/-- BR: taken when p[A[2:0]] XOR A[3] is 1; A[4] is reserved (R165). -/
def execBr (e : Nat) (a : RegF) (imm : BitVec 20) (s : State) : Out :=
  issue e 4 (wordU 0x0C imm.toNat a.toNat) (a.toNat < 16) {} s (fun E =>
    if E.pr (a.toNat % 8) != bitAt a.toNat 3 then s.setEasel e { E with pc := branchTo E.pc imm } else s.retire e 4 E)

/-- JAL (R165). -/
def execJal (e : Nat) (a : RegF) (imm : BitVec 20) (s : State) : Out :=
  issue e 4 (wordU 0x0D imm.toNat a.toNat) true { sr := [a.toNat] } s (fun E =>
    s.setEasel e { E.setSr a.toNat (BitVec.ofNat 64 (E.pc + 4)) with pc := branchTo E.pc imm })

/-- JALR: the target's bits [1:0] are cleared; F must be 0 (R165). -/
def execJalr (e : Nat) (f : BitVec 3) (a b : RegF) (imm : BitVec 12) (s : State) : Out :=
  issue e 4 (wordI 0x0E imm.toNat f.toNat b.toNat a.toNat) (f = 0) { sr := [a.toNat, b.toNat] } s (fun E =>
    s.setEasel e { E.setSr a.toNat (BitVec.ofNat 64 (E.pc + 4)) with
      pc := (E.sr b.toNat + sext12 imm).toNat / 4 * 4 })

end Sys2Proof.Machine
end

