-- ==== Sys2Proof/Machine/Canvas.lean ====
section
/-!
DEFINITION. The Canvas instructions and the execution of its two queues (R189 to R213).
-/
namespace Sys2Proof.Machine

/-- SWAPs waiting in the stroke queue. -/
def Easel.swapsQueued (E : Easel) : Nat := (E.frontQ.filter (fun x => x = .swap)).length

/-- The operation a STROKE or EWISE captures at issue (R180, R204). -/
def strokeOf (ewise : Bool) (E : Easel) (w : StrokeF) : StrokeOp :=
  let p := (E.sr w.rp.toNat).toNat
  { ewise := ewise, clr := w.clr = 1, neg := w.neg = 1, lt := w.lt = 1, mode := w.mode.toNat, lf := w.lf.toNat, tf := w.tf.toNat
    k := (E.sr w.rk.toNat).toNat, baseL := (E.sr w.rl.toNat).toNat, baseT := (E.sr w.rt.toNat).toNat
    pL := 64 * (p % 2 ^ 16), pT := 64 * (p / 2 ^ 16 % 2 ^ 16) }

/-- The format check of R192, R198, R199 and R211. -/
def strokeFmtOk (o : StrokeOp) : Bool :=
  if o.ewise then !o.lt && o.mode = 0 && pairOk o.lf o.tf
  else if o.mode = 0 then pairOk o.lf o.tf
  else o.lf = 0 && o.tf = 0

/-- STROKE and EWISE at issue (R192, R194, R204, R208, R211). -/
def strokeIssue (ewise : Bool) (e : Nat) (w : StrokeF) (s : State) : Out :=
  let insn := wordStroke (if ewise then 0x11 else 0x10) w
  issue e 8 insn (w.rsv = 0 && w.mode ≠ 3 && w.lf.toNat < 6 && w.tf.toNat < 6)
    { sr := [w.rp.toNat, w.rk.toNat, w.rt.toNat, w.rl.toNat] } s (fun E =>
    let o := strokeOf ewise E w
    if !strokeFmtOk o then s.easelFault e exCanvasFormat insn 0 7
    else match strokeCheck o (2 ^ 32 ≤ (E.sr w.rp.toNat).toNat) E.lsLimit with
      | some d => s.easelFault e exCanvasRange insn 0 d
      | none =>
        if 4 ≤ E.frontQ.length || (o.k ≠ 0 && (s.lsStall e o.baseL (operandExtent o true) false
            || s.lsStall e o.baseT (operandExtent o false) false)) then s
        else s.retire e 8 { E with frontQ := E.frontQ ++ [.stroke o] })

/-- STROKE (R190). -/
def execStroke (e : Nat) (w : StrokeF) (s : State) : Out := strokeIssue false e w s
/-- EWISE (R211). -/
def execEwise (e : Nat) (w : StrokeF) (s : State) : Out := strokeIssue true e w s

/-- SWAP: bits [31:7] are reserved (R203, R205). -/
def execSwap (e : Nat) (rsv : BitVec 25) (s : State) : Out :=
  issue e 4 (rsv.toNat * 2 ^ 7 + 0x20 * 2) (rsv = 0) {} s (fun E =>
    if 4 ≤ E.frontQ.length then s else s.retire e 4 { E with frontQ := E.frontQ ++ [.swap] })

/-- An entry joins the back queue behind the SWAPs issued before it (R203, R208). -/
def State.pushBack (s : State) (e : Nat) (E : Easel) (o : BackOp) : State :=
  if 4 ≤ E.backQ.length then s else s.retire e 4 { E with backQ := E.backQ ++ [(E.swapsQueued, o)] }

/-- LOADACC (R201). Fields that the mode does not use are reserved. -/
def execLoadacc (e : Nat) (k : BitVec 7) (f : BitVec 3) (a b c : RegF) (s : State) : Out :=
  let insn := wordR 0x21 k.toNat f.toNat c.toNat b.toNat a.toNat
  let legal := c = 0 && (match f.toNat with
    | 0 => k = 0 && a = 0 && b = 0
    | 1 => k = 0 && a = 0
    | 2 => k = 0 && a = 0
    | 3 => k.toNat < 2 && b = 0
    | _ => false)
  issue e 4 insn legal { sr := if f = 3 then [a.toNat] else [], vr := if f = 1 || f = 2 then [b.toNat] else [] } s (fun E =>
    match f.toNat with
    | 0 => s.pushBack e E .zero
    | 1 => s.pushBack e E (.rowv (E.vr b.toNat))
    | 2 => s.pushBack e E (.colv (E.vr b.toNat))
    | _ =>
      let x := (E.sr a.toNat).toNat
      if x % 64 ≠ 0 then s.easelFault e exCanvasRange insn x 1
      else if E.lsLimit < x + 16384 then s.easelFault e exCanvasRange insn x 6
      else if s.lsStall e x 16384 false then s
      else s.pushBack e E (.loadLs x (k = 1)))

/-- DRAIN (R202). -/
def execDrain (e : Nat) (k : BitVec 7) (f : BitVec 3) (a b c : RegF) (s : State) : Out :=
  let insn := wordR 0x22 k.toNat f.toNat c.toNat b.toNat a.toNat
  let t := 64 ≤ k.toNat
  let st := k.toNat % 64
  let n := 8 * 2 ^ (f.toNat / 2)
  let ls := f.toNat % 2 = 1
  issue e 4 insn (b = 0 && c = 0)
    { sr := if ls then [a.toNat] else [], vwBack := if ls then [] else (List.range n).map (a.toNat + ·) } s (fun E =>
    if ls then
      let x := (E.sr a.toNat).toNat
      if f.toNat / 2 ≠ 3 || st ≠ 0 then s.easelFault e exCanvasVreg insn 0 0
      else if x % 64 ≠ 0 then s.easelFault e exCanvasRange insn x 1
      else if E.lsLimit < x + 16384 then s.easelFault e exCanvasRange insn x 6
      else if s.lsStall e x 16384 true then s
      else s.pushBack e E (.drainLs x t)
    else if f.toNat / 2 = 3 || 64 < st + n || 32 < a.toNat + n then s.easelFault e exCanvasVreg insn 0 0
    else s.pushBack e E (.drainV a.toNat n st t))

/-! ### The queues (R203, R208) -/

/-- The head of the stroke queue executes. SWAP waits for every LOADACC and DRAIN issued before it. (Log 93 DEDUCED) -/
def Easel.runFront (E : Easel) : Easel :=
  match E.frontQ with
  | [] => E
  | .stroke o :: q =>
    let r := runStroke E.rdLs o E.front
    { E with frontQ := q, front := packCells r.1, cvFlags := E.cvFlags ||| r.2, cvCount := E.cvCount + BitVec.ofNat 64 o.k }
  | .swap :: q =>
    if E.backQ.all (fun x => 0 < x.1) then
      { E with frontQ := q, front := E.back, back := E.front, frontIx := !E.frontIx
               backQ := E.backQ.map (fun x => (x.1 - 1, x.2)) }
    else E

/-- What a back-queue entry does to the back canvas and its destination (R201, R202). -/
def Easel.runBackOp (E : Easel) : BackOp → Easel
  | .zero => { E with back := [] }
  | .rowv v => { E with back := packCells (fromRowV v) }
  | .colv v => { E with back := packCells (fromColV v) }
  | .loadLs a t => { E with back := packCells (fromLs t (E.rdLs a 16384)) }
  | .drainV a n st t => (List.range n).foldl (fun E m => E.setVr (a + m) (canvasVec t (cells E.back) (st + m))) E
  | .drainLs a t => E.wrLs (placeBytes a (toLs t (cells E.back)))

/-- The head of the back queue executes, unless a SWAP issued before it is still queued. (Log 93 DEDUCED) -/
def Easel.runBack (E : Easel) : Easel :=
  match E.backQ with
  | (0, o) :: q => { E with backQ := q }.runBackOp o
  | _ => E

/-- CANVAS_QUEUE_EXECUTE: the next entry of the stroke queue or the back queue executes (R208). (Log 93 DEDUCED) -/
def execCanvasQueueExecute (e : Nat) (back : Bool) (s : State) : Out :=
  if 192 ≤ e then noUnit
  else if s.board.clocksStopped then .next s
  else .next (s.setEasel e (if back then (s.easel e).runBack else (s.easel e).runFront))

end Sys2Proof.Machine
end

