-- ==== Sys2Proof/Machine/SlowTx.lean ====
section
/-!
DEFINITION. The slow path's ring format, and its transmit ring (R72, R73, R410).
-/
namespace Sys2Proof.Machine

def State.netSend (s : State) (o : NetOut) : State := { s with ing := { s.ing with sent := s.ing.sent ++ [o] } }

/-- Bytes of a slow-path entry: header and padded frame. (Log 49 DEDUCED) -/
def spEntryLen (n : Nat) : Nat := 16 + (n + 7) / 8 * 8

/-- A frame as the MAC sends it, without its FCS: padded to 60 bytes. -/
def wireFrame (b : List Byte) : List Byte := b ++ List.replicate (60 - b.length) 0

/-- Bytes of the transmit ring, the place of its next entry, and the bytes that the host has announced from there on. -/
def State.sptxSize (s : State) : Nat := 2 ^ s.host.live.sptxSize.toNat
def State.sptxAt (s : State) : Nat := s.ing.sptxCons.toNat % s.sptxSize
def State.sptxLeft (s : State) : Nat := (s.ing.sptxProd.toNat % s.sptxSize + s.sptxSize - s.sptxAt) % s.sptxSize

/-- The header of the next announced entry is read; entries follow one another in ring order. -/
def State.slowStart (s : State) : State :=
  if s.slowBusy || s.sptxLeft = 0 then s else s.addXfer .slowHead (s.host.live.sptxBase.toNat + s.sptxAt) 16

/-- The entry of `n` bytes is done with. -/
def State.slowAdvance (s : State) (n : Nat) : State :=
  ({ s with ing := { s.ing with sptxCons := BitVec.ofNat 64 ((s.sptxAt + n) % s.sptxSize) } } : State).slowStart

/-- An entry is discarded and counted (R410). -/
def State.slowDrop (s : State) : State := { s with ing := { s.ing with sptxDrop := s.ing.sptxDrop + 1 } }

/-- An entry whose length is unknown or false: with it goes everything that has been announced. (Log 114 DESIGN CHOICE) -/
def State.slowLose (s : State) : State := s.slowDrop.slowAdvance s.sptxLeft

/-- The header of an entry has been read, or its read has failed. Length 0 pads the rest of the ring; an entry neither straddles the end of
the ring nor passes what has been announced. One for a MAC that does not exist, or with a reserved field set (R5), is discarded.
(Log 114 DESIGN CHOICE) -/
def State.slowHeader (s : State) (b : Option (List Byte)) : State :=
  match b with
  | none => s.slowLose
  | some b =>
    let n := fieldLE b 0 4
    let mac := fieldLE b 4 1
    let rest := s.sptxSize - s.sptxAt
    if n = 0 then (if rest ≤ s.sptxLeft then s.slowAdvance rest else s.slowLose)
    else if min rest s.sptxLeft < spEntryLen n then s.slowLose
    else if 8 ≤ mac || !allZero (fieldBytes b 5 11) then s.slowDrop.slowAdvance (spEntryLen n)
    else s.addXfer (.slowBody mac n) (s.host.live.sptxBase.toNat + s.sptxAt + 16) n

/-- The frame of an entry has been read, and its MAC sends it (R73); a failed read discards the entry. -/
def State.slowFrame (s : State) (mac n : Nat) (b : Option (List Byte)) : State :=
  (match b with | some b => s.netSend (.raw mac (wireFrame (fieldBytes b 0 n))) | none => s.slowDrop).slowAdvance (spEntryLen n)

/-- A ring index of R504: a multiple of 8 below the ring's size. A write of any other value changes nothing (R5). -/
def spIndexOk (size : U64) (v : U64) : Bool := v.toNat % 8 = 0 && v.toNat < 2 ^ size.toNat

/-- ING_SPTX_PROD (R73): the entries up to an index are announced. -/
def State.announceTx (s : State) (v : U64) : State :=
  if spIndexOk s.host.live.sptxSize v then ({ s with ing := { s.ing with sptxProd := v } } : State).slowStart else s

/-- ING_SPRX_CONS (R72). -/
def State.consumeRx (s : State) (v : U64) : State :=
  if spIndexOk s.host.live.sprxSize v then { s with ing := { s.ing with sprxCons := v } } else s

end Sys2Proof.Machine
end

