-- ==== Sys2Proof/Machine/HostReads.lean ====
section
/-!
DEFINITION. Completions of the reads that the part has issued (R409, R410).
-/
namespace Sys2Proof.Machine

/-- The bytes of a transfer whose pieces have all come. -/
def Xfer.bytes (x : Xfer) : List Byte :=
  x.got.foldl (fun l p => l.take p.1 ++ p.2 ++ l.drop (p.1 + p.2.length)) (List.replicate x.len 0)

/-- Every byte of a transfer has come. -/
def Xfer.complete (x : Xfer) : Bool := (x.got.map (fun p => p.2.length)).foldl (· + ·) 0 = x.len

/-- A read's owner gets its data, or fails. -/
def State.ownerGets (s : State) (o : ReadOwner) (b : Option (List Byte)) : State :=
  match o with
  | .fetch q => s.fetched q b
  | .cmd q n => s.blockRead q n b
  | .slowHead => s.slowHeader b
  | .slowBody mac n => s.slowFrame mac n b

def State.dropXfer (s : State) (id : Nat) : State := { s with pcie := { s.pcie with xfers := s.pcie.xfers.filter (fun x => x.id ≠ id) } }

/-- A piece of a transfer has come, or has failed. The owner fails with the first piece that does, and what still comes for it is not
used. (Log 17 DESIGN CHOICE, 26 DEDUCED) -/
def State.pieceEnds (s : State) (r : ReadReq) (b : Option (List Byte)) : State :=
  match s.pcie.xfers.find? (fun x => x.id = r.xfer) with
  | none => s
  | some x =>
    match b with
    | none => (s.dropXfer x.id).ownerGets x.owner none
    | some b =>
      let x1 := { x with got := x.got ++ [(r.off, fieldBytes b 0 r.len)] }
      if x1.complete then (s.dropXfer x.id).ownerGets x.owner (some x1.bytes) else s.setXfer x1

/-- A request has ended: its tag is free again, its transfer goes on or ends, and reads that waited for a tag are issued (R409). -/
def State.endRead (s : State) (tag : Nat) (b : Option (List Byte)) : State :=
  match s.pcie.reads.find? (fun r => r.tag = tag) with
  | none => s
  | some r =>
    (({ s with pcie := { s.pcie with reads := s.pcie.reads.filter (fun x => x.tag ≠ tag) } } : State).pieceEnds r b).issueReads

/-- Status bits that a failed completion sets: Received Master Abort (13), Received Target Abort (12), and for a poisoned one Detected
Parity Error (15), with Master Data Parity Error (8) when Parity Error Response is set. (Log 12 PRESUMED) -/
def Pcie.readFailed (p : Pcie) (why : ReadFail) : Pcie :=
  { p with statusErrors := p.statusErrors ||| (match why with
    | .unsupportedRequest => 0x2000
    | .completerAbort => 0x1000
    | .poisoned => if p.parityResp then 0x8100 else 0x8000) }

/-- HOST_READ_COMPLETION: data, or a completion with an error status or poison. -/
def execHostReadCompletion (tag : Nat) (r : HostRead) (s : State) : Out :=
  if s.board.clocksStopped || !s.pcie.reads.any (fun r => r.tag = tag) then .next s
  else
    match r with
    | .data b => .next (s.endRead tag (some b))
    | .failed why => .next ({ s with pcie := s.pcie.readFailed why }.endRead tag none)

/-- COMPLETION_TIMEOUT: no completion within the timeout value; logged in AER, unless it is disabled. (Log 26 DEDUCED) -/
def execCompletionTimeout (tag : Nat) (s : State) : Out :=
  match s.pcie.reads.find? (fun r => r.tag = tag) with
  | none => .next s
  | some r =>
    if s.board.clocksStopped || s.pcie.ctoDisable then .next s
    else .next (({ s with pcie := s.pcie.log { kind := .completionTimeout, read := true, bar := 0, off := tag, addr := r.addr, len := r.len } } : State).endRead tag none)

end Sys2Proof.Machine
end

