-- ==== Sys2Proof/Machine/Registers.lean ====
section
/-!
DEFINITION. The host register map: BAR0 and BAR2 (R495 to R509), the configuration space (R402 to R406), and the effect of a write or read
of a register.
-/
namespace Sys2Proof.Machine

/-! ### Reading a register

Each block answers `some (value, ro)` for an offset that it assigns; `ro` says that the register is read only, and so has a capture (R497). -/

abbrev RegVal := Option (Nat × Bool)

def regRo (v : Nat) : RegVal := some (v, true)
def regRw (v : Nat) : RegVal := some (v, false)

/-- Bits of groups as R499 assigns them. -/
def State.bar4Asked (s : State) : Nat := if s.asked 5 then 1 else 0

/-- GLB_PCIE_LINK (R400). -/
def State.linkReg (s : State) : Nat :=
  let p := s.pcie
  p.retrains.toNat * 2 ^ 16 + (if p.linkUp && p.width < 4 then 512 else 0) + (if p.linkUp && p.speed < 5 then 256 else 0) + p.width * 16 + p.speed

def State.readGlb (s : State) (a : Nat) : RegVal :=
  match a with
  | 0x000 => regRo s.boot.status
  | 0x008 => regRo (s.sec.release.toNat * 2 ^ 32 + 0xB008)
  | 0x010 => regRo s.linkReg
  | 0x018 => regRw (bits s.host.staged.bar4Map.toNat 34 28 * 2 ^ 28 + s.bar4Asked)
  | 0x020 => regRw s.host.commit.toNat
  | 0x028 => regRw s.host.busy.toNat
  | 0x030 => regRw s.host.invalid.toNat
  | 0x040 => regRw (s.pcie.pba.toNat % 2 ^ 64)
  | 0x048 => regRw (bits s.pcie.pba.toNat 127 64)
  | 0x050 => regRw (bits s.pcie.pba.toNat 191 128)
  | 0x058 => regRw (bits s.pcie.pba.toNat 255 192)
  | 0x060 => regRo s.pcie.discards.toNat
  | 0x068 => regRo s.pcie.aborts.toNat
  | _ => none

/-- MB_HSTAT (R432). -/
def State.hstat (s : State) : Nat :=
  (if s.host.c2h.overrun then 8 else 0) + (if s.host.c2h.full then 4 else 0) + (if s.host.h2c.overrun then 2 else 0)
    + (if s.host.h2c.full then 1 else 0)

/-- The host mailbox pair: MB_H2C reads 0; MB_C2H shows what a consuming read returns. -/
def State.readMb (s : State) (a : Nat) : RegVal :=
  match a with
  | 0x1000 => regRw 0
  | 0x1008 => regRo (if s.host.c2h.full then s.host.c2h.val.toNat else 0)
  | 0x1010 => regRw s.hstat
  | _ => none

/-- DB_HOSTn_PEND and DB_HOSTn_MASK. -/
def State.readDb (s : State) (a : Nat) : RegVal :=
  let n := (a - 0x2000) / 16
  if 17 ≤ n then none
  else if a % 16 = 0 then regRw (s.doorbell n).pend.toNat
  else regRw ((s.doorbell n).vector.toNat * 2 ^ 32 + (s.doorbell n).mask.toNat)

/-- TB_HOLD_ registers read 0 outside HOLDOVER. -/
def State.held (s : State) (v : Nat) : RegVal := regRo (if s.tb.state = 3 then v else 0)

def State.readTb (s : State) (a : Nat) : RegVal :=
  let c := s.host.staged
  match a with
  | 0x3000 => regRw (c.srcSel.toNat % 8)
  | 0x3008 => regRw ((c.ptpCfg &&& 0x30FFFF37F).toNat)
  | 0x3010 => regRw (c.ptmInterval.toNat % 1024)
  | 0x3018 => regRw c.ptmOffset.toNat
  | 0x3020 => regRo s.tb.state
  | 0x3028 => regRo s.tb.time.toNat
  | 0x3030 => s.held (BitVec.ofInt 64 s.tb.ferr).toNat
  | 0x3038 => s.held (s.tb.holdNs / 1000000)
  | 0x3040 => s.held s.holdBound
  | 0x3048 => regRw (c.phaseCount.toNat % 32)
  | 0x3050 => regRw (c.localOffset.toNat % 2 ^ 32)
  | 0x3058 => regRw (c.ppsCfg.toNat % 2 ^ 32)
  | 0x3060 => regRo (s.tb.phaseErr.toNat % 2 ^ 20)
  | a => if 0x3080 ≤ a && a < 0x3180 then regRw (tget 0 c.phases ((a - 0x3080) / 8)).toNat else none

def State.readPwr (s : State) (a : Nat) : RegVal :=
  match a with
  | 0x4000 => regRw (s.host.staged.pwrCtl.toNat % 2 ^ 17)
  | 0x4008 => regRw s.pwrStatus
  | 0x4010 => regRo (s.pwr.samples.headD 0 * 2 ^ 32 + s.avgDw)
  | 0x4080 => regRo s.pwr.changes.toNat
  | 0x4088 => regRo s.pwr.alerts.toNat
  | 0x4090 => regRo s.pwr.retrains.toNat
  | 0x40A0 => regRo (((List.range 16).map (fun g => s.groupState g * 4 ^ g)).foldl (· + ·) 0)
  | a => if 0x4040 ≤ a && a < 0x4080 then regRo (s.pwrDie (dieOrder.getD ((a - 0x4040) / 8) 0)) else none

/-- JNL_STEPn (R452). -/
def jnlStep (j : JStep) : Nat := j.duration.toNat * 2 ^ 32 + j.code.toNat * 2 ^ 16 + j.attempts * 2 ^ 12 + j.result

def State.readJnl (s : State) (a : Nat) : RegVal :=
  match a with
  | 0x5000 => regRo (s.boot.totalMs.toNat * 2 ^ 32 + s.boot.number.toNat)
  | 0x5008 => regRo (s.boot.half.toNat * 2 ^ 32 + s.boot.rate16.toNat)
  | a => if 0x5100 ≤ a && a < 0x51A0 then regRo (jnlStep (tget {} s.boot.steps ((a - 0x5100) / 8 + 1))) else none

def State.readSec (s : State) (a : Nat) : RegVal :=
  let c := s.sec
  match a with
  | 0x6000 => regRo (c.rejected.toNat * 2 ^ 16 + c.accepted.length % 256 * 2 ^ 8 + (if c.recoveryRun then 8 else 0)
      + (if c.logOverflow then 4 else 0) + (if c.certBad then 2 else 0) + (if c.idReady then 1 else 0))
  | 0x6008 => regRo (c.tier * 2 ^ 16 + c.features.toNat)
  | a => if 0x6020 ≤ a && a < 0x6040 then regRo (if c.idReady then fieldLE s.identity (a - 0x6020) 8 else 0) else none

def State.portStat (s : State) (n : Nat) : Nat := (if (s.port n).trainFail then 16 else 0) + (s.port n).link.toNat

def State.readIng (s : State) (a : Nat) : RegVal :=
  let c := s.host.staged
  match a with
  | 0x8000 => regRw ((c.port0 &&& 0xF1).toNat)
  | 0x8008 => regRw ((c.port1 &&& 0xF1).toNat)
  | 0x8010 => regRo (s.portStat 0)
  | 0x8018 => regRo (s.portStat 1)
  | 0x8040 => regRw c.sprxBase.toNat
  | 0x8048 => regRw (c.sprxSize.toNat % 32)
  | 0x8050 => regRw c.sptxBase.toNat
  | 0x8058 => regRw (c.sptxSize.toNat % 32)
  | 0x8060 => regRw (c.spRate.toNat % 2 ^ 20)
  | 0x8068 => regRo s.ing.sprxProd.toNat
  | 0x8070 => regRw s.ing.sprxCons.toNat
  | 0x8078 => regRw s.ing.sptxProd.toNat
  | 0x8080 => regRo s.ing.sptxCons.toNat
  | 0x8088 => regRo s.ing.sprxDrop.toNat
  | 0x8090 => regRw s.host.taiUtc.toNat
  | a =>
    let m := (a - 0x8400) / 64
    let j := (a - 0x8400) % 64 / 8
    if 0x8400 ≤ a && m < 8 && j < 6 then regRo (tget 0 s.ing.macCnt (8 * m + j)).toNat else none

/-- HQ_Qn_CTL and HQ_Qn_STATE (R419). -/
def queueCtl (Q : Queue) : Nat := (if Q.invalid then 8 else 0) + (if Q.busy then 4 else 0) + (if Q.commit then 1 else 0)
/-- (Log 20 DEDUCED) -/
def queueState (Q : Queue) : Nat := Q.reason * 2 ^ 40 + Q.state * 2 ^ 32 + (Q.accepted + 1).toNat

/-- EXPECTED of a queue that has never been created reads its reset value. -/
def State.readQueue (s : State) (n o : Nat) : RegVal :=
  let Q := s.queue n
  match o with
  | 0x00 => regRw Q.sqBaseS.toNat
  | 0x08 => regRw Q.cqBaseS.toNat
  | 0x10 => regRw ((Q.cfgS &&& 0xFFFFFFFFFFC1).toNat)
  | 0x18 => regRw (queueCtl Q)
  | 0x20 => regRo (if Q.made then queueState Q else 0)
  | 0x28 => regRo (Q.inflight * 2 ^ 32 + Q.accepted.toNat)
  | 0x30 => regRo Q.written.toNat
  | 0x38 => regRw Q.consumed.toNat
  | 0x40 => regRo Q.submitted.toNat
  | 0x48 => regRo Q.done.toNat
  | 0x50 => regRo Q.failed.toNat
  | 0x58 => regRo Q.dbErr.toNat
  | 0x60 => regRo Q.consErr.toNat
  | _ => none

def State.readRing (s : State) (n o : Nat) : RegVal :=
  let R := s.ring n
  match o with
  | 0x00 => regRw R.cons.toNat
  | 0x08 => regRo R.seq.toNat
  | 0x10 => regRo R.prod.toNat
  | 0x18 => regRo R.consErr.toNat
  | _ => none

def State.readHq (s : State) (a : Nat) : RegVal :=
  if a < 0x12000 then s.readQueue ((a - 0x10000) / 0x80) (a % 0x80)
  else if 0x14000 ≤ a && a < 0x14800 then s.readRing ((a - 0x14000) / 0x20) (a % 0x20)
  else none

/-- Physical IDs of eight logical Easels. -/
def State.easelMapReg (s : State) (k : Nat) : Nat := leNat ((List.range 8).map (fun j => BitVec.ofNat 8 (s.physical (8 * k + j))))

def State.readDbg (s : State) (a : Nat) : RegVal :=
  let o := a - 0x20000
  if o < 0x400 then regRo (fieldLE (s.part (o / 0x40)).exc (o % 0x40) 8)
  else if o = 0x400 then regRo (((List.range 16).map (fun p => if (s.part p).excValid then 2 ^ p else 0)).foldl (· + ·) 0)
  else if 0x800 ≤ o && o < 0x8C0 then regRo (s.easelMapReg ((o - 0x800) / 8))
  else if 0x1000 ≤ o && o < 0x1800 then
    let d := (o - 0x1000) / 0x100
    let x := (o - 0x1000) % 0x100 / 8
    if x < 21 then regRo (tget 0 s.mem.eccCnt (0x100 * dieOrder.getD d 0 + 0x10 * (x / 3) + x % 3)).toNat else none
  else if o = 0x2000 then regRo s.mem.errCount.toNat
  else if 0x2800 ≤ o && o < 0x3000 then regRo (fieldLE (tget [] s.mem.errLog ((o - 0x2800) / 32)) ((o - 0x2800) % 32) 8)
  else if 0x3000 ≤ o && o < 0x3240 then
    let E := tget {} s.med.engines ((o - 0x3000) / 16)
    regRo (if o % 16 = 0 then E.pictures.toNat else E.busyUs.toNat)
  else none

def partStateCode (p : PartState) : Nat :=
  match p with | .empty => 0 | .ready => 1 | .running => 2 | .restarting => 3 | .failed => 4

/-- SIT_PARTp_STATE (R506). -/
def State.partReg (s : State) (p : Nat) : Nat :=
  match s.part? p with
  | none => 0
  | some P => 128 + (if P.affinity then 64 else 0) + (if P.replay then 32 else 0) + (if P.be then 16 else 0) + partStateCode P.state

def State.readPart (s : State) (p o : Nat) : RegVal :=
  let P := s.part p
  match o with
  | 0x00 => regRo (s.partReg p)
  | 0x08 => regRo P.sitting.toNat
  | 0x10 => regRo P.framingWait.toNat
  | 0x18 => regRo P.planWait.toNat
  | 0x20 => regRo P.overrun.toNat
  | 0x28 => regRo P.duplicate.toNat
  | 0x30 => regRo P.restarts.toNat
  | _ => none

def State.readSit (s : State) (a : Nat) : RegVal :=
  if a < 0x100400 then s.readPart ((a - 0x100000) / 0x40) (a % 0x40)
  else if 0x110000 ≤ a && a < 0x190000 then
    let n := (a - 0x110000) / 0x100
    let o := a % 0x100
    if o < 0x40 then regRo (fieldLE (s.sitterEntry n) o 8)
    else if o < 0x90 then regRo (tget 0 (s.sitter n).ing.cnt ((o - 0x40) / 8)).toNat
    else if o < 0xE8 then regRo (tget 0 (s.sitter n).decCnt ((o - 0x90) / 8)).toNat
    else none
  else none

/-- MSI-X table and PBA (R412). The high dword of an entry's second quadword is Vector Control. -/
def State.readMsix (s : State) (a : Nat) : RegVal :=
  let o := a - 0x3000000
  if o < 0x1000 then
    let m := s.msixEntry (o / 16)
    regRw (if o % 16 = 0 then m.addr.toNat else m.data.toNat + (if m.masked then 2 ^ 32 else 0))
  else if o < 0x1020 then regRo (bits s.pcie.pba.toNat (8 * (o - 0x1000) + 63) (8 * (o - 0x1000)))
  else none

/-- A register of BAR0 (R495), at an offset that is a multiple of 8. -/
def State.readBar0 (s : State) (a : Nat) : RegVal :=
  if a < 0x1000 then s.readGlb a
  else if a < 0x2000 then s.readMb a
  else if a < 0x3000 then s.readDb a
  else if a < 0x4000 then s.readTb a
  else if a < 0x5000 then s.readPwr a
  else if a < 0x6000 then s.readJnl a
  else if a < 0x7000 then s.readSec a
  else if 0x8000 ≤ a && a < 0xC000 then s.readIng a
  else if 0x10000 ≤ a && a < 0x20000 then s.readHq a
  else if 0x20000 ≤ a && a < 0x30000 then s.readDbg a
  else if 0x100000 ≤ a && a < 0x190000 then s.readSit a
  else if 0x3000000 ≤ a && a < 0x3001020 then s.readMsix a
  else none

/-- MB_FROMn_STAT. -/
def fromStat (m : FromMbx) : Nat := m.signal.toNat * 2 ^ 32 + (mbxStat m.mbx).toNat

/-- A register of BAR2 (R501). -/
def State.readBar2 (s : State) (a : Nat) : RegVal :=
  let page := a / 0x1000
  let o := a % 0x1000
  if page < 64 then (if o = 0 then regRw (s.queue page).tail.toNat else none)
  else if page < 256 then
    let e := page - 64
    let E := s.easel e
    match o with
    | 0x00 => regRw (if E.inbox.full then E.inbox.val.toNat else 0)
    | 0x08 => regRw (mbxStat E.inbox).toNat
    | 0x10 => regRo (if (s.fromMbx e).mbx.full then (s.fromMbx e).mbx.val.toNat else 0)
    | 0x18 => regRw (fromStat (s.fromMbx e))
    | _ => none
  else none

def State.readReg (s : State) (bar a : Nat) : RegVal := if bar = 0 then s.readBar0 a else s.readBar2 a

/-- MB_EMBXn_DATA and MB_EMBXn_STAT of a power-gated Easel (R433). (Log 95 DEDUCED) -/
def State.gatedMbx (s : State) (bar a : Nat) : Bool :=
  bar = 2 && 64 ≤ a / 0x1000 && a / 0x1000 < 256 && a % 0x1000 < 0x10 && !(s.easel (a / 0x1000 - 64)).powered

/-- Mailbox data registers, which take only 8-byte accesses (R431). -/
def mbxData (bar a : Nat) : Bool :=
  (bar = 0 && (a = 0x1000 || a = 0x1008)) || (bar = 2 && 64 ≤ a / 0x1000 && a / 0x1000 < 256 && (a % 0x1000 = 0 || a % 0x1000 = 0x10))

/-! ### Reads with an effect -/

/-- A consuming read of MB_C2H (R432). -/
def State.takeC2h (s : State) : State := { s with host := { s.host with c2h := s.host.c2h.take.2 } }

/-- A consuming read of MB_FROMn_DATA (R433). -/
def State.takeFrom (s : State) (e : Nat) : State := s.setFromMbx e { s.fromMbx e with mbx := (s.fromMbx e).mbx.take.2 }

/-- The effect of a read of a whole register. -/
def State.readEffect (s : State) (bar a : Nat) : State :=
  if bar = 0 && a = 0x1008 then s.takeC2h
  else if bar = 2 && 64 ≤ a / 0x1000 && a / 0x1000 < 256 && a % 0x1000 = 0x10 then s.takeFrom (a / 0x1000 - 64)
  else s

/-- Key of a register's capture (R497). (Log 98 DEDUCED) -/
def captureKey (bar a : Nat) : Nat := 2 ^ 32 * bar + a
/-- (Log 98 DEDUCED) -/
def State.capture (s : State) (k : Nat) : Nat := (tget 0 s.pcie.captures k).toNat
def State.setCapture (s : State) (k v : Nat) : State := { s with pcie := { s.pcie with captures := tset 0 s.pcie.captures k (BitVec.ofNat 32 v) } }

/-- The reply of `size` bytes. -/
def State.replyLE (s : State) (size v : Nat) : State := s.setReply (.data (leBytes size v))

/-- A read that is served: 8 bytes give one instant; the low half of a read-only register captures the high half, which a later read of it
returns (R496, R497). -/
def State.readServed (s : State) (bar off size : Nat) : State :=
  let a := off / 8 * 8
  if s.gatedMbx bar a then s.abort bar off size
  else if size = 4 && mbxData bar a then (s.discard bar off size).replyLE 4 0
  else
    match s.readReg bar a with
    | none => s.replyLE size 0
    | some (v, ro) =>
      if size = 8 then (s.readEffect bar a).replyLE 8 v
      else if off % 8 = 0 then ((if ro then s.setCapture (captureKey bar a) (v / 2 ^ 32) else s)).replyLE 4 (v % 2 ^ 32)
      else s.replyLE 4 (if ro then s.capture (captureKey bar a) else v / 2 ^ 32)

/-- Registers that answer before ST20: GLB_STATUS and the JNL_ registers, and in recovery mode the mailbox pair (R416, R455). -/
def State.answersEarly (s : State) (bar a : Nat) : Bool :=
  bar = 0 && (a = 0 || (0x5000 ≤ a && a < 0x6000) || (s.boot.state = 3 && 0x1000 ≤ a && a < 0x1018))

/-- An offset of the HUB SRAM window of recovery mode, and its address: the window shows the first 16 MiB (R455). (Log 128 DESIGN CHOICE) -/
def State.inWindow (s : State) (bar off : Nat) : Bool := s.boot.state = 3 && bar = 0 && 0x1000000 ≤ off && off < 0x2000000
def hubWindow (off : Nat) : Nat := hubBase + (off - 0x1000000)

/-- A read of BAR0 or BAR2. (Log 98 DEDUCED) -/
def State.barRead (s : State) (bar off size : Nat) : State :=
  if !s.barOn then s.unsupported bar off size
  else if !shapeOk off size then s.abort bar off size
  else if s.ready || s.answersEarly bar (off / 8 * 8) then s.readServed bar off size
  else if s.inWindow bar off then s.setReply (.data (s.devN (hubWindow off) size))
  else s.replyLE size 0

/-! ### Writing a register -/

/-- Bits of a 64-bit register that an access writes, and the value in place (R496). -/
structure RegWrite where
  mask : U64
  val  : U64
  deriving DecidableEq, Repr

def regWrite (off size : Nat) (v : U64) : RegWrite :=
  if size = 8 then { mask := 0xFFFFFFFFFFFFFFFF, val := v }
  else if off % 8 = 0 then { mask := 0xFFFFFFFF, val := v &&& 0xFFFFFFFF }
  else { mask := 0xFFFFFFFF00000000, val := (v &&& 0xFFFFFFFF) <<< 32 }

/-- A RW or ST field after a write. -/
def RegWrite.merge (w : RegWrite) (old : U64) : U64 := (old &&& ~~~w.mask) ||| (w.val &&& w.mask)
/-- The ones written, as W1C and W1S take them. -/
def RegWrite.ones (w : RegWrite) : U64 := w.val &&& w.mask

/-- A write to staged settings of a group. -/
def State.stageField (s : State) (i : Nat) (w : RegWrite) (get : Settings → U64) (set : Settings → U64 → Settings) : State :=
  s.stage i (fun c => set c (w.merge (get c)))

def State.writeGlb (s : State) (a : Nat) (w : RegWrite) : Option State :=
  let h := s.host
  match a with
  | 0x000 => some s
  | 0x008 => some s
  | 0x010 => some s
  | 0x018 =>
    let s1 := s.stageField 5 w (·.bar4Map) (fun c v => { c with bar4Map := v &&& ~~~1 })
    some (if w.ones.getLsbD 0 then s1.askGroups (maskBit 5) else s1)
  | 0x020 => some (s.askGroups (w.ones.setWidth 7))
  | 0x028 => some { s with host := { h with busy := h.busy &&& ~~~(w.ones.setWidth 7) } }
  | 0x030 => some { s with host := { h with invalid := h.invalid &&& ~~~(w.ones.setWidth 7) } }
  | 0x040 => some (s.clearPending 0 w.ones.toNat)
  | 0x048 => some (s.clearPending 1 w.ones.toNat)
  | 0x050 => some (s.clearPending 2 w.ones.toNat)
  | 0x058 => some (s.clearPending 3 w.ones.toNat)
  | 0x060 => some s
  | 0x068 => some s
  | _ => none

/-- A write to MB_H2C stores the value (R431, R432). -/
def State.storeH2c (s : State) (v : U64) : State := { s with host := { s.host with h2c := (s.host.h2c.store v).1 } }

/-- W1C bits of MB_HSTAT. -/
def State.clearHstat (s : State) (v : U64) : State :=
  { s with host := { s.host with h2c := { s.host.h2c with overrun := s.host.h2c.overrun && !v.getLsbD 1 }
                                 c2h := { s.host.c2h with overrun := s.host.c2h.overrun && !v.getLsbD 3 } } }

def State.writeMb (s : State) (a : Nat) (w : RegWrite) : Option State :=
  match a with
  | 0x1000 => some (s.storeH2c w.val)
  | 0x1008 => some s
  | 0x1010 => some (s.clearHstat w.ones)
  | _ => none

/-- A write to DB_HOSTn_MASK: a pending bit whose mask bit becomes 1 raises the vector (R435). Ones in reserved bits of a RW register, here and
in DB_SQn, are dropped and the rest of the write acts. (Log 115 DESIGN CHOICE) -/
def State.maskHost (s : State) (n : Nat) (v : U64) : State :=
  let d := s.doorbell n
  let m : U32 := v.setWidth 32
  let s1 := s.setDoorbell n { d with mask := m, vector := (v >>> 32).setWidth 8 }
  if d.pend &&& m &&& ~~~d.mask ≠ 0 then s1.raise ((v >>> 32).setWidth 8).toNat else s1

def State.writeDb (s : State) (a : Nat) (w : RegWrite) : Option State :=
  let n := (a - 0x2000) / 16
  if 17 ≤ n then none
  else
    let d := s.doorbell n
    if a % 16 = 0 then some (s.setDoorbell n { d with pend := w1c 32 d.pend (w.ones.setWidth 32) })
    else some (s.maskHost n (w.merge ((d.vector.setWidth 64 <<< 32) ||| d.mask.setWidth 64)))

def State.writeTb (s : State) (a : Nat) (w : RegWrite) : Option State :=
  match a with
  | 0x3000 => some (s.stageField 3 w (·.srcSel) (fun c v => { c with srcSel := v }))
  | 0x3008 => some (s.stageField 3 w (·.ptpCfg) (fun c v => { c with ptpCfg := v }))
  | 0x3010 => some (s.stageField 3 w (·.ptmInterval) (fun c v => { c with ptmInterval := v }))
  | 0x3018 => some (s.stageField 3 w (·.ptmOffset) (fun c v => { c with ptmOffset := v }))
  | 0x3058 => some (s.stageField 3 w (·.ppsCfg) (fun c v => { c with ppsCfg := v }))
  | 0x3048 => some (s.stageField 4 w (·.phaseCount) (fun c v => { c with phaseCount := v }))
  | 0x3050 => some (s.stageField 4 w (·.localOffset) (fun c v => { c with localOffset := v }))
  | a =>
    if 0x3080 ≤ a && a < 0x3180 then
      let k := (a - 0x3080) / 8
      some (s.stageField 4 w (fun c => tget 0 c.phases k) (fun c v => { c with phases := tset 0 c.phases k v }))
    else (s.readTb a).map (fun _ => s)

def State.writePwr (s : State) (a : Nat) (w : RegWrite) : Option State :=
  match a with
  | 0x4000 => some (s.stageField 6 w (·.pwrCtl) (fun c v => { c with pwrCtl := v }))
  | 0x4008 => some (s.clearPwr w.ones.toNat)
  | a => (s.readPwr a).map (fun _ => s)

def State.writeIng (s : State) (a : Nat) (w : RegWrite) : Option State :=
  match a with
  | 0x8000 => some (s.stageField 0 w (·.port0) (fun c v => { c with port0 := v }))
  | 0x8008 => some (s.stageField 1 w (·.port1) (fun c v => { c with port1 := v }))
  | 0x8040 => some (s.stageField 2 w (·.sprxBase) (fun c v => { c with sprxBase := v }))
  | 0x8048 => some (s.stageField 2 w (·.sprxSize) (fun c v => { c with sprxSize := v }))
  | 0x8050 => some (s.stageField 2 w (·.sptxBase) (fun c v => { c with sptxBase := v }))
  | 0x8058 => some (s.stageField 2 w (·.sptxSize) (fun c v => { c with sptxSize := v }))
  | 0x8060 => some (s.stageField 2 w (·.spRate) (fun c v => { c with spRate := v }))
  | 0x8070 => some (s.consumeRx (w.merge s.ing.sprxCons))
  | 0x8078 => some (s.announceTx (w.merge s.ing.sptxProd))
  | 0x8090 => some { s with host := { s.host with taiUtc := (w.merge (s.host.taiUtc.setWidth 64)).setWidth 16 } }
  | a => (s.readIng a).map (fun _ => s)

/-- HQ_Qn_CTL: COMMIT, RESUME and the W1C bits (R419). -/
def State.queueCtlWrite (s : State) (n : Nat) (v : U64) : State :=
  let Q := s.queue n
  let s1 := s.setQueue n { Q with busy := Q.busy && !v.getLsbD 2, invalid := Q.invalid && !v.getLsbD 3 }
  let s2 := if v.getLsbD 1 then s1.resumeQueue n else s1
  if v.getLsbD 0 then s2.askQueue n else s2

def State.writeQueue (s : State) (n o : Nat) (w : RegWrite) : Option State :=
  match o with
  | 0x00 => some (s.stageQueue n (fun Q => { Q with sqBaseS := w.merge Q.sqBaseS }))
  | 0x08 => some (s.stageQueue n (fun Q => { Q with cqBaseS := w.merge Q.cqBaseS }))
  | 0x10 => some (s.stageQueue n (fun Q => { Q with cfgS := w.merge Q.cfgS }))
  | 0x18 => some (s.queueCtlWrite n w.ones)
  | 0x38 => some (if w.mask.getLsbD 0 then s.consumeCq n (w.val.setWidth 32) else s)
  | o => (s.readQueue n o).map (fun _ => s)

def State.writeHq (s : State) (a : Nat) (w : RegWrite) : Option State :=
  if a < 0x12000 then s.writeQueue ((a - 0x10000) / 0x80) (a % 0x80) w
  else if 0x14000 ≤ a && a < 0x14800 && a % 0x20 = 0 then
    if w.mask = 0xFFFFFFFFFFFFFFFF then some (s.ringCons ((a - 0x14000) / 0x20) w.val) else none
  else (s.readHq a).map (fun _ => s)

/-- A write to the MSI-X table (R412). -/
def State.writeMsix (s : State) (a : Nat) (w : RegWrite) : Option State :=
  let o := a - 0x3000000
  if o < 0x1000 then
    let m := s.msixEntry (o / 16)
    if o % 16 = 0 then some (s.setMsixEntry (o / 16) { m with addr := w.merge m.addr &&& ~~~3 })
    else
      let v := w.merge ((if m.masked then 1 <<< 32 else 0) ||| m.data.setWidth 64)
      some ((s.setMsixEntry (o / 16) { m with data := v.setWidth 32, masked := v.getLsbD 32 }).intx)
  else (s.readMsix a).map (fun _ => s)

def State.writeBar0 (s : State) (a : Nat) (w : RegWrite) : Option State :=
  if a < 0x1000 then s.writeGlb a w
  else if a < 0x2000 then s.writeMb a w
  else if a < 0x3000 then s.writeDb a w
  else if a < 0x4000 then s.writeTb a w
  else if a < 0x5000 then s.writePwr a w
  else if 0x8000 ≤ a && a < 0xC000 then s.writeIng a w
  else if 0x10000 ≤ a && a < 0x20000 then s.writeHq a w
  else if 0x3000000 ≤ a && a < 0x3001020 then s.writeMsix a w
  else (s.readBar0 a).map (fun _ => s)

/-- A write to MB_EMBXn_DATA stores into the Easel's inbound mailbox, or the copy held for the lender (R431, R433). -/
def State.storeEmbx (s : State) (e : Nat) (v : U64) : State :=
  s.setEasel e ((s.easel e).setInbox ((s.easel e).inbox.store v).1)

/-- W1C of MB_EMBXn_STAT.OVERRUN. -/
def State.clearEmbx (s : State) (e : Nat) (v : U64) : State :=
  let m := (s.easel e).inbox
  s.setEasel e ((s.easel e).setInbox { m with overrun := m.overrun && !v.getLsbD 1 })

/-- W1C bits of MB_FROMn_STAT. -/
def State.clearFrom (s : State) (e : Nat) (v : U64) : State :=
  let m := s.fromMbx e
  s.setFromMbx e { mbx := { m.mbx with overrun := m.mbx.overrun && !v.getLsbD 1 }, signal := w1c 32 m.signal ((v >>> 32).setWidth 32) }

def State.writeBar2 (s : State) (a : Nat) (w : RegWrite) : Option State :=
  let page := a / 0x1000
  let o := a % 0x1000
  if page < 64 then (if o = 0 then some (if w.mask.getLsbD 0 then s.doorbellSq page (w.val.setWidth 32) else s) else none)
  else if page < 256 then
    let e := page - 64
    match o with
    | 0x00 => some (s.storeEmbx e w.val)
    | 0x08 => some (s.clearEmbx e w.ones)
    | 0x10 => some s
    | 0x18 => some (s.clearFrom e w.ones)
    | _ => none
  else none

/-- A write that is served (R495, R496). (Log 22 DEDUCED) -/
def State.writeServed (s : State) (bar off size : Nat) (v : U64) : State :=
  let a := off / 8 * 8
  if s.gatedMbx bar a || (size = 4 && mbxData bar a) then s.discard bar off size
  else ((if bar = 0 then s.writeBar0 a (regWrite off size v) else s.writeBar2 a (regWrite off size v))).getD (s.discard bar off size)

/-- A write to BAR0 or BAR2. (Log 22 DEDUCED) -/
def State.barWrite (s : State) (bar off size : Nat) (v : U64) : State :=
  if !s.barOn then s.unsupportedWrite bar off size
  else if !shapeOk off size then s.discard bar off size
  else if s.ready || (s.boot.state = 3 && bar = 0 && 0x1000 ≤ off && off < 0x1018) then s.writeServed bar off size v
  else if s.inWindow bar off then s.setDevN (hubWindow off) (leBytes size v.toNat)
  else s.discard bar off size

end Sys2Proof.Machine
end

