-- ==== Sys2Proof/Machine/HostRegs.lean ====
section
/-!
DEFINITION. The commands by which the host writes and reads registers, and the configuration space (R402 to R406, R495 to R501). A register
that a row of the opcode table names has the same effect when REGISTER_WRITE or REGISTER_READ_CAPTURE reaches it at its offset.
-/
namespace Sys2Proof.Machine

/-! ### The configuration space

The capability offsets are R403's; the places of fields within a capability are the PCI Express standard's (PRESUMED). -/

/-- A BAR register: address bits above the BAR's size, and its type bits. -/
def State.readBarReg (s : State) (i : Nat) : Nat :=
  let v := (tget 0 s.pcie.bars i).toNat
  let size := s.barSize (i / 2 * 2)
  if i % 2 = 0 then (if size < 2 ^ 32 then v / size * size else 0) + (if i = 4 then 12 else 4)
  else if size < 2 ^ 32 then v else v / (size / 2 ^ 32) * (size / 2 ^ 32)

/-- Command and Status (R402). -/
def State.commandReg (s : State) : Nat :=
  let p := s.pcie
  (if p.memSpaceEn then 2 else 0) + (if p.busMasterEn then 4 else 0) + (if p.parityResp then 64 else 0) + (if p.serrEn then 256 else 0)
    + (if p.intxDisable then 1024 else 0) + (if p.intaAsserted then 0x80000 else 0) + 0x100000 + p.statusErrors.toNat * 0x10000

/-- Device Control; the error bits and Transactions Pending in its status half. -/
def State.devCtl (s : State) : Nat :=
  let p := s.pcie
  p.devEnables.toNat + p.maxPayload * 32 + (if p.extTagEn then 256 else 0) + p.maxRead * 4096 + p.devStatus.toNat * 0x10000
    + (if p.reads.isEmpty then 0 else 0x200000)

/-- Bits of a dword that the part holds fixed and only the standard defines. -/
def cfgStable (a mask : Nat) : Nat := (Config.cfgFree (a / 4)).toNat &&& mask

/-- A dword of the configuration space: its value, and the mask of the bits that the link or the lanes set as they run and this manual does
not give. Those read a free value. (Log 12 PRESUMED) -/
abbrev CfgVal := Nat × Nat

/-- The header, Power Management, PCI Express and MSI-X (R402 to R404). -/
def State.cfgStandard (s : State) (a : Nat) : CfgVal :=
  let p := s.pcie
  match a with
  | 0x00 => (0x08801F3C, 0)
  | 0x04 => (s.commandReg, 0)
  | 0x08 => (0x120000B0, 0)
  | 0x0C => (p.cacheLine.toNat, 0)
  | 0x2C => (s.sec.subsys.2.toNat * 2 ^ 16 + s.sec.subsys.1.toNat, 0)
  | 0x34 => (0x40, 0)
  | 0x3C => (0x100 + p.intLine.toNat, 0)
  | 0x40 => (0x00035001, 0)
  | 0x44 => (if p.d3hot then 3 else 0, 0)
  | 0x50 => (0x00029010, 0)
  | 0x54 => (0x10008022 + cfgStable a 0xFC0, 0)
  | 0x58 => (s.devCtl, 0)
  | 0x5C => (0x00400905 + cfgStable a 0xFF03F000, 0)
  | 0x60 => (p.linkCtl.toNat + p.speed * 2 ^ 16 + (if p.linkUp then 2 ^ p.width * 2 ^ 20 else 0) + cfgStable a 0x10000000, 0)
  | 0x74 => (0x0003001F, 0)
  | 0x78 => (p.cto + (if p.ctoDisable then 16 else 0) + (if p.tenBitTagEn then 4096 else 0), 0)
  | 0x7C => (0x3E + cfgStable a 0x81FFFE00, 0)
  | 0x80 => (p.linkCtl2.toNat, 0xFFFF0000)
  | 0x90 => (0x00FF0011 + (if p.msixMask then 0x40000000 else 0) + (if p.msixEnable then 0x80000000 else 0), 0)
  | 0x94 => (0x03000000, 0)
  | 0x98 => (0x03001000, 0)
  | a => (if 0x10 ≤ a && a < 0x28 then s.readBarReg ((a - 0x10) / 4) else 0, 0)

/-- The TLP header of an entry that AER logged, dword k: format, type and length; requester, tag and byte enables; the address (R408's
forms). -/
def AerRec.header (r : AerRec) (index k : Nat) : Nat :=
  let dwords := (r.addr % 4 + r.len + 3) / 4
  let first := (2 ^ min (4 - r.addr % 4) r.len - 1) * 2 ^ (r.addr % 4)
  let last := if dwords ≤ 1 then 0 else 2 ^ ((r.addr + r.len - 1) % 4 + 1) - 1
  let wide := 2 ^ 32 ≤ r.addr
  match k with
  | 0 => (if wide then 0x20000000 else 0) + (if r.read then 0 else 0x40000000) + dwords % 1024
  | 1 => ((Config.tlpIds index).toNat &&& 0xFFFFFF00) + last * 16 + first
  | 2 => if wide then r.addr / 2 ^ 32 else r.addr / 4 * 4
  | _ => if wide then r.addr % 2 ^ 32 / 4 * 4 else 0

/-- The header log: that of the first error, while its status bit stands. -/
def State.headerLog (s : State) (k : Nat) : Nat :=
  match s.pcie.firstError.bind (fun i => (s.pcie.aer[i]?).map (fun r => r.header i k)) with | some v => v | none => 0

/-- The first error pointer. -/
def State.firstErrorBit (s : State) : Nat := match s.pcie.firstError.bind (fun i => s.pcie.aer[i]?) with | some r => r.kind.bit | none => 0

/-- A lane's margining control and status: No Command after reset. -/
def State.marginReg (s : State) (lane : Nat) : Nat :=
  match tfind s.pcie.margin lane with
  | none => 0x9C38
  | some (c, x) => c.toNat + (c.toNat % 128 + x.toNat * 256) * 2 ^ 16

/-- The extended capabilities (R403). -/
def State.cfgExtended (s : State) (a : Nat) : CfgVal :=
  let p := s.pcie
  match a with
  | 0x100 => (0x14820001, 0)
  | 0x104 => (p.uncStatus.toNat, 0)
  | 0x108 => (p.uncMask.toNat, 0)
  | 0x10C => (p.uncSeverity.toNat, 0)
  | 0x110 => (p.corStatus.toNat, 0)
  | 0x114 => (p.corMask.toNat, 0)
  | 0x118 => (s.firstErrorBit, 0)
  | 0x11C => (s.headerLog 0, 0)
  | 0x120 => (s.headerLog 1, 0)
  | 0x124 => (s.headerLog 2, 0)
  | 0x128 => (s.headerLog 3, 0)
  | 0x148 => (0x15810003, 0)
  | 0x14C => (if s.sec.idReady then fieldLE s.identity 0 4 else 0, 0)
  | 0x150 => (if s.sec.idReady then fieldLE s.identity 4 4 else 0, 0)
  | 0x158 => (0x1681001F, 0)
  | 0x15C => (1, 0)
  | 0x160 => (p.ptmCtl.toNat, 0)
  | 0x168 => (0x17810015, 0)
  | 0x16C => (0x000FF000, 0)
  | 0x170 => (4 + 32 + (8 + p.bar4Size) * 256, 0)
  | 0x178 => (0x1A810019, 0)
  | 0x17C => (0, 0xFE00)
  | 0x180 => (0, 0xFFFF)
  | 0x1A8 => (0x1B810025, 0)
  | 0x1AC => (0x80000001, 0)
  | 0x1B0 => (0, 0x807FFFFF)
  | 0x1B8 => (0x1E810026, 0)
  | 0x1BC | 0x1C0 | 0x1D4 => (0, 0)
  | 0x1E8 => (0x2181002A, 0)
  | 0x1EC => (cfgStable a 3, 0)
  | 0x218 => (0x00010027, 0)
  | 0x21C => (cfgStable a 1, 0x00030000)
  | a =>
    -- lane presets, held fixed; status of the 16.0 and 32.0 GT/s layers, as the link runs; lane margining
    if (0x184 ≤ a && a < 0x1A4) || (0x1D8 ≤ a && a < 0x1E8) || (0x208 ≤ a && a < 0x218) then (cfgStable a 0xFFFFFFFF, 0)
    else if (0x1C4 ≤ a && a < 0x1D4) || (0x1F0 ≤ a && a < 0x208) then (0, 0xFFFFFFFF)
    else if 0x220 ≤ a && a < 0x260 then (s.marginReg ((a - 0x220) / 4), 0)
    else (0, 0)

/-- A dword of the configuration space. -/
def State.cfgDword (s : State) (a : Nat) : CfgVal := if a < 0x100 then s.cfgStandard a else s.cfgExtended a

/-- The link takes configuration requests; while a function-level reset runs they complete with Request Retry Status (R414). -/
def State.cfgOn (s : State) : Bool := s.pcie.linkUp && !s.board.clocksStopped && !s.board.porAsserted

/-- A configuration read of `size` bytes; offsets lie within a dword. -/
def State.cfgRead (s : State) (off size : Nat) : State :=
  if !s.cfgOn then s.setReply .none
  else if s.pcie.flrNs ≠ 0 then s.setReply .requestRetry
  else
    let c := s.cfgDword (off / 4 * 4)
    if c.2 = 0 then s.replyLE size (c.1 / 2 ^ (8 * (off % 4)))
    else s.draw.2.replyLE size ((c.1 + (s.draw.1.toNat &&& c.2)) / 2 ^ (8 * (off % 4)))

/-- Bits of a dword that a configuration write covers. -/
structure CfgWrite where
  mask : U32
  val  : U32
  deriving DecidableEq, Repr

/-- (Log 12 PRESUMED) -/
def cfgWriteOf (off size : Nat) (v : U64) : CfgWrite :=
  let m : U32 := BitVec.ofNat 32 (2 ^ (8 * size) - 1)
  { mask := m <<< (8 * (off % 4)), val := (v.setWidth 32 &&& m) <<< (8 * (off % 4)) }

/-- A bit after the write, and a field of bits `hi` to `lo` when its lowest bit is covered. -/
def CfgWrite.bit (w : CfgWrite) (i : Nat) (old : Bool) : Bool := if w.mask.getLsbD i then w.val.getLsbD i else old
def CfgWrite.field (w : CfgWrite) (hi lo old : Nat) : Nat := if w.mask.getLsbD lo then bits w.val.toNat hi lo else old

/-- The low half after the write, in the bits of a mask; the ones written, as W1C bits take them; a dword after the write. -/
def CfgWrite.low (w : CfgWrite) (old mask : U16) : U16 :=
  let m := w.mask.setWidth 16 &&& mask
  (old &&& ~~~m) ||| (w.val.setWidth 16 &&& m)
def CfgWrite.ones (w : CfgWrite) : U32 := w.val &&& w.mask
def CfgWrite.merge (w : CfgWrite) (old mask : U32) : U32 := (old &&& ~~~(w.mask &&& mask)) ||| (w.val &&& w.mask &&& mask)

/-- Command; the error bits of Status are write-one-to-clear. -/
def State.commandWrite (s : State) (w : CfgWrite) : State :=
  let p := s.pcie
  ({ s with pcie := { p with memSpaceEn := w.bit 1 p.memSpaceEn, busMasterEn := w.bit 2 p.busMasterEn, parityResp := w.bit 6 p.parityResp
                             serrEn := w.bit 8 p.serrEn, intxDisable := w.bit 10 p.intxDisable
                             statusErrors := p.statusErrors &&& ~~~((w.ones >>> 16).setWidth 16) } } : State).intx

/-- Uncorrectable errors of an endpoint, without ECRC; correctable ones (R403). (Log 12 PRESUMED) -/
def uncImplemented : U32 := 0x0057F010
def corImplemented : U32 := 0x0000F1C1

/-- Uncorrectable Error Status: write one to clear; the header log is free again when its error's bit is cleared. -/
def State.clearUncorrectable (s : State) (w : CfgWrite) : State :=
  let v := s.pcie.uncStatus &&& ~~~w.ones
  { s with pcie := { s.pcie with
    uncStatus := v, firstError := if s.pcie.firstError.isSome && !v.getLsbD s.firstErrorBit then none else s.pcie.firstError } }

/-- Margining control of a lane: the command written, and the lane's answer. -/
def State.marginWrite (s : State) (lane : Nat) (w : CfgWrite) : State :=
  if w.mask.setWidth 16 = 0 then s
  else
    let old := match tfind s.pcie.margin lane with | some x => x | none => (0x9C38, 0)
    let c := w.low old.1 0xFFFF
    ({ s with pcie := { s.pcie with margin := tinsert s.pcie.margin lane (c, old.2) } } : State).marginLane lane c

/-- MSI-X Message Control. Enabling MSI-X sends Deassert_INTA first (R413). -/
def State.msixControl (s : State) (w : CfgWrite) : State :=
  ({ s with pcie := { s.pcie with msixEnable := w.bit 31 s.pcie.msixEnable, msixMask := w.bit 30 s.pcie.msixMask } } : State).intx

/-- Device Control and Device Status: Initiate Function Level Reset starts an FLR (R414); undefined sizes are not taken; the error bits of
Device Status are write-one-to-clear. -/
def State.deviceControl (s : State) (w : CfgWrite) : State :=
  let mps := w.field 7 5 s.pcie.maxPayload
  let mrs := w.field 14 12 s.pcie.maxRead
  let s1 := { s with pcie := { s.pcie with
    maxPayload := if mps ≤ 2 then mps else s.pcie.maxPayload, maxRead := if mrs ≤ 5 then mrs else s.pcie.maxRead
    extTagEn := w.bit 8 s.pcie.extTagEn, devEnables := w.low s.pcie.devEnables 0x081F
    devStatus := s.pcie.devStatus &&& ~~~((w.ones >>> 16).setWidth 4) } }
  if w.bit 15 false then s1.flr else s1

/-- PMCSR: D0 and D3hot; leaving D3hot has the effect of an FLR (R415). -/
def State.powerState (s : State) (w : CfgWrite) : State :=
  match w.field 1 0 4 with
  | 0 => s.leaveD3
  | 3 => ({ s with pcie := { s.pcie with d3hot := true } } : State).intx
  | _ => s

/-- A configuration write to a dword. (Log 12 PRESUMED) -/
def State.cfgWriteDword (s : State) (a : Nat) (w : CfgWrite) : State :=
  let p := s.pcie
  match a with
  | 0x04 => s.commandWrite w
  | 0x0C => { s with pcie := { p with cacheLine := BitVec.ofNat 8 (w.field 7 0 p.cacheLine.toNat) } }
  | 0x3C => { s with pcie := { p with intLine := BitVec.ofNat 8 (w.field 7 0 p.intLine.toNat) } }
  | 0x44 => s.powerState w
  | 0x58 => s.deviceControl w
  | 0x60 => { s with pcie := { p with linkCtl := w.low p.linkCtl 0x00CB } }
  | 0x78 => { s with pcie := { p with cto := w.field 3 0 p.cto, ctoDisable := w.bit 4 p.ctoDisable, tenBitTagEn := w.bit 12 p.tenBitTagEn } }
  | 0x80 => { s with pcie := { p with linkCtl2 := w.low p.linkCtl2 0xFFBF } }
  | 0x90 => s.msixControl w
  | 0x104 => s.clearUncorrectable w
  | 0x108 => { s with pcie := { p with uncMask := w.merge p.uncMask uncImplemented } }
  | 0x10C => { s with pcie := { p with uncSeverity := w.merge p.uncSeverity uncImplemented } }
  | 0x110 => { s with pcie := { p with corStatus := p.corStatus &&& ~~~w.ones } }
  | 0x114 => { s with pcie := { p with corMask := w.merge p.corMask corImplemented } }
  | 0x160 => { s with pcie := { p with ptmCtl := w.merge p.ptmCtl 0x0000FF01 } }
  | 0x170 =>
    let n := w.field 13 8 (8 + p.bar4Size)
    { s with pcie := { p with bar4Size := if 8 ≤ n && n ≤ 15 then n - 8 else p.bar4Size } }
  | a =>
    if 0x10 ≤ a && a < 0x28 then
      let i := (a - 0x10) / 4
      { s with pcie := { p with bars := tset 0 p.bars i ((tget 0 p.bars i &&& ~~~w.mask) ||| w.val) } }
    else if 0x220 ≤ a && a < 0x260 then s.marginWrite ((a - 0x220) / 4) w
    else s

/-- A configuration write; reads that waited for a tag or for Bus Master Enable are issued (R409, R411). -/
def State.cfgWrite (s : State) (off size : Nat) (v : U64) : State :=
  if !s.cfgOn then s
  else if s.pcie.flrNs ≠ 0 then s.setReply .requestRetry
  else (s.cfgWriteDword (off / 4 * 4) (cfgWriteOf off size v)).issueReads

/-- An access lies within the configuration space and within one dword. -/
def cfgShape (off size : Nat) : Bool := off < 4096 && (size = 1 || size = 2 || size = 4) && off % size = 0

/-- The number by which the register commands name the configuration space. -/
def cfgBar : Nat := 7

/-! ### REGISTER_WRITE and REGISTER_READ_CAPTURE -/

/-- REGISTER_WRITE: a write of `size` bytes at an offset of BAR0, BAR2, or the configuration space (7). -/
def execRegisterWrite (bar off size : Nat) (value : U64) (s : State) : Out :=
  if bar = cfgBar then (if cfgShape off size then .next (s.cfgWrite off size value) else noUnit)
  else if bar ≠ 0 && bar ≠ 2 then noUnit
  else if s.barSize bar < off + size then noUnit
  else .next (s.barWrite bar off size value)

/-- REGISTER_READ_CAPTURE: a read of `size` bytes; the answer stands in `pcie.reply`. -/
def execRegisterReadCapture (bar off size : Nat) (s : State) : Out :=
  if bar = cfgBar then (if cfgShape off size then .next (s.cfgRead off size) else noUnit)
  else if bar ≠ 0 && bar ≠ 2 then noUnit
  else if s.barSize bar < off + size then noUnit
  else .next (s.barRead bar off size)

/-! ### Writes and reads that have a row of their own

Each is an 8-byte access to its register: an Unsupported Request while BAR requests are not served (R407), and discarded before
ST20 (R416). -/

/-- A register write with its effect. -/
def State.regOp (s : State) (bar off : Nat) (f : State → State) : State :=
  if !s.barOn then s.unsupportedWrite bar off 8 else if s.ready then f s else s.discard bar off 8

/-- COMMIT of a device-wide group, written 1 in GLB_COMMIT (R438, R499). -/
def commitRow (i : Nat) (s : State) : Out := .next (s.regOp 0 0x20 (fun s => s.askGroups (maskBit i)))

/-- COMMIT_ING_PORT (R65). -/
def execCommitIngPort (n : Fin 2) (s : State) : Out := commitRow n.val s
/-- COMMIT_ING_SP (R72). -/
def execCommitIngSp (s : State) : Out := commitRow 2 s
/-- COMMIT_TB_SRC (R40). -/
def execCommitTbSrc (s : State) : Out := commitRow 3 s
/-- COMMIT_TB_PHASE (R53). -/
def execCommitTbPhase (s : State) : Out := commitRow 4 s
/-- COMMIT_GLB_BAR4 (R406). -/
def execCommitGlbBar4 (s : State) : Out := commitRow 5 s
/-- COMMIT_PWR (R489). -/
def execCommitPwr (s : State) : Out := commitRow 6 s

/-- COMMIT_QUEUE: COMMIT written 1 in HQ_Qn_CTL (R418). -/
def execCommitQueue (q : Fin 64) (s : State) : Out := .next (s.regOp 0 (0x10018 + 0x80 * q.val) (fun s => s.askQueue q.val))

/-- RESUME written 1 in HQ_Qn_CTL (R425). -/
def execResume (q : Nat) (s : State) : Out := if 64 ≤ q then noUnit else .next (s.regOp 0 (0x10018 + 0x80 * q) (fun s => s.resumeQueue q))

/-- DB_SQ_WRITE (R423). -/
def execDbSqWrite (q : Nat) (t : U32) (s : State) : Out := if 64 ≤ q then noUnit else .next (s.regOp 2 (0x1000 * q) (fun s => s.doorbellSq q t))

/-- HQ_QN_CQ_CONS_WRITE (R419). -/
def execHqQnCqConsWrite (q : Nat) (v : U32) (s : State) : Out :=
  if 64 ≤ q then noUnit else .next (s.regOp 0 (0x10038 + 0x80 * q) (fun s => s.consumeCq q v))

/-- HQ_RING_CONS_WRITE (R354). -/
def execHqRingConsWrite (r : Nat) (v : U64) (s : State) : Out :=
  if 64 ≤ r then noUnit else .next (s.regOp 0 (0x14000 + 0x20 * r) (fun s => s.ringCons r v))

/-- DB_HOST_MASK_WRITE (R435). -/
def execDbHostMaskWrite (w : Nat) (v : U64) (s : State) : Out :=
  if 17 ≤ w then noUnit else .next (s.regOp 0 (0x2008 + 0x10 * w) (fun s => s.maskHost w v))

/-- ING_SPRX_CONS_WRITE (R72). -/
def execIngSprxConsWrite (v : U64) (s : State) : Out :=
  .next (s.regOp 0 0x8070 (fun s => s.consumeRx v))

/-- ING_SPTX_PROD_WRITE (R73). -/
def execIngSptxProdWrite (v : U64) (s : State) : Out := .next (s.regOp 0 0x8078 (fun s => s.announceTx v))

/-- MB_H2C_WRITE: served by the Curator, or by the boot ROM in recovery mode (R432, R455). -/
def execMbH2cWrite (v : U64) (s : State) : Out :=
  .next (if !s.barOn then s.unsupportedWrite 0 0x1000 8 else if s.ready || s.boot.state = 3 then s.storeH2c v else s.discard 0 0x1000 8)

/-- CURATOR_MAILBOX_ECHO: the Curator collects the value of MB_H2C and stores it into MB_C2H (R432). -/
def execCuratorMailboxEcho (s : State) : Out :=
  if !s.ready || !s.host.h2c.full then .next s
  else .next ({ s with host := { s.host with h2c := s.host.h2c.take.2 } }.storeC2h s.host.h2c.val)

/-- MB_C2H_READ: an 8-byte read of MB_C2H (R432). -/
def execMbC2hRead (s : State) : Out := .next (s.barRead 0 0x1008 8)

/-- MB_EMBX_DATA_WRITE: a write to a power-gated Easel's mailbox is discarded (R433). (Log 27 DEDUCED) -/
def execMbEmbxDataWrite (e : Nat) (v : U64) (s : State) : Out :=
  if 192 ≤ e then noUnit
  else .next (s.regOp 2 (0x1000 * (64 + e)) (fun s => if (s.easel e).powered then s.storeEmbx e v else s.discard 2 (0x1000 * (64 + e)) 8))

/-- MB_FROM_DATA_READ: an 8-byte read of MB_FROMn_DATA (R433). -/
def execMbFromDataRead (e : Nat) (s : State) : Out := if 192 ≤ e then noUnit else .next (s.barRead 2 (0x1000 * (64 + e) + 0x10) 8)

end Sys2Proof.Machine
end

