-- ==== Sys2Proof/Machine/Ingress.lean ====
section
/-!
DEFINITION. The interface table and its commands (R67, R68), and the demux table with its commands (R74, R76 to R78).
-/
namespace Sys2Proof.Machine

/-! ### Interfaces (R67, R68) -/

def ingDmxBad : Nat := 0x0601
def ingDmxFull : Nat := 0x0602
def ingDmxConflict : Nat := 0x0603
def ingMcastFull : Nat := 0x0604
def ingIfBad : Nat := 0x0605
def ingVlanFull : Nat := 0x0606

def decodeIface (b : List Byte) : Iface :=
  { mac := fieldLE b 1 1, vlan := fieldLE b 2 2, ipv4 := BitVec.ofNat 32 (fieldLE b 4 4), prefix4 := fieldLE b 8 1
    arpCopy := bitAt (fieldLE b 9 1) 0, echo := bitAt (fieldLE b 9 1) 1, macAddr := BitVec.ofNat 48 (fieldLE b 10 6)
    ipv6a := BitVec.ofNat 128 (fieldLE b 16 16), ipv6b := BitVec.ofNat 128 (fieldLE b 32 16) }

/-- The interface layout holds defined values. (Log 51 DEDUCED) -/
def ifaceOk (b : List Byte) : Bool :=
  fieldLE b 0 1 = 1 && fieldLE b 1 1 < 8 && fieldLE b 2 2 ≤ 4094 && fieldLE b 8 1 ≤ 32 && fieldLE b 9 1 < 4
    && !bitAt (fieldLE b 10 1) 0 && allZero (fieldBytes b 48 16)

/-- Distinct non-zero VLANs on a port. -/
def vlansOn (ifaces : Tbl Iface) (port : Nat) : List Nat :=
  ((ifaces.filter (fun x => x.2.mac / 4 = port && x.2.vlan ≠ 0)).map (·.2.vlan)).foldl (fun a v => if a.contains v then a else a ++ [v]) []

def memberLimit : Nat := 2048

/-- The first error of IF_SET (R77). (Log 51 DEDUCED) -/
def State.ifError (s : State) (i : Nat) (b : List Byte) : Nat :=
  let I := decodeIface b
  let t := tinsert s.ing.ifaces i I
  if ifaceOk b && memberLimit < (membersOf t s.ing.dmx).length then ingMcastFull
  else if !ifaceOk b || !s.macInUse I.mac then ingIfBad
  else if 8 < (vlansOn t (I.mac / 4)).length then ingVlanFull
  else 0

def State.setIfaces (s : State) (t : Tbl Iface) : State := { s with ing := { s.ing with ifaces := t } }.rejoinGroups

/-- IF_SET (R67). -/
def execIfSet (q : Nat) (n : U32) (s : State) : Out :=
  command q n 0x0040 s (fun e b =>
    let i := e.arg0.toNat % 32
    let c := s.ifError i b
    if c ≠ 0 then (s, c, 0) else (s.setIfaces (tinsert s.ing.ifaces i (decodeIface b)), 0, 0))

/-- IF_CLEAR (R67): a free entry stays free. -/
def execIfClear (q : Nat) (n : U32) (s : State) : Out :=
  command q n 0x0041 s (fun e _ => (s.setIfaces (terase s.ing.ifaces (e.arg0.toNat % 32)), 0, 0))

/-! ### Demux entries (R74, R76, R77) -/

def decodeDmx (b : List Byte) : Dmx :=
  { kind := fieldLE b 1 1, family := fieldLE b 2 1, ssrcMode := bits (fieldLE b 3 1) 1 0, copyRtcp := bitAt (fieldLE b 3 1) 2
    port := BitVec.ofNat 16 (fieldLE b 4 2), sitter := fieldLE b 6 2, ssrc := BitVec.ofNat 32 (fieldLE b 8 4)
    vlan := BitVec.ofNat 16 (fieldLE b 12 2), ports := b.getD 14 0, payload := b.getD 15 0, dst := BitVec.ofNat 128 (fieldLE b 16 16)
    src := BitVec.ofNat 128 (fieldLE b 32 16), reorderMs := BitVec.ofNat 16 (fieldLE b 48 2), timeMode := b.getD 50 0
    srTimeout := b.getD 51 0, arrivalOffset := BitVec.ofNat 32 (fieldLE b 52 4) }

/-- The demux layout holds defined values; fields 48 to 55 are reserved in an RTCP entry. (Log 51 DEDUCED) -/
def dmxOk (b : List Byte) : Bool :=
  let d := decodeDmx b
  fieldLE b 0 1 = 1 && 1 ≤ d.kind && d.kind ≤ 3 && (d.family = 4 || d.family = 6) && d.ssrcMode ≠ 3 && fieldLE b 3 1 < 8 && d.port ≠ 0
    && (d.vlan = 0xFFFF || d.vlan.toNat ≤ 4094) && 1 ≤ d.ports.toNat && d.ports.toNat ≤ 3 && (d.payload = 0xFF || d.payload.toNat ≤ 127)
    && allZero (fieldBytes b 56 8) && (if d.kind = 2 then allZero (fieldBytes b 48 8) else d.reorderMs.toNat ≤ 500 && d.timeMode.toNat ≤ 1)

def Dmx.sameKey (a b : Dmx) : Bool := a.family = b.family && a.dst = b.dst && a.port = b.port

/-- ANY, or a LATCH that has not latched. -/
def Dmx.openSsrc (d : Dmx) : Bool := d.ssrcMode = 0 || (d.ssrcMode = 2 && d.latch.isNone)

def Dmx.isRtp (d : Dmx) : Bool := d.kind ≠ 2

/-- The ingress parameters of two entries agree. -/
def Dmx.sameParams (a b : Dmx) : Bool :=
  a.reorderMs = b.reorderMs && a.timeMode = b.timeMode && a.srTimeout = b.srTimeout && a.arrivalOffset = b.arrivalOffset

/-- A new entry breaks the rules of R76 or meets another with its key. -/
def dmxConflict (others : List Dmx) (d : Dmx) : Bool :=
  let mine := others.filter (fun x => x.sitter = d.sitter && x.isRtp = d.isRtp)
  others.any (fun x => x.sameKey d && ((x.openSsrc && d.openSsrc) || (x.ssrcMode = 1 && d.ssrcMode = 1 && x.ssrc = d.ssrc)))
    || 2 ≤ mine.length || (d.isRtp && mine.any (fun x => !x.sameParams d))

/-- The first error of DMX_SET (R77). A table without a free entry refuses every DMX_SET, one that names a valid entry too. (Log 51 DEDUCED) -/
def State.dmxError (s : State) (i : Nat) (b : List Byte) : Nat :=
  let d := decodeDmx b
  let others := (s.ing.dmx.filter (fun x => x.1 ≠ i)).map (·.2)
  if !dmxOk b || 2048 ≤ d.sitter || (s.sitter d.sitter).state = 0 then ingDmxBad
  else if 4096 ≤ s.ing.dmx.length then ingDmxFull
  else if dmxConflict others d then ingDmxConflict
  else if memberLimit < (membersOf s.ing.ifaces (tinsert s.ing.dmx i d)).length then ingMcastFull
  else 0

def State.setDmx (s : State) (t : Tbl Dmx) : State := { s with ing := { s.ing with dmx := t } }.rejoinGroups

/-- DMX_SET (R74, R78). -/
def execDmxSet (q : Nat) (n : U32) (s : State) : Out :=
  command q n 0x0042 s (fun e b =>
    let i := e.arg0.toNat % 4096
    let c := s.dmxError i b
    config s e b 0xFFFF (if c ≠ 0 then .error c else .ok (s.setDmx (tinsert s.ing.dmx i (decodeDmx b)))))

/-- DMX_CLEAR (R74): a free entry stays free. -/
def execDmxClear (q : Nat) (n : U32) (s : State) : Out :=
  command q n 0x0043 s (fun e b => config s e b 0xFFFF (.ok (s.setDmx (terase s.ing.dmx (e.arg0.toNat % 4096)))))

/-- Every entry of a deleted sitter is cleared (R76). -/
def State.clearDmxOf (s : State) (n : Nat) : State := s.setDmx (s.ing.dmx.filter (fun x => x.2.sitter ≠ n))

end Sys2Proof.Machine
end

