-- ==== Sys2Proof/Machine/Sittings.lean ====
section
/-!
DEFINITION. Sittings (R47 to R51, R324 to R330, R365): the instants, the scan, the make-up of batches, the work list, and the dispatch of
the stages; the time commands (R37, R58); and replay (R57 to R60).
-/
namespace Sys2Proof.Machine

/-! ### Instants (R47) -/

/-- Microseconds past the last instant at or before microsecond `us`. -/
def Part.sincePhase (P : Part) (us : Nat) : Nat := ((Int.ofNat us - Int.ofNat P.offset) % Int.ofNat P.period).toNat

/-- A sitting instant of the partition. -/
def Part.instant (P : Part) (t : Nat) : Bool := t % 1000 = 0 && P.sincePhase (t / 1000) = 0

/-- The first sitting instant at or after a time. -/
def Part.nextInstant (P : Part) (t : Nat) : Nat :=
  let us := (t + 999) / 1000
  let r := P.sincePhase us
  1000 * (if r = 0 then us else us + (P.period - r))

/-- The sitting instant that the partition runs next, seen from a time. -/
def Part.upcoming (P : Part) (now : Nat) : Nat := P.nextInstant (max now P.from_.toNat)

/-! ### The scan (R324, R325) -/

/-- A candidate: its sitter, its frame and picture, and its deadline. -/
structure Cand where
  n        : Nat
  f        : FrameRec
  pic      : Held
  deadline : U64
  staleUs  : Nat
  deriving DecidableEq, Repr

/-- Stable insertion by an order. -/
def insertBy {α : Type} (lt : α → α → Bool) (x : α) : List α → List α
  | [] => [x]
  | y :: l => if lt x y then x :: y :: l else y :: insertBy lt x l

def sortBy {α : Type} (lt : α → α → Bool) (l : List α) : List α := l.foldl (fun acc x => insertBy lt x acc) []

/-- Ready frames of a sitter in capture order; at a replay instant those whose arrival stamp has come (R60). (Log 70 DEDUCED) -/
def State.readyFrames (s : State) (n : Nat) (replay : Bool) (t : U64) : List FrameRec :=
  let l := (s.sitter n).frames.filter (fun f => f.phase = .ready && (!replay || f.arrival.toNat ≤ t.toNat))
  sortBy (fun f g => [f.capture.toNat, f.au.toNat] < [g.capture.toNat, g.au.toNat]) l

/-- A frame is judged at the instant: dropped as stale, or a candidate. FORCE_ADMIT is admitted whatever its age (R61). -/
def State.judgeFrame (s : State) (n : Nat) (t : U64) (cand : List Cand) (f : FrameRec) : State × List Cand :=
  let S := s.sitter n
  if f.disposition ≠ 1 && staleAt t f.capture S.staleUs then (s.drop n f.au dropStale origBuilder, cand)
  else
    match S.held.find? (fun h => h.au = f.au) with
    | none => (s, cand)
    | some h => (s, cand ++ [{ n := n, f := f, pic := h, deadline := f.capture + BitVec.ofNat 64 (S.budgetUs * 1000), staleUs := S.staleUs }])

/-- Every sitter of the partition scanned, in ascending order. -/
def State.scan (s : State) (p : Nat) (t : U64) : State × List Cand :=
  let replay := (s.part p).replay
  (s.sittersOf p).foldl (fun a n => (a.1.readyFrames n replay t).foldl (fun a f => a.1.judgeFrame n t a.2 f) a) (s, [])

/-- Deadline, then sitter, then capture time. -/
def candBefore (x y : Cand) : Bool :=
  let k (c : Cand) : List Nat := [c.deadline.toNat, c.n, c.f.capture.toNat, c.f.au.toNat]
  k x < k y

/-! ### The make-up of a batch (R326, R142) -/

/-- Its header. -/
def makeupHeader (n : U64) (slots : Nat) : List Byte := leBytes 8 n.toNat ++ leBytes 2 slots ++ List.replicate 54 0

/-- A slot without a frame: MASKED_EMPTY with zero bytes. -/
def State.emptySlot (s : State) (f : Framing) (fq : FQueue) (b i : Nat) : State :=
  (s.setDevN (fq.slotAddr b i) (List.replicate (f.profile fq.profile).dataBytes 0)).setDevN (fq.descAddr b i) (slotDesc 0xFFFF 3 0 0 0)

/-- The whole display window in quarter pixels. -/
def wholeBox (h : Held) : Int × Int × Int × Int := (0, 0, 4 * Int.ofNat h.dispW, 4 * Int.ofNat h.dispH)

/-- A frame is admitted into a slot. -/
def State.admitFrame (s : State) (p : Nat) (fq : FQueue) (b i : Nat) (t num : U64) (c : Cand) : State :=
  let S := s.sitter c.n
  let S1 := S.updFrame c.f.au (fun f => { f with phase := .admitted, sitting := num, deadline := c.deadline, staleUs := c.staleUs })
  let S2 := { S1 with held := S1.held.map (fun (h : Held) => if h.au = c.f.au then { h with deadline := some c.deadline } else h) }
  let j : SlotJob :=
    { part := p, queue := 0, buf := b, slot := i, sitter := c.n, au := c.f.au, capture := c.f.capture, deadline := c.deadline, profile := fq.profile
      box := some (wholeBox c.pic), aug := [], pic := { c.pic with deadline := some c.deadline }
      staleUs := if c.f.disposition = 1 then none else some c.staleUs, sitting := num, instant := t }
  let s1 := (s.setSitter c.n S2).setDevN (fq.descAddr b i) (slotDesc c.n 0 0 c.f.au c.f.capture)
  { s1 with med := { s1.med with slots := s1.med.slots ++ [j] } }

/-- The buffer becomes BUILT with its slots named, those from `k` on already masked. -/
def State.builtBuf (s : State) (p : Nat) (fq : FQueue) (b k : Nat) : State :=
  let i : BufInfo := { count := fq.slots, named := List.range fq.slots, done := (List.range (fq.slots - k)).map (k + ·) }
  (s.setPart p ((s.part p).setBuf 0 b i)).setBufState fq b 1

def State.makeup (s : State) (p : Nat) (f : Framing) (fq : FQueue) (b : Nat) (t num : U64) (l : List Cand) : State :=
  let s1 := s.setDevN (fq.bufAddr b) (makeupHeader num fq.slots)
  let s2 := l.zipIdx.foldl (fun s x => s.admitFrame p fq b x.2 t num x.1) s1
  let s3 := ((List.range fq.slots).drop l.length).foldl (fun s i => s.emptySlot f fq b i) s2
  s3.builtBuf p fq b l.length

/-- Batches are cut while candidates, batches and FREE buffers last (R325, R144). Answers the batches (buffer, frames). -/
def State.cutBatches (s : State) (p : Nat) (f : Framing) (fq : FQueue) (t num : U64) : Nat → List Cand → State × List (Nat × Nat)
  | 0, c => (s.setPart p { s.part p with planWait := (s.part p).planWait + BitVec.ofNat 48 c.length }, [])
  | _ + 1, [] => (s, [])
  | k + 1, c =>
    match s.freeBuf fq with
    | none => (s.setPart p { s.part p with framingWait := (s.part p).framingWait + BitVec.ofNat 48 c.length }, [])
    | some b =>
      let l := c.take fq.slots
      let r := (s.makeup p f fq b t num l).cutBatches p f fq t num k (c.drop fq.slots)
      (r.1, (b, l.length) :: r.2)

/-! ### The work list (R327) and the stages (R328) -/

/-- Bytes of a batch's entry. -/
def batchEntry (x : Nat × Nat) : List Byte := leBytes 2 x.1 ++ leBytes 2 x.2 ++ List.replicate 12 0

/-- A work list: the entries, and the header last. -/
def State.writeWorkList (s : State) (a : Nat) (header : List Byte) (batches : List (Nat × Nat)) : State :=
  (s.setDevN (a + 64) (batches.flatMap batchEntry)).setDevN a header

def workHeader (num t : U64) (slots : Nat) (batches : List (Nat × Nat)) : List Byte :=
  leBytes 8 num.toNat ++ leBytes 8 t.toNat ++ leBytes 2 batches.length ++ leBytes 2 slots ++ leBytes 2 ((batches.map (·.2)).foldl (· + ·) 0)
    ++ List.replicate 42 0

/-- Address of the package's work list. -/
def Pkg.workList (k : Pkg) : Nat := match k.workLists with | (a, _) :: _ => a | [] => 0

/-- Every stage is dispatched in stage order with the work list's address (R328). -/
def State.dispatchStages (s : State) (p : Nat) (k : Pkg) : State :=
  let ds := k.stages.map (fun (t : StageRun) =>
    ({ unit := t.unit, entry := t.entry, arg := BitVec.ofNat 64 k.workList, issuer := .sitting p, part := p, toStart := s.expansion t.unit.toNat, running := [] } : Disp))
  { s with disps := s.disps ++ ds }

/-- The sitting runs until its stages complete. -/
def State.openSitting (s : State) (p : Nat) (k : Pkg) (t num : U64) (step : Option Nat) : State :=
  (s.setPart p { s.part p with run := if k.stages.isEmpty then none else some { number := num, instant := t, open_ := k.stages.map (·.unit), step := step } }).dispatchStages p k

/-- A frame that a sitting 256 or more below the present one admitted has no result block yet (R348). (Log 69 DEDUCED) -/
def State.missingResult (s : State) (p : Nat) (num : U64) : Bool :=
  (s.sittersOf p).any (fun n => (s.sitter n).frames.any (fun f => f.phase = .admitted && f.sitting.toNat + 256 ≤ num.toNat))

/-! ### A sitting (R325) -/

/-- A sitting of a partition's sitters. -/
def State.frameSitting (s : State) (p : Nat) (k : Pkg) (t num : U64) : State :=
  let x := s.scan p t
  let c := sortBy candBefore x.2
  let f := x.1.framing p
  let fq := f.bind (fun f => f.queues[0]?)
  let y := match f, fq with
    | some f, some q => x.1.cutBatches p f q t num (pkgMaxBatches k.bytes) c
    | _, _ => (x.1, [])
  let s1 := y.1.writeWorkList k.workList (workHeader num t (match fq with | some q => q.slots | none => 0) y.2) y.2
  s1.openSitting p k t num none

/-! #### Training sittings (R365, R370) -/

/-- Sample i of the set as a picture: its directory entry (R362). -/
def State.samplePic (s : State) (dir : U64) (i : Nat) (au : U64) : Held :=
  let a := dir.toNat + 32 * i
  let w := s.devLE (a + 4) 2
  let h := s.devLE (a + 6) 2
  { au := au, slot := s.devLE (a + 8) 8, capture := 0, dispX := 0, dispY := 0, dispW := w, dispH := h, codedW := w, codedH := h, chroma := .c420, jpeg := true }

/-- Entry j of step t of the order table: sample index and augmentation record (R364). -/
def State.orderEntry (s : State) (J : Job) (i : Nat) : Nat × Nat := (s.devLE (J.order.toNat + 8 * i) 4, s.devLE (J.order.toNat + 8 * i + 4) 2)

/-- A sample takes its slot. (Log 70 DEDUCED) -/
def State.admitSample (s : State) (p : Nat) (f : Framing) (fq : FQueue) (b : Nat) (J : Job) (dir t num : U64) (i : Nat) : State :=
  let o := s.orderEntry J (J.done * J.batch + i)
  let au : U64 := BitVec.ofNat 64 J.done
  let pic := s.samplePic dir o.1 au
  let aug := if o.2 = 0xFFFF then [] else s.devN (f.aug + 24 * o.2) 24
  let j : SlotJob :=
    { part := p, queue := 0, buf := b, slot := i, sitter := sampleSitter, au := au, capture := 0, deadline := 0, profile := fq.profile
      box := effectiveBox (wholeBox pic) aug, aug := aug, pic := pic, staleUs := none, sitting := num, instant := t }
  let s1 := s.setDevN (fq.descAddr b i) (slotDesc sampleSitter 0 o.1 au 0)
  { s1 with med := { s1.med with slots := s1.med.slots ++ [j] } }

/-- The training work list. -/
def State.trainHeader (s : State) (p : Nat) (J : Job) (num t : U64) (slots batches : Nat) : List Byte :=
  let dir := match (s.part p).samples with | some x => x.1 | none => 0
  let even : Bool := J.done % 2 = 0
  leBytes 8 num.toNat ++ leBytes 8 t.toNat ++ leBytes 2 batches ++ leBytes 2 slots ++ leBytes 2 J.batch ++ leBytes 2 0 ++ leBytes 4 J.job.toNat
    ++ leBytes 4 J.done ++ leBytes 8 (if even then J.stateA else J.stateB).toNat ++ leBytes 8 (if even then J.stateB else J.stateA).toNat
    ++ leBytes 8 dir.toNat ++ leBytes 4 0 ++ leBytes 4 0

/-- A sitting of a partition with a job: one step, or the export. (Log 70 DEDUCED) -/
def State.trainSitting (s : State) (p : Nat) (k : Pkg) (J : Job) (f : Framing) (fq : FQueue) (b : Nat) (t num : U64) : State :=
  let dir := match (s.part p).samples with | some x => x.1 | none => 0
  if J.done < J.steps then
    let s1 := s.setDevN (fq.bufAddr b) (makeupHeader num fq.slots)
    let s2 := (List.range J.batch).foldl (fun s i => s.admitSample p f fq b J dir t num i) s1
    let s3 := ((List.range fq.slots).drop J.batch).foldl (fun s i => s.emptySlot f fq b i) s2
    let s4 := s3.builtBuf p fq b J.batch
    (s4.writeWorkList k.workList (s4.trainHeader p J num t fq.slots 1) [(b, J.batch)]).openSitting p k t num (some J.done)
  else (s.writeWorkList k.workList (s.trainHeader p J num t fq.slots 0) []).openSitting p k t num (some J.done)

/-- The sitting takes its number; the swaps that wait take effect before the scan (R47, R371). -/
def State.numberSitting (s : State) (p : Nat) (num : U64) : State :=
  let s1 := s.applySwaps p
  s1.setPart p { s1.part p with sitting := num }

/-- The partition's next sitting runs at instant t. A training step without a FREE buffer waits for a later sitting. -/
def State.sitting (s : State) (p : Nat) (k : Pkg) (t : U64) : State :=
  let num := (s.part p).sitting + 1
  match (s.part p).job with
  | none =>
    let s1 := (s.numberSitting p num).frameSitting p k t num
    if s1.missingResult p num then s1.partFault p { cause := 6 } else s1
  | some J =>
    match s.framing p with
    | none => s
    | some f =>
      match f.queues[0]? with
      | none => s
      | some fq =>
        if J.done < J.steps && (s.freeBuf fq).isNone then s.setPart p { s.part p with framingWait := (s.part p).framingWait + BitVec.ofNat 48 J.batch }
        else
          -- the Curator reads the entries of the step
          s.unitRead 6 (if J.done < J.steps then [(J.order.toNat + 8 * J.done * J.batch, 8 * J.batch)] else []) (fun s =>
            (s.numberSitting p num).trainSitting p k J f fq ((s.freeBuf fq).getD 0) t num)

/-! ### SITTING_INSTANT -/

/-- A sitting instant of the partition is reached: the phase's weights govern its lending from here, and loan time counts afresh (R54, R336). (Log 68 DEDUCED) -/
def State.reachInstant (s : State) (p : Nat) (t : U64) : State :=
  let s1 := s.setPart p { s.part p with from_ := t + 1 }
  let l := s1.partLeaves p
  ({ s1 with easels := s1.easels.map (fun (x : Nat × Easel) => if l.contains x.1 then (x.1, { x.2 with loanNs := 0 }) else x) } : State).takeWeights p

/-- The instant may run: the partition is RUNNING, and t is the first sitting instant from which it still runs (R47 to R49). (Log 68 DEDUCED) -/
def Part.mayRun (P : Part) (t : U64) : Bool := P.state = .running && t.toNat = P.nextInstant P.from_.toNat

/-- SITTING_INSTANT: a sitting of a live partition, or an overrun while the previous one has not completed (R325, R329). (Log 68 DEDUCED) -/
def execSittingInstant (p : Nat) (t : U64) (s : State) : Out :=
  if 16 ≤ p then noUnit
  else
    match s.part? p with
    | none => .next s
    | some P =>
      if !s.ready || P.replay || !P.mayRun t then .next s
      else
        let s1 := (s.passTo t.toNat).reachInstant p t
        match P.pkg with
        | none => .next s1
        | some k =>
          if P.run.isSome then .next (s1.setPart p { s1.part p with overrun := (s1.part p).overrun + 1 }) else .next (s1.sitting p k t)

/-! ### SET_TIME (R37, R53) -/

def timNotFree : Nat := 0x0503
def timReplayBack : Nat := 0x0504

/-- SET_TIME: store time set while the timebase is FREE, with its HOST_SET event. -/
def execSetTime (q : Nat) (n : U32) (s : State) : Out :=
  command q n 0x0050 s (fun e _ =>
    if s.tb.state ≠ 0 then (s, timNotFree, 0) else ((s.stepTime e.arg0).timeEvent 6 (stepSize s.tb.time e.arg0) 0, 0, 0))

/-! ### Replay (R57 to R60) -/

/-- An INJECT of the partition with an arrival stamp at or before t waits for ring space: the ADVANCE waits with it (R60, R93). -/
def State.injectPending (s : State) (p : Nat) (t : U64) : Bool :=
  s.host.queues.any (fun Q => Q.2.cmds.any (fun c => c.started && c.answer.isNone && c.entry.opcode = 0x0044 && match c.block with
    | some b => (s.sitter (fieldLE b 0 2)).partition = p && fieldLE b 16 8 ≤ t.toNat && s.injectError b = 0 && s.injectWaits b
    | none => false))

/-- An ADVANCE whose last instant has run completes, once no injection up to T waits for space: virtual time is T (R60). (Log 71 DEDUCED) -/
def State.finishAdvance (s : State) (p : Nat) : State :=
  let P := s.part p
  match P.advance with
  | none => s
  | some (q, n, t) =>
    if P.nextInstant P.from_.toNat ≤ t.toNat || s.injectPending p t then s
    else
      (s.setPart p { P with advance := none, virtualTime := if P.virtualTime.ult t then t else P.virtualTime }).answer q n 0 P.sitting.toNat

/-- The code of a replay command on a partition: it exists and is a replay partition. (Log 71 DEDUCED) -/
def State.replayCode (s : State) (p : Nat) : Nat :=
  match s.part? p with | none => partNotFound | some P => if P.replay then 0 else partBad

/-- REPLAY_SET_TIME (R58). (Log 71 DEDUCED) -/
def execReplaySetTime (q : Nat) (n : U32) (s : State) : Out :=
  command q n 0x0051 s (fun e _ =>
    let p := e.arg0.toNat % 16
    let c := firstCode [(s.replayCode p ≠ 0, s.replayCode p), (!(s.sittersOf p).isEmpty, partHasSitters)]
    if c ≠ 0 then (s, c, 0) else ((s.setPart p { s.part p with virtualTime := e.arg1, from_ := e.arg1 }).finishAdvance p, 0, 0))

/-- REPLAY_ADVANCE begins (R58, R60), and is looked at again until it completes; a second one of the partition waits for the first.
(Log 71 DEDUCED) -/
def execReplayAdvance (q : Nat) (n : U32) (s : State) : Out :=
  if 64 ≤ q then noUnit
  else
    match s.running q n 0x0052 with
    | none => .next s
    | some (c, _) =>
      let p := c.entry.arg0.toNat % 16
      let t := c.entry.arg1
      let code := firstCode [(s.replayCode p ≠ 0, s.replayCode p), (t.ult (s.part p).virtualTime, timReplayBack)]
      if c.waiting then .next (s.finishAdvance p)
      else if code ≠ 0 then .next (s.answer q n code 0)
      else if (s.part p).advance.isSome then .next s
      else .next (((s.setPart p { s.part p with advance := some (q, n, t) }).markWaiting q n).finishAdvance p)

/-- Every injected frame whose arrival stamp has come is decoded and delivered, or has its outcome (R60). -/
def State.injectedDone (s : State) (p : Nat) (t : U64) : Bool :=
  !s.injectPending p t && (s.sittersOf p).all (fun n => (s.sitter n).frames.all (fun f =>
    t.toNat < f.arrival.toNat || !(f.phase = .coded || f.phase = .decoding || f.phase = .waiting)))

/-- Q0 has a FREE buffer for every batch of the sitting (R144). -/
def State.buffersReady (s : State) (p : Nat) (k : Pkg) (t : U64) : Bool :=
  match (s.framing p).bind (fun f => f.queues[0]?) with
  | none => true
  | some fq =>
    let need := min (pkgMaxBatches k.bytes) (ceilDiv (s.scan p t).2.length fq.slots)
    need ≤ ((List.range fq.buffers).filter (fun b => s.bufState fq b = 0)).length

/-- REPLAY_SITTING: the next instant at or below T of the ADVANCE in progress (R60). -/
def execReplaySitting (p : Nat) (t : U64) (s : State) : Out :=
  if 16 ≤ p then noUnit
  else
    let P := s.part p
    match P.advance, P.pkg with
    | some (_, _, last), some k =>
      if !s.ready || !P.replay || P.state ≠ .running || P.run.isSome || t.toNat ≠ P.nextInstant P.from_.toNat || last.ult t || !s.injectedDone p t
          || !s.buffersReady p k t then .next s
      else
        let s1 := (s.setPart p { P with virtualTime := t }).reachInstant p t
        .next ((s1.sitting p k t).finishAdvance p)
    | _, _ => .next s

end Sys2Proof.Machine
end

