-- ==== Sys2Proof/Machine/Leaves.lean ====
section
/-!
DEFINITION. Dispatches at the leaves (R31, R32, R151, R155, R179, R337), the completion of a sitting (R328, R366, R369, R370), and the lending of
Easels to chunks (R331 to R336).
-/
namespace Sys2Proof.Machine

/-! ### LEAF_START (R31, R151) -/

/-- The oldest dispatch to a unit; a chunk on a lent Easel is none. -/
def State.dispTo (s : State) (unit : U16) : Option Disp := s.disps.find? (fun d => !isChunk d && d.unit = unit)

/-- The dispatch that starts a leaf next: on loan its chunk; else the first to reach it, a later dispatch to a unit having waited for the
earlier one (R31, R179). (Log 73 DEDUCED) -/
def State.reaching (s : State) (e : Nat) : Option Disp :=
  match (s.easel e).loan with
  | some l => s.disps.find? (fun d => d.issuer = .chunk l.borrower l.index && d.toStart.contains e)
  | none => s.disps.find? (fun d => !isChunk d && d.toStart.contains e && s.dispTo d.unit = some d)

/-- The first dispatch equal to `d` changed. -/
def replaceDisp (d d1 : Disp) : List Disp → List Disp
  | [] => []
  | x :: l => if x = d then d1 :: l else x :: replaceDisp d d1 l

/-- The leaf with its domain on, and as the loader left it when its last dispatch was another partition's (R337). (Log 73 DEDUCED) -/
def State.readyLeaf (s : State) (e : Nat) (d : Disp) : State :=
  if (s.easel e).loan.isSome || (s.easel e).lastPart = some d.part then s.setEasel e (s.woken e)
  else match (s.part d.part).pkg with | some k => s.rewriteLeaf d.part k e | none => s.setEasel e (s.woken e)

/-- The state a dispatch gives a leaf (R151). -/
def Easel.dispatched (E : Easel) (e : Nat) (d : Disp) (leaves : List Nat) : Easel :=
  let i := leaves.findIdx (· = e)
  let E1 : Easel := { E with running := true, stall := .none, pc := d.entry, p := 0, wdogNs := 0, s := []
                             disp := BitVec.ofNat 32 (leaves.length * 2 ^ 24 + i * 2 ^ 16 + d.unit.toNat) }
  (((E1.setSr 1 d.arg).setSr 2 (BitVec.ofNat 64 i)).setSr 3 (BitVec.ofNat 64 leaves.length)).setSr 4 (d.unit.setWidth 64)

/-- The leaf starts; an entry point that breaks R155 is an EX_FETCH fault there. -/
def State.startLeaf (s : State) (e : Nat) (d : Disp) : State :=
  let s1 := s.readyLeaf e d
  let s2 := s1.setEasel e ((s1.easel e).dispatched e d (s1.expansion d.unit.toNat))
  let s3 := { s2 with disps := replaceDisp d { d with toStart := d.toStart.erase e, running := d.running ++ [e] } s2.disps }
  if 0xE000 ≤ d.entry || d.entry % 4 ≠ 0 then s3.easelFault e exFetch 0 d.entry 0 else s3

/-- LEAF_START: a dispatch reaches a leaf that runs nothing. -/
def execLeafStart (e : Nat) (s : State) : Out :=
  if 192 ≤ e then noUnit
  else if !s.ready || (s.easel e).running then .next s
  else match s.reaching e with | none => .next s | some d => .next (s.startLeaf e d)

/-! ### Chunks (R331) -/

/-- A chunk ring entry. -/
structure Chunk where
  code  : Nat
  bytes : Nat
  entry : Nat
  arg   : U64
  need  : Nat
  gen   : Nat
  flag  : Nat
  rsv   : Bool
  deriving DecidableEq, Repr

def decodeChunk (b : List Byte) : Chunk :=
  { code := fieldLE b 0 8, bytes := fieldLE b 8 4, entry := fieldLE b 12 4, arg := BitVec.ofNat 64 (fieldLE b 16 8), need := fieldLE b 24 4
    gen := fieldLE b 28 4, flag := fieldLE b 32 8, rsv := !allZero (fieldBytes b 40 24) }

/-- Address of the entry of an absolute index. -/
def Part.chunkAt (P : Part) (i : Nat) : Nat := P.chunkRing.toNat + 64 + 64 * (i % max 1 P.chunkEntries)

def State.chunk (s : State) (p i : Nat) : Chunk := decodeChunk (s.devN ((s.part p).chunkAt i) 64)

/-- Consumer index, and the entries between it and the producer index. -/
def State.chunkConsumer (s : State) (p : Nat) : Nat := s.devLE ((s.part p).chunkRing.toNat + 4) 4
def State.chunkCount (s : State) (p : Nat) : Nat :=
  (s.devLE (s.part p).chunkRing.toNat 4 + 2 ^ 32 - s.chunkConsumer p) % 2 ^ 32

/-- An entry that breaks the table. -/
def State.chunkBad (s : State) (p : Nat) (c : Chunk) : Bool :=
  c.code % 64 ≠ 0 || c.bytes % 4 ≠ 0 || c.bytes < 4 || 57344 < c.bytes || c.entry % 4 ≠ 0 || c.bytes ≤ c.entry || c.need = 0 || 0x1F0000 < c.need
    || c.flag % 8 ≠ 0 || c.rsv || !s.within p c.code c.bytes || !s.within p c.flag 8

/-- The index of the oldest chunk that waits. -/
def State.oldestChunk (s : State) (p : Nat) : Option Nat :=
  let P := s.part p
  ((List.range (s.chunkCount p)).map (fun i => (s.chunkConsumer p + i) % 2 ^ 32)).find? (fun i => !P.chunkDone.contains i && !P.chunkOut.contains i)

/-- The consumer index passes an unbroken run of completed entries. -/
def State.passChunks (s : State) (p : Nat) : Nat → State
  | 0 => s
  | fuel + 1 =>
    let c := s.chunkConsumer p
    let P := s.part p
    if P.chunkDone.contains c then
      ((s.setPart p { P with chunkDone := P.chunkDone.filter (· ≠ c) }).setDevN (P.chunkRing.toNat + 4) (leBytes 4 ((c + 1) % 2 ^ 32))).passChunks p fuel
    else s

/-- A chunk has halted: its flag is written, it counts as completed, and the Easel returns to the lender (R334). -/
def State.chunkHalted (s : State) (e : Nat) (l : Loan) : State :=
  let c := s.chunk l.borrower l.index
  let s1 := s.setDevN (c.flag + 4) (leBytes 4 c.gen)
  let P := s1.part l.borrower
  let s2 := s1.setPart l.borrower { P with chunkDone := P.chunkDone ++ [l.index] }
  (s2.passChunks l.borrower (P.chunkDone.length + 1)).endLoan e

/-! ### LEAF_HALTED (R179) -/

/-- A leaf's HALT has nothing left to wait for: its tracks and its Primer jobs. (Log 73 DEDUCED) -/
def State.haltDone (s : State) (e : Nat) : Bool :=
  let E := s.easel e
  E.running && E.stall = .halting && E.tracks.all (fun t => t.2.isEmpty) && !(s.primer (clusterOf e)).any (fun j => j.easel = e)

/-- LEAF_HALTED: the leaf counts as halted and stays idle. -/
def execLeafHalted (e : Nat) (s : State) : Out :=
  if 192 ≤ e then noUnit
  else if !s.ready || !s.haltDone e then .next s
  else
    let s1 := s.setEasel e { s.easel e with running := false, stall := .none }
    match (s.easel e).loan with
    | some l => .next (s1.chunkHalted e l)
    | none => .next { s1 with disps := s1.disps.map (fun (d : Disp) => if d.running.contains e then { d with running := d.running.filter (· ≠ e) } else d) }

/-! ### ATELIER_COMPLETE (R32, R328) -/

/-- A byte of a weights section that the export stage writes: a code of a tensor, or a scale (R297, R370). -/
def trainedByte (w : List Byte) (i : Nat) : Bool :=
  (List.range (fieldLE w 2 2)).any (fun t =>
    let o := 32 + 32 * t
    let rows := fieldLE w (o + 4) 4
    let rb := fieldLE w (o + 12) 4
    let c := fieldLE w (o + 16) 4
    let sc := fieldLE w (o + 20) 4
    (c ≤ i && i < c + rows * rb && (i - c) % rb < fieldLE w (o + 8) 4) || (sc ≤ i && i < sc + 4 * rows))

/-- The exported section (R370): the section that the job names, with codes and scales whose values are free, for the manual says neither where
the package leaves them nor which tensors it trains. They are the same for the same inputs (R372). (Log 127 DESIGN CHOICE) -/
def State.exportSection (s : State) (p : Nat) (k : Pkg) (J : Job) : List Byte :=
  let w := pkgSection k.bytes 3 J.weights
  let area := match (s.part p).samples with | some (a, n, _) => s.devN a.toNat n | none => []
  let aug := match s.framing p with | some f => s.devN f.aug (24 * f.augRecords) | none => []
  let f := Config.exported k.bytes area (s.devN J.order.toNat (8 * J.steps * J.batch)) aug J.desc
  w.zipIdx.map (fun x => if trainedByte w x.2 then f x.2 else x.1)

/-- A training step or the export ends (R366, R369, R370). -/
def State.stepDone (s : State) (p : Nat) (k : Pkg) (r : SittingRun) : State :=
  match (s.part p).job, r.step with
  | some J, some t =>
    if t < J.steps then
      let loss : U32 := BitVec.ofNat 32 (s.devLE (k.workList + 56) 4)
      let s1 := s.setPart p { s.part p with job := some { J with done := t + 1, restarts := 0, loss := loss } }
      if J.progress ≠ 0 && (t + 1) % J.progress = 0 then s1.adaptRecord p J.job 1 (t + 1) J.steps loss ((t + 1) * J.batch) else s1
    else
      ((s.hostWrite J.exportTo.toNat (s.exportSection p k J)).setPart p { s.part p with job := none }).adaptRecord p J.job 2 J.steps J.steps J.loss (J.steps * J.batch)
  | _, _ => s

/-- The sitting's last stage has completed: a stop that waits takes effect (R322). -/
def State.sittingDone (s : State) (p : Nat) (r : SittingRun) : State :=
  let s1 := s.setPart p { s.part p with run := none }
  (match (s1.part p).pkg with | some k => s1.stepDone p k r | none => s1).finishStop p

/-- The export sitting's last stage has to wait for the host link. (Log 70 DEDUCED) -/
def State.exportWaits (s : State) (d : Disp) : Bool :=
  match d.issuer with
  | .sitting p =>
    (match (s.part p).run, (s.part p).job with
    | some r, some J => r.open_ = [d.unit] && (match r.step with | some t => J.steps ≤ t | none => false)
    | _, _ => false) && !s.busOn
  | _ => false

/-- A dispatch's issuer learns of its completion. -/
def State.dispDone (s : State) (d : Disp) : State :=
  match d.issuer with
  | .easel e bit => s.ringLeaf e (BitVec.ofNat 32 (2 ^ bit))
  | .chunk _ _ => s
  | .sitting p =>
    match (s.part p).run with
    | none => s
    | some r =>
      let r1 := { r with open_ := r.open_.filter (· ≠ d.unit) }
      if r1.open_.isEmpty then s.sittingDone p r1 else s.setPart p { s.part p with run := some r1 }

/-- ATELIER_COMPLETE: every leaf of the unit's dispatch has halted. -/
def execAtelierComplete (unit : U16) (s : State) : Out :=
  match s.dispTo unit with
  | none => .next s
  | some d =>
    if !s.ready || !d.toStart.isEmpty || !d.running.isEmpty || s.exportWaits d then .next s
    else .next (({ s with disps := s.disps.erase d } : State).dispDone d)

/-! ### Lendable Easels (R332, R336) -/

/-- Loan time in ns at which the phase's share of a sitting period is used up; none: no limit. -/
def Part.shareNs (P : Part) : Option Nat :=
  if P.beWeight = 255 then none else some ((P.period * 1000 * P.beWeight + (P.lcWeight + P.beWeight - 1)) / (P.lcWeight + P.beWeight))

/-- The start of the recall span before the next sitting instant. A replay partition's instants are not in store time. -/
def State.spanStart (s : State) (P : Part) : Nat := P.upcoming s.tb.time.toNat - P.lendLead * 1000

/-- The Easel may be lent. (Log 72 DEDUCED) -/
def State.lendable (s : State) (e : Nat) : Bool :=
  match s.owner e with
  | none => false
  | some p =>
    let P := s.part p
    let E := s.easel e
    P.state = .running && !P.be && !E.running && E.loan.isNone && bitAt E.lend.toNat 31
      && !s.disps.any (fun d => d.toStart.contains e || d.running.contains e)
      && E.tracks.all (fun t => t.2.isEmpty) && E.frontQ.isEmpty && E.backQ.isEmpty && E.palQ.isEmpty
      && !(s.primer (clusterOf e)).any (fun j => j.easel = e)
      && (match P.shareNs with | some n => decide (E.loanNs < n) | none => true)
      && (P.replay || s.tb.time.toNat < s.spanStart P)

/-- The Easel's windows hold the chunk. -/
def Easel.holdsChunk (E : Easel) (c : Chunk) : Bool := c.bytes ≤ (lendI E.lend).2 * 0x1000 && c.need ≤ (lendL E.lend).2 * 0x10000

/-! ### LOAN_START (R333) -/

/-- What the Curator does next about loans. -/
inductive LoanPick where
  | none
  | bad (p : Nat)
  | start (p index e : Nat)
  deriving DecidableEq, Repr

/-- A best-effort partition whose program has been loaded and does not restart has a chunk ring (R331). (Log 72 DEDUCED) -/
def State.chunksOf (s : State) (p : Nat) : Bool :=
  let P := s.part p
  P.be && (P.state = .running || P.state = .ready) && P.chunkEntries ≠ 0

/-- A ring that holds more than its entries (R331). -/
def State.ringOver (s : State) (p : Nat) : Bool := s.chunksOf p && decide ((s.part p).chunkEntries < s.chunkCount p)

/-- The partitions in turn: the first whose oldest waiting entry is broken, or is a chunk that a lendable Easel holds. (Log 72 DEDUCED) -/
def State.loanPick (s : State) (lendable : List Nat) : List Nat → LoanPick
  | [] => .none
  | p :: l =>
    if !s.chunksOf p then s.loanPick lendable l
    else
      match s.oldestChunk p with
      | none => s.loanPick lendable l
      | some i =>
        let c := s.chunk p i
        if s.chunkBad p c then .bad p
        else match lendable.find? (fun e => (s.easel e).holdsChunk c) with | some e => .start p i e | none => s.loanPick lendable l

/-- The Curator's choice: an overfull ring whether or not an Easel is lendable; else, with a lendable Easel, the partitions in turn after the
one that received the previous loan. (Log 10 DESIGN CHOICE) -/
def State.nextLoan (s : State) : LoanPick :=
  let l := (List.range 192).filter s.lendable
  match s.partIds.find? s.ringOver with
  | some p => .bad p
  | none => if l.isEmpty then .none else s.loanPick l ((List.range 16).map (fun i => (s.lastLoan + 1 + i) % 16))

/-- The loan starts. The doorbell mask that the chunk finds is not stated: a free value. (Log 72 DEDUCED) -/
def State.startLoan (s : State) (p i e : Nat) : State :=
  let c := s.chunk p i
  let code := s.devN c.code c.bytes
  let x := s.draw
  let E := s.easel e
  let wi := lendI E.lend
  let wl := lendL E.lend
  let L : Loan := { lender := (s.owner e).getD 0, borrower := p, index := i, db := E.db, mask := E.dbMask, mbx := E.mbx, wdog := E.wdog
                    pc := E.pc, s := E.s, p := E.p, v := E.v, d := E.d, disp := E.disp, lend := E.lend, user := E.user
                    plFlags := E.plFlags, cvCount := E.cvCount, prDone := E.prDone
                    iBase := wi.1, iSize := wi.2, lBase := wl.1, lSize := wl.2 }
  let E1 := { E with
    is := mwriteN 0 (mclear E.is (wi.1 * 0x1000) (wi.2 * 0x1000)) (wi.1 * 0x1000) code
    ls := mclear E.ls (wl.1 * 0x10000) (wl.2 * 0x10000)
    db := 0, dbMask := x.1.setWidth 32, mbx := {}, wdog := 1000000, loan := some L }
  let d : Disp := { unit := BitVec.ofNat 16 e, entry := c.entry, arg := c.arg, issuer := .chunk p i, part := p, toStart := [e], running := [] }
  let s1 := x.2.setEasel e E1
  { s1.setPart p { s1.part p with chunkOut := (s1.part p).chunkOut ++ [i] } with disps := s1.disps ++ [d], lastLoan := p }

/-- LOAN_START: the Curator starts the loan it has chosen when that is on Easel `e`; a broken ring restarts its partition (R331). -/
def execLoanStart (e : Nat) (s : State) : Out :=
  if 192 ≤ e then noUnit
  else if !s.ready then .next s
  else
    match s.nextLoan with
    | .none => .next s
    | .bad p => .next (s.partFault p { cause := 3 })
    | .start p i x =>
      if x ≠ e then .next s
      else .next (s.unitRead 6 [((s.part p).chunkAt i, 64), ((s.chunk p i).code, (s.chunk p i).bytes)] (fun s => s.startLoan p i e))

/-! ### LOAN_RECALL (R334) -/

/-- The recall's cause, once it holds; store time reaches the recall span or the share limit first. (Log 72 DEDUCED) -/
def State.recallReady (s : State) (e : Nat) (l : Loan) (c : RecallCause) : Option State :=
  let P := s.part l.lender
  match c with
  | .span => if P.replay then none else some (s.passTo (s.spanStart P))
  | .share => P.shareNs.map (fun n => s.pass (n - (s.easel e).loanNs))
  | .dispatch => if s.disps.any (fun d => !isChunk d && d.part = l.lender && d.toStart.contains e) then some s else none
  | .lenderStop => if P.state = .running then none else some s

/-- LOAN_RECALL: the chunk is discarded and the Easel returns to the lender. -/
def execLoanRecall (e : Nat) (cause : RecallCause) (s : State) : Out :=
  if 192 ≤ e then noUnit
  else if !s.ready then .next s
  else
    match (s.easel e).loan with
    | none => .next s
    | some l => match s.recallReady e l cause with | none => .next s | some s1 => .next (s1.endLoan e)

end Sys2Proof.Machine
end

