-- ==== Sys2Proof/Machine/Net.lean ====
section
/-!
DEFINITION. Frames on the wire: acceptance and the stack (R68, R69, R71), the demux (R75), the slow path (R72, R73), and PTP messages
(R41, R44).
-/
namespace Sys2Proof.Machine

/-! ### Counters of a MAC (R95) -/

def macFrames : Nat := 0
def macFcs : Nat := 1
def macOversize : Nat := 2
def macFilter : Nat := 3
def macChecksum : Nat := 4
def macEcho : Nat := 5

def State.macCount (s : State) (m j : Nat) : State := { s with ing := { s.ing with macCnt := bump48 s.ing.macCnt (8 * m + j) 1 } }

/-! ### The receive ring (R72, R73) -/

def spReasonPlain : Nat := 0
def spReasonArp : Nat := 1
def spReasonRtcp : Nat := 2
def spReasonUnmatched : Nat := 3
def spReasonFragment : Nat := 4

/-- Free bytes of a ring whose indices are offsets below its size (R504): equal indices mean an empty ring. (Log 49 DEDUCED) -/
def ringGap (size prod cons : Nat) : Nat := (cons % size + size - prod % size - 8) % size

/-- An entry of the receive ring. -/
def spEntry (mac reason : Nat) (stamp : U64) (raw : List Byte) : List Byte :=
  leBytes 4 raw.length ++ leBytes 1 mac ++ leBytes 1 reason ++ leBytes 2 0 ++ leBytes 8 stamp.toNat ++ raw
    ++ List.replicate ((8 - raw.length % 8) % 8) 0

/-- A frame copied to the receive ring, behind the pad that the end of the ring needs; one that does not fit is discarded. (Log 49 DEDUCED) -/
def State.slowPath (s : State) (mac reason : Nat) (raw : List Byte) : State :=
  let size := 2 ^ s.host.live.sprxSize.toNat
  let base := s.host.live.sprxBase.toNat
  let p := s.ing.sprxProd.toNat
  let n := spEntryLen raw.length
  let pad := if size - p % size < n then size - p % size else 0
  if s.busOn && pad + n ≤ ringGap size p s.ing.sprxCons.toNat then
    let s1 := if pad = 0 then s else s.hostWrite (base + p % size) (List.replicate (min pad 16) 0)
    let s2 := s1.hostWrite (base + (p + pad) % size) (spEntry mac reason s.tb.time raw)
    { s2 with ing := { s2.ing with sprxProd := BitVec.ofNat 64 ((p + pad + n) % size) } }
  else { s with ing := { s.ing with sprxDrop := s.ing.sprxDrop + 1 } }

/-! ### Rates (R69, R72) -/

/-- The counts of the present second of the ingress engine's clock. (Log 50 DEDUCED) -/
def State.rateWindow (s : State) : State :=
  let sec := s.clock / 1000000000
  if sec = s.ing.rateSec then s else { s with ing := { s.ing with rateSec := sec, spUsed := 0, echoUsed := [] } }

/-! ### Acceptance (R68) -/

def broadcastMac : BitVec 48 := 0xFFFFFFFFFFFF

/-- Groups that a stack belongs to without a report: all systems, and all nodes (RFC 3376, RFC 3810). -/
def allHosts : List (BitVec 128) := [addrOf [224, 0, 0, 1], addrOf [0xFF, 0x02, 0, 0, 0, 0, 0, 0, 0, 0, 0, 0, 0, 0, 0, 1]]

/-- The PTP client listens on this MAC and VLAN (R41). -/
def State.ptpHere (s : State) (mac vlan : Nat) : Bool :=
  s.host.live.usesPtp && s.host.live.ptpMac = mac && s.host.live.ptpVlan = vlan

def isPtp (b : NetBody) : Bool := match b with | .ptp _ => true | _ => false

/-- An interface accepts a frame: its own address, broadcast, or a group it has joined. (Log 49 DEDUCED) -/
def State.ifaceAccepts (s : State) (mac : Nat) (f : Frame) (x : Nat × Iface) : Bool :=
  x.2.mac = mac && x.2.vlan = f.vlan
    && (x.2.macAddr = f.dst || f.dst = broadcastMac || s.ing.members.any (fun m => m.1 = x.1 && groupMac m.2.1 = f.dst)
      || allHosts.any (fun g => groupMac g = f.dst) || (f.dst.getLsbD 0 && isPtp f.body && s.ptpHere mac f.vlan))

/-- The interfaces that accept a frame: one MAC and VLAN may have several. -/
def State.acceptors (s : State) (mac : Nat) (f : Frame) : List (Nat × Iface) := s.ing.ifaces.filter (s.ifaceAccepts mac f)

/-! ### The demux (R75) -/

/-- SSRCs latched for a sitter; RTCP entries of the sitter match only these. -/
def State.latched (s : State) (n : Nat) : List U32 :=
  s.ing.dmx.filterMap (fun x => if x.2.sitter = n && x.2.isRtp && x.2.ssrcMode = 2 then x.2.latch else none)

/-- An entry takes a datagram's contents for RTCP: an RTCP entry always does, a MUX entry goes by the payload type. -/
def Dmx.asRtcp (d : Dmx) (b : List Byte) : Bool := d.kind = 2 || (d.kind = 3 && marksRtcp b)

/-- The SSRC of a datagram: the RTP header's, or the sender's of a sender report. -/
def ssrcOf (rtcp : Bool) (b : List Byte) : Option U32 :=
  if rtcp then (parseRtcp b).map (·.ssrc) else if b.length < 12 then none else some (BitVec.ofNat 32 (fieldBE b 8 4))

/-- An entry matches the SSRC of a datagram's contents exactly. -/
def State.exactSsrc (s : State) (d : Dmx) (b : List Byte) : Bool :=
  match ssrcOf (d.asRtcp b) b with
  | none => false
  | some x =>
    if d.ssrcMode = 1 then d.ssrc = x
    else if d.kind = 2 then (s.latched d.sitter).contains x
    else d.ssrcMode = 2 && d.latch = some x

/-- An entry that takes any SSRC, and contents without one. -/
def State.anySsrc (s : State) (d : Dmx) : Bool := if d.kind = 2 then d.ssrcMode ≠ 1 && (s.latched d.sitter).isEmpty else d.openSsrc

/-- The key of a datagram. -/
def Dmx.matchesKey (d : Dmx) (u : Udp) : Bool := d.family = u.family && d.dst = u.dst && d.port = u.port

/-- The entry that a datagram picks; without ETH_INGRESS entries match nothing (R470). RTP and RTCP entries may share a key: an entry that
names the SSRC goes before one that takes any. -/
def State.pick (s : State) (u : Udp) : Option (Nat × Dmx) :=
  if !s.ethLicensed then none
  else
    let c := s.ing.dmx.filter (fun x => x.2.matchesKey u)
    (c.find? (fun x => s.exactSsrc x.2 u.payload)).or (c.find? (fun x => s.anySsrc x.2))

/-- The picked entry takes the packet: vlan, port, source, and payload type of RTP. -/
def Dmx.takes (d : Dmx) (mac vlan : Nat) (u : Udp) : Bool :=
  (d.vlan = 0xFFFF || d.vlan.toNat = vlan) && d.ports.getLsbD (mac / 4) && (d.src = 0 || d.src = u.src)
    && (d.asRtcp u.payload || d.payload = 0xFF || d.payload.toNat = payloadTypeOf u.payload)

/-- A LATCH entry latches the SSRC of the first RTP packet it accepts. -/
def State.latch (s : State) (i : Nat) (d : Dmx) (p : RtpPkt) : State :=
  if d.ssrcMode = 2 && d.latch.isNone then
    { s with ing := { s.ing with dmx := tinsert s.ing.dmx i { d with latch := some p.ssrc } } }
  else s

/-- A datagram that an entry picked: RTP of version 2 goes to the sitter's stream (R79), RTCP gives its sender report (R87) and is copied when
COPY_RTCP is set. A packet that the sitter cannot take is counted against it as filtered. -/
def State.matched (s : State) (mac vlan : Nat) (raw : List Byte) (u : Udp) (x : Nat × Dmx) : State :=
  let d := x.2
  let S := s.sitter d.sitter
  if !d.takes mac vlan u || S.sourceHost then s.setSitter d.sitter (S.ingCount ingFiltered 1)
  else if d.asRtcp u.payload then
    let s1 := if d.copyRtcp then s.slowPath mac spReasonRtcp raw else s
    match parseRtcp u.payload with | some r => s1.senderReport d.sitter r | none => s1
  else
    match parseRtp u.payload with
    | some p => (s.latch x.1 d p).rtpPacket d.sitter p s.tb.time
    | none => s.setSitter d.sitter (S.ingCount ingFiltered 1)

/-- The interface's own addresses. -/
def Iface.owns (i : Iface) (family : Nat) (a : BitVec 128) : Bool :=
  a ≠ 0 && (if family = 4 then i.ipv4.setWidth 128 = a else i.ipv6a = a || i.ipv6b = a)

/-- The first of some interfaces for which `p` holds. -/
def firstIface (l : List (Nat × Iface)) (p : Iface → Bool) : Option (Nat × Iface) := l.find? (fun x => p x.2)

/-- A datagram that no entry picked: multicast is discarded; unicast to an interface address is copied at the rate of ING_SP_RATE (R72,
R96). (Log 48 DESIGN CHOICE) -/
def State.unmatched (s : State) (mac : Nat) (l : List (Nat × Iface)) (raw : List Byte) (u : Udp) : State :=
  let s1 := { s with ing := { s.ing with unmatched := s.ing.unmatched + 1 } }
  if isMulticast u.family u.dst then s1
  else if (firstIface l (·.owns u.family u.dst)).isNone then s1.slowPath mac spReasonPlain raw
  else
    let s2 := s1.rateWindow
    if s2.ing.spUsed < s2.host.live.spRate.toNat then
      { s2 with ing := { s2.ing with spUsed := s2.ing.spUsed + 1 } }.slowPath mac spReasonUnmatched raw
    else s2

/-- A UDP datagram (R71, R75). -/
def State.datagram (s : State) (mac vlan : Nat) (l : List (Nat × Iface)) (raw : List Byte) (u : Udp) : State :=
  if !u.sumOk then s.macCount mac macChecksum
  else match s.pick u with | some x => s.matched mac vlan raw u x | none => s.unmatched mac l raw u

/-! ### The stack (R69)

Each reply leaves from the interface that owns the address asked for, to the requester's source MAC address. -/

/-- An echo request: answered at most 1,000 times a second for each MAC; a request the stack does not take goes to the slow path. -/
def State.echo (s : State) (mac : Nat) (l : List (Nat × Iface)) (f : Frame) (family : Nat) (a : BitVec 128) (payload : Nat) : State :=
  match firstIface l (fun i => i.echo && i.owns family a) with
  | none => s.slowPath mac spReasonPlain f.raw
  | some x =>
    if 1472 < payload then s.slowPath mac spReasonPlain f.raw
    else
      let s1 := s.rateWindow
      let used := tget 0 s1.ing.echoUsed mac
      if 1000 ≤ used then s1.macCount mac macEcho
      else { s1 with ing := { s1.ing with echoUsed := tset 0 s1.ing.echoUsed mac (used + 1) } }.netSend (.echoReply (viaOf x) f.src a payload)

/-- A copy of an ARP or ND frame when ARP_COPY is 1 in an interface that accepts it. -/
def State.arpCopy (s : State) (mac : Nat) (l : List (Nat × Iface)) (raw : List Byte) : State :=
  if l.any (fun x => x.2.arpCopy) then s.slowPath mac spReasonArp raw else s

/-- A PTP message. The stack consumes every one: where the client does not run, on this MAC and VLAN, it has no effect and no copy is made.
(Log 116 DESIGN CHOICE) -/
def State.ptpMessage (s : State) (mac vlan : Nat) (m : PtpMsg) : State := if s.ptpHere mac vlan then s.ptpReceive m else s

/-- An accepted frame in the stack. (Log 48 DESIGN CHOICE) -/
def State.stack (s : State) (mac : Nat) (l : List (Nat × Iface)) (f : Frame) : State :=
  match f.body with
  | .arpRequest t =>
    let s1 := s.arpCopy mac l f.raw
    match firstIface l (fun i => i.ipv4 = t && t ≠ 0) with | some x => s1.netSend (.arpReply (viaOf x) f.src t) | none => s1
  | .arpOther => s.arpCopy mac l f.raw
  | .neighborSolicitation t =>
    let s1 := s.arpCopy mac l f.raw
    match firstIface l (·.owns 6 t) with | some x => s1.netSend (.ndAdvert (viaOf x) f.src t) | none => s1
  | .ndOther => s.arpCopy mac l f.raw
  | .echo4 d n => s.echo mac l f 4 (d.setWidth 128) n
  | .echo6 d n => s.echo mac l f 6 d n
  | .groupQuery q => l.foldl (fun s x => s.answerQuery x.1 q) s
  | .ptp m => s.ptpMessage mac f.vlan m
  | .udp u => s.datagram mac f.vlan l f.raw u
  | .fragment => s.slowPath mac spReasonFragment f.raw
  | .other => s.slowPath mac spReasonPlain f.raw

/-- ETH_FRAME_RECEIVE (R68): a MAC without link receives nothing. (Log 48 DESIGN CHOICE) -/
def execEthFrameReceive (mac : Nat) (f : Frame) (s : State) : Out :=
  if 8 ≤ mac then noUnit
  else if !s.ready || !(s.port (mac / 4)).link.getLsbD (mac % 4) then .next s
  else
    let s1 := s.macCount mac macFrames
    if !f.fcsOk then .next (s1.macCount mac macFcs)
    else if 9216 < f.length then .next (s1.macCount mac macOversize)
    else
      match s1.acceptors mac f with
      | [] => .next (s1.macCount mac macFilter)
      | l => .next (if f.ipSumOk then s1.stack mac l f else s1.macCount mac macChecksum)

end Sys2Proof.Machine
end

