-- ==== Sys2Proof/Machine/Palette.lean ====
section
/-!
DEFINITION. The Palette's lane instructions (R235 to R242, R256, R257), its tensor forms (R246) and the execution of its queue (R236).
An instruction reads its operands at issue and computes from them; its writes and flags land when the queue executes it.
-/
namespace Sys2Proof.Machine

/-- A 32-bit Palette instruction at issue: its entry joins the queue of 4 (R236). -/
def palIssue (e insn : Nat) (legal : Bool) (u : Uses) (s : State) (f : Easel → PalOp) : Out :=
  issue e 4 insn legal u s (fun E => if 4 ≤ E.palQ.length then s else s.retire e 4 { E with palQ := E.palQ ++ [f E] })

/-- A vector result with flags from flagged lanes. -/
def lanesX (a : Nat) (l : List FX) : PalOp := .write [(a, l.map (·.v))] none (l.foldl (fun f x => f ||| x.f) 0)

/-- A vector result without flags. -/
def lanesI (a : Nat) (l : Lanes) : PalOp := .write [(a, l)] none 0

/-- v[A] = v[B] op v[C] on i32 lanes (R238). -/
def vecInt (e major k f : Nat) (a b c : RegF) (op : BitVec 32 → BitVec 32 → BitVec 32) (s : State) : Out :=
  palIssue e (wordR major k f c.toNat b.toNat a.toNat) true { vr := [b.toNat, c.toNat], vwPal := [a.toNat] } s
    (fun E => lanesI a.toNat (List.zipWith op (E.vr b.toNat) (E.vr c.toNat)))

/-- v[A] = v[B] op v[C] on f32 lanes; K is reserved (R238, R239). -/
def vecFlt (e f : Nat) (k : BitVec 7) (a b c : RegF) (legal : Bool) (op : FX → FX → FX) (s : State) : Out :=
  palIssue e (wordR 0x29 k.toNat f c.toNat b.toNat a.toNat) (k = 0 && legal) { vr := [b.toNat, c.toNat], vwPal := [a.toNat] } s
    (fun E => lanesX a.toNat (List.zipWith (fun x y => op (fx x) (fx y)) (E.vr b.toNat) (E.vr c.toNat)))

/-- A scalar result s[A] from v[B] (majors 0x2E); K and C are reserved (R238). -/
def vecRed (e f : Nat) (k : BitVec 7) (a b c : RegF) (op : Lanes → U64 × BitVec 5) (s : State) : Out :=
  palIssue e (wordR 0x2E k.toNat f c.toNat b.toNat a.toNat) (k = 0 && c = 0) { sr := [a.toNat], vr := [b.toNat] } s
    (fun E => let r := op (E.vr b.toNat); .write [] (some (a.toNat, r.1)) r.2)

/-- VADD (R238). -/
def execVadd (e : Nat) (a b c : RegF) (s : State) : Out := vecInt e 0x28 0 0 a b c (fun x y => x + y) s
/-- VSUB (R238). -/
def execVsub (e : Nat) (a b c : RegF) (s : State) : Out := vecInt e 0x28 0 1 a b c (fun x y => x - y) s
/-- VMUL (R238). -/
def execVmul (e : Nat) (a b c : RegF) (s : State) : Out := vecInt e 0x28 0 2 a b c (fun x y => x * y) s
/-- VMIN (R238). -/
def execVmin (e : Nat) (a b c : RegF) (s : State) : Out := vecInt e 0x28 0 3 a b c (fun x y => if x.slt y then x else y) s
/-- VMAX (R238). -/
def execVmax (e : Nat) (a b c : RegF) (s : State) : Out := vecInt e 0x28 0 4 a b c (fun x y => if x.slt y then y else x) s
/-- VAND (R238). -/
def execVand (e : Nat) (a b c : RegF) (s : State) : Out := vecInt e 0x28 0 5 a b c (fun x y => x &&& y) s
/-- VOR (R238). -/
def execVor (e : Nat) (a b c : RegF) (s : State) : Out := vecInt e 0x28 0 6 a b c (fun x y => x ||| y) s
/-- VXOR (R238). -/
def execVxor (e : Nat) (a b c : RegF) (s : State) : Out := vecInt e 0x28 0 7 a b c (fun x y => x ^^^ y) s
/-- VSLL (R238). -/
def execVsll (e : Nat) (a b c : RegF) (s : State) : Out := vecInt e 0x28 1 0 a b c (fun x y => x <<< (y.toNat % 32)) s
/-- VSRL (R238). -/
def execVsrl (e : Nat) (a b c : RegF) (s : State) : Out := vecInt e 0x28 1 1 a b c (fun x y => x >>> (y.toNat % 32)) s
/-- VSRA (R238). -/
def execVsra (e : Nat) (a b c : RegF) (s : State) : Out := vecInt e 0x28 1 2 a b c (fun x y => x.sshiftRight (y.toNat % 32)) s
/-- VFADD (R238, R239). -/
def execVfadd (e : Nat) (k : BitVec 7) (a b c : RegF) (s : State) : Out := vecFlt e 0 k a b c true xadd s
/-- VFSUB (R238, R239). -/
def execVfsub (e : Nat) (k : BitVec 7) (a b c : RegF) (s : State) : Out := vecFlt e 1 k a b c true xsub s
/-- VFMUL (R238, R239). -/
def execVfmul (e : Nat) (k : BitVec 7) (a b c : RegF) (s : State) : Out := vecFlt e 2 k a b c true xmul s
/-- VFMIN (R238, R239). -/
def execVfmin (e : Nat) (k : BitVec 7) (a b c : RegF) (s : State) : Out := vecFlt e 3 k a b c true xmin s
/-- VFMAX (R238, R239). -/
def execVfmax (e : Nat) (k : BitVec 7) (a b c : RegF) (s : State) : Out := vecFlt e 4 k a b c true xmax s
/-- VFDIV (R238, R239). -/
def execVfdiv (e : Nat) (k : BitVec 7) (a b c : RegF) (s : State) : Out := vecFlt e 5 k a b c true xdiv s
/-- VFSQRT (R238, R239). -/
def execVfsqrt (e : Nat) (k : BitVec 7) (a b c : RegF) (s : State) : Out := vecFlt e 6 k a b c (c = 0) (fun x _ => xsqrt x) s
/-- VFABS (R238, R239). -/
def execVfabs (e : Nat) (k : BitVec 7) (a b c : RegF) (s : State) : Out := vecFlt e 7 k a b c (c = 0) (fun x _ => ⟨if fIsNan x.v then fNan else fAbs x.v, 0⟩) s

/-- VCMP: all ones where the condition holds; K[0] selects i32 or f32 (R238, R239). -/
def execVcmp (e : Nat) (k : BitVec 7) (f : BitVec 3) (a b c : RegF) (s : State) : Out :=
  palIssue e (wordR 0x2A k.toNat f.toNat c.toNat b.toNat a.toNat) (k.toNat < 2 && f.toNat < 4)
    { vr := [b.toNat, c.toNat], vwPal := [a.toNat] } s
    (fun E => lanesI a.toNat (List.zipWith (fun x y => if laneCond (k = 1) f.toNat x y then 0xFFFFFFFF else 0) (E.vr b.toNat) (E.vr c.toNat)))

/-- VSEL: v[A] = (v[K[4:0]] ≠ 0) ? v[B] : v[C] (R238). -/
def execVsel (e : Nat) (k : BitVec 7) (a b c : RegF) (s : State) : Out :=
  palIssue e (wordR 0x2B k.toNat 0 c.toNat b.toNat a.toNat) (k.toNat < 32)
    { vr := [k.toNat, b.toNat, c.toNat], vwPal := [a.toNat] } s
    (fun E => lanesI a.toNat (List.zipWith (fun m x => if m ≠ 0 then x.1 else x.2) (E.vr k.toNat) ((E.vr b.toNat).zip (E.vr c.toNat))))

/-- VBCAST (R238). -/
def execVbcast (e : Nat) (k : BitVec 7) (a b c : RegF) (s : State) : Out :=
  palIssue e (wordR 0x2B k.toNat 1 c.toNat b.toNat a.toNat) (k = 0 && c = 0) { sr := [b.toNat], vwPal := [a.toNat] } s
    (fun E => lanesI a.toNat (List.replicate 64 ((E.sr b.toNat).setWidth 32)))

/-- VGET: s[A] = lane K[5:0] of v[B], zero-extended (R238). -/
def execVget (e : Nat) (k : BitVec 7) (a b c : RegF) (s : State) : Out :=
  palIssue e (wordR 0x2B k.toNat 2 c.toNat b.toNat a.toNat) (k.toNat < 64 && c = 0) { sr := [a.toNat], vr := [b.toNat] } s
    (fun E => .write [] (some (a.toNat, ((E.vr b.toNat).getD k.toNat 0).setWidth 64)) 0)

/-- VPUT: lane K[5:0] of v[A] = s[B][31:0] (R238). -/
def execVput (e : Nat) (k : BitVec 7) (a b c : RegF) (s : State) : Out :=
  palIssue e (wordR 0x2B k.toNat 3 c.toNat b.toNat a.toNat) (k.toNat < 64 && c = 0)
    { sr := [b.toNat], vr := [a.toNat], vwPal := [a.toNat] } s
    (fun E => lanesI a.toNat ((E.vr a.toNat).set k.toNat ((E.sr b.toNat).setWidth 32)))

/-- VPERM: lane l of v[A] = lane (v[C] lane l mod 64) of v[B] (R238). -/
def execVperm (e : Nat) (k : BitVec 7) (a b c : RegF) (s : State) : Out :=
  palIssue e (wordR 0x2B k.toNat 4 c.toNat b.toNat a.toNat) (k = 0) { vr := [b.toNat, c.toNat], vwPal := [a.toNat] } s
    (fun E => lanesI a.toNat ((E.vr c.toNat).map (fun i => (E.vr b.toNat).getD (i.toNat % 64) 0)))

/-- VIOTA: lane l = s[B][31:0] + l (R238). -/
def execViota (e : Nat) (k : BitVec 7) (a b c : RegF) (s : State) : Out :=
  palIssue e (wordR 0x2B k.toNat 5 c.toNat b.toNat a.toNat) (k = 0 && c = 0) { sr := [b.toNat], vwPal := [a.toNat] } s
    (fun E => lanesI a.toNat ((List.range 64).map (fun l => (E.sr b.toNat).setWidth 32 + BitVec.ofNat 32 l)))

/-- One lane of VCVT (R219, R238). -/
def cvtLane (f : Nat) (x : BitVec 32) : FX :=
  match f with
  | 0 => fx (i32ToF x)
  | 1 => let r := fToInt x (-2147483648) 2147483647; ⟨BitVec.ofInt 32 r.1, satFlag r.2⟩
  | 2 => let r := convElem 4 x; ⟨BitVec.ofNat 32 r.1, r.2⟩
  | 3 => let r := convElem 5 x; ⟨BitVec.ofNat 32 r.1, r.2⟩
  | 4 => let r := encodeSat fmtE4M3 (fv x); ⟨BitVec.ofNat 32 r.1, satFlag r.2⟩
  | 5 => let r := encodeSat fmtE5M2 (fv x); ⟨BitVec.ofNat 32 r.1, satFlag r.2⟩
  | _ => let r := fToInt x (-127) 127; ⟨(BitVec.ofInt 8 r.1).setWidth 32, satFlag r.2⟩

/-- VCVT (R238). -/
def execVcvt (e : Nat) (k : BitVec 7) (f : BitVec 3) (a b c : RegF) (s : State) : Out :=
  palIssue e (wordR 0x2C k.toNat f.toNat c.toNat b.toNat a.toNat) (f.toNat < 7 && k = 0 && c = 0) { vr := [b.toNat], vwPal := [a.toNat] } s
    (fun E => lanesX a.toNat ((E.vr b.toNat).map (cvtLane f.toNat)))

/-- VACT: activation K[2:0] (R242). -/
def execVact (e : Nat) (k : BitVec 7) (f : BitVec 3) (a b c : RegF) (s : State) : Out :=
  palIssue e (wordR 0x2D k.toNat f.toNat c.toNat b.toNat a.toNat) (k.toNat < 8 && f = 0 && c = 0) { vr := [b.toNat], vwPal := [a.toNat] } s
    (fun E => lanesX a.toNat ((E.vr b.toNat).map (fun x => activate k.toNat (fx x))))

/-- VSUM: the lane tree of R241 (R238). -/
def execVsum (e : Nat) (k : BitVec 7) (a b c : RegF) (s : State) : Out :=
  vecRed e 0 k a b c (fun l => let r := laneTree (l.map fx); (r.v.setWidth 64, r.f)) s

/-- VMAXR: the largest lane under the VFMAX rules (R238, R239). -/
def execVmaxr (e : Nat) (k : BitVec 7) (a b c : RegF) (s : State) : Out :=
  vecRed e 1 k a b c (fun l => ((l.tail.foldl fmax (fmax (l.headD 0) (l.headD 0))).setWidth 64, 0)) s

/-- Lanes with their indices. -/
def withIndex (l : Lanes) : List (BitVec 32 × BitVec 32) := l.zip ((List.range l.length).map (BitVec.ofNat 32))

/-- VARGMAX: the first lane under the key order (R238, R256). -/
def execVargmax (e : Nat) (k : BitVec 7) (a b c : RegF) (s : State) : Out :=
  vecRed e 2 k a b c (fun l => ((((keySort (withIndex l)).headD (0, 0)).2).setWidth 64, 0)) s

/-- VISUM: i32 sum modulo 2^32, sign-extended (R238). -/
def execVisum (e : Nat) (k : BitVec 7) (a b c : RegF) (s : State) : Out :=
  vecRed e 3 k a b c (fun l => ((l.foldl (· + ·) 0).signExtend 64, 0)) s

/-- A VLD or VST: alignment and extent (R240), then the interlocks. (Log 87 DEDUCED) -/
def palMem (e insn : Nat) (legal : Bool) (u : Uses) (b : RegF) (n : Nat) (write : Bool) (s : State) (f : Easel → Nat → PalOp) : Out :=
  issue e 4 insn legal u s (fun E =>
    let x := (E.sr b.toNat).toNat
    if x % 64 ≠ 0 || E.lsLimit < x + n then s.easelFault e exPaletteRange insn x b.toNat
    else if 4 ≤ E.palQ.length || s.lsStall e x n write then s
    else s.retire e 4 { E with palQ := E.palQ ++ [f E x] })

/-- VLD (R238, R240). -/
def execVld (e : Nat) (k : BitVec 7) (f : BitVec 3) (a b c : RegF) (s : State) : Out :=
  palMem e (wordR 0x2F k.toNat f.toNat c.toNat b.toNat a.toNat) (k = 0 && c = 0) { sr := [b.toNat], vwPal := [a.toNat] } b
    (vldBytes f.toNat) false s (fun _ x => .load a.toNat f.toNat x)

/-- VST (R238, R240). -/
def execVst (e : Nat) (k : BitVec 7) (f : BitVec 3) (a b c : RegF) (s : State) : Out :=
  palMem e (wordR 0x30 k.toNat f.toNat c.toNat b.toNat a.toNat) (f.toNat < 3 && k = 0 && c = 0) { sr := [b.toNat], vr := [a.toNat] } b
    (vstBytes f.toNat) true s (fun E x => .store (E.vr a.toNat) f.toNat x)

/-- VRS: steps 2 and 3 of R231 (R238). -/
def execVrs (e : Nat) (k : BitVec 7) (f : BitVec 3) (a b c : RegF) (s : State) : Out :=
  palIssue e (wordR 0x31 k.toNat f.toNat c.toNat b.toNat a.toNat) (f = 0 && k.toNat < 64)
    { sr := [k.toNat % 32], vr := [b.toNat, c.toNat], vwPal := [a.toNat] } s
    (fun E =>
      let sc := fx ((E.sr (k.toNat % 32)).setWidth 32)
      let cv (x : BitVec 32) : FX := fx (if k.toNat < 32 then i32ToF x else x)
      lanesX a.toNat (List.zipWith (fun x y => xmul (xmul (cv x) sc) (fx y)) (E.vr b.toNat) (E.vr c.toNat)))

/-- VCORR: one term of step 5 of R231 (R238). -/
def execVcorr (e : Nat) (k : BitVec 7) (f : BitVec 3) (a b c : RegF) (s : State) : Out :=
  palIssue e (wordR 0x32 k.toNat f.toNat c.toNat b.toNat a.toNat) (f = 0 && k.toNat < 32)
    { sr := [k.toNat], vr := [a.toNat, b.toNat, c.toNat], vwPal := [a.toNat] } s
    (fun E =>
      let sc := fx ((E.sr k.toNat).setWidth 32)
      lanesX a.toNat (List.zipWith (fun x yz => xadd (fx x) (xmul (xmul (fx (i32ToF yz.1)) sc) (fx yz.2)))
        (E.vr a.toNat) ((E.vr b.toNat).zip (E.vr c.toNat))))

/-- A lane instruction on register groups: a misaligned group is EX_PALETTE_OPERAND with its register number (R238, R269). -/
def palGroup (e insn : Nat) (legal : Bool) (u : Uses) (badReg : Option Nat) (s : State) (f : Easel → PalOp) : Out :=
  issue e 4 insn legal u s (fun E =>
    match badReg with
    | some r => s.easelFault e exPaletteOperand insn 0 r
    | none => if 4 ≤ E.palQ.length then s else s.retire e 4 { E with palQ := E.palQ ++ [f E] })

/-- VSORT: sorts the 64 pairs of v[A], v[A+1]; A even (R238, R256). -/
def execVsort (e : Nat) (k : BitVec 7) (a b c : RegF) (s : State) : Out :=
  palGroup e (wordR 0x33 k.toNat 0 c.toNat b.toNat a.toNat) (k = 0 && b = 0 && c = 0)
    { vr := [a.toNat, a.toNat + 1], vwPal := [a.toNat, a.toNat + 1] } (if a.toNat % 2 = 1 then some a.toNat else none) s
    (fun E =>
      let l := keySort ((E.vr a.toNat).zip (E.vr (a.toNat + 1)))
      .write [(a.toNat, l.map (·.1)), (a.toNat + 1, l.map (·.2))] none 0)

/-- VMERGE: sorts the 128 pairs of both groups; the first 64 go to A (R238, R256). -/
def execVmerge (e : Nat) (k : BitVec 7) (a b c : RegF) (s : State) : Out :=
  palGroup e (wordR 0x33 k.toNat 1 c.toNat b.toNat a.toNat) (k = 0 && c = 0)
    { vr := [a.toNat, a.toNat + 1, b.toNat, b.toNat + 1], vwPal := [a.toNat, a.toNat + 1, b.toNat, b.toNat + 1] }
    (if a.toNat % 2 = 1 then some a.toNat else if b.toNat % 2 = 1 || a = b then some b.toNat else none) s
    (fun E =>
      let l := keySort ((E.vr a.toNat).zip (E.vr (a.toNat + 1)) ++ (E.vr b.toNat).zip (E.vr (b.toNat + 1)))
      .write [(a.toNat, (l.take 64).map (·.1)), (a.toNat + 1, (l.take 64).map (·.2)),
              (b.toNat, (l.drop 64).map (·.1)), (b.toNat + 1, (l.drop 64).map (·.2))] none 0)

/-- The box in lane l of four registers. -/
def laneBox (E : Easel) (r l : Nat) : BitVec 32 × BitVec 32 × BitVec 32 × BitVec 32 :=
  ((E.vr r).getD l 0, (E.vr (r + 1)).getD l 0, (E.vr (r + 2)).getD l 0, (E.vr (r + 3)).getD l 0)

/-- VIOU (R238, R257). -/
def execViou (e : Nat) (k : BitVec 7) (a b c : RegF) (s : State) : Out :=
  palGroup e (wordR 0x34 k.toNat 0 c.toNat b.toNat a.toNat) (k.toNat < 64)
    { vr := (List.range 4).map (b.toNat + ·) ++ (List.range 4).map (c.toNat + ·), vwPal := [a.toNat] }
    (if b.toNat % 4 ≠ 0 then some b.toNat else if c.toNat % 4 ≠ 0 then some c.toNat else none) s
    (fun E => lanesX a.toNat ((List.range 64).map (fun l => iou (laneBox E b.toNat l) (laneBox E c.toNat k.toNat))))

/-! ### Tensor forms (R246) -/

/-- A tensor form at issue: block read and checked, interlocks, then a place in the queue (R246, R269). -/
def formIssue (form e : Nat) (r : RegF) (rsv : BitVec 52) (s : State) : Out :=
  let insn := wordForm (0x20 + form) r rsv
  issue e 8 insn (rsv = 0) { sr := [r.toNat] } s (fun E =>
    let x := (E.sr r.toNat).toNat
    if E.lsLimit < x + 128 then s.easelFault e exPaletteRange insn x 0xFFFF
    else if s.lsStall e x 128 false then s
    else
      let b := E.rdLs x 128
      let p := decodePBlock b
      match pParamCheck form p with
      | some d => s.easelFault e exPaletteParam insn 0 d
      | none =>
        match pRangeCheck form p E.lsLimit with
        | some d => s.easelFault e exPaletteRange insn 0 d
        | none =>
          if 4 ≤ E.palQ.length || (pInputs form p).any (fun i => s.lsStall e i.2.1 i.2.2 false)
              || (pOutputs form p).any (fun o => s.lsStall e o.2.1 o.2.2 true) then s
          else s.retire e 8 { E with palQ := E.palQ ++ [.tensor form b] })

/-- PQUANT (R249). -/
def execPquant (e : Nat) (r : RegF) (rsv : BitVec 52) (s : State) : Out := formIssue 0 e r rsv s
/-- PSOFTMAX (R250). -/
def execPsoftmax (e : Nat) (r : RegF) (rsv : BitVec 52) (s : State) : Out := formIssue 1 e r rsv s
/-- PLNORM (R251). -/
def execPlnorm (e : Nat) (r : RegF) (rsv : BitVec 52) (s : State) : Out := formIssue 2 e r rsv s
/-- PRMSNORM (R251). -/
def execPrmsnorm (e : Nat) (r : RegF) (rsv : BitVec 52) (s : State) : Out := formIssue 3 e r rsv s
/-- PPOOL (R252). -/
def execPpool (e : Nat) (r : RegF) (rsv : BitVec 52) (s : State) : Out := formIssue 4 e r rsv s
/-- PDWCONV (R253). -/
def execPdwconv (e : Nat) (r : RegF) (rsv : BitVec 52) (s : State) : Out := formIssue 5 e r rsv s
/-- PGCONV (R253). -/
def execPgconv (e : Nat) (r : RegF) (rsv : BitVec 52) (s : State) : Out := formIssue 6 e r rsv s
/-- PEWISE (R254). -/
def execPewise (e : Nat) (r : RegF) (rsv : BitVec 52) (s : State) : Out := formIssue 7 e r rsv s

/-! ### The queue (R236) -/

/-- One element of a VLD as a lane (R216, R219, R238). -/
def vldLane (fmt : Nat) (b : List Byte) (l : Nat) : BitVec 32 :=
  match fmt with
  | 0 => BitVec.ofNat 32 (fieldLE b (4 * l) 4)
  | 1 => let c := fieldLE b l 1; if c = 0x80 then 0 else (BitVec.ofNat 8 c).signExtend 32
  | 2 => BitVec.ofNat 32 (fieldLE b l 1)
  | 3 => widenF fmtBF16 (fieldLE b (2 * l) 2)
  | 4 => widenF fmtFP16 (fieldLE b (2 * l) 2)
  | 5 => widenF fmtE4M3 (fieldLE b l 1)
  | 6 => widenF fmtE5M2 (fieldLE b l 1)
  | _ => let c := fieldLE b (l / 2) 1 / 16 ^ (l % 2) % 16; if c = 8 then 0 else (BitVec.ofNat 4 c).signExtend 32

/-- Bytes a VST stores (R238). -/
def vstData (fmt : Nat) (v : Lanes) : List Byte :=
  v.flatMap (fun x => leBytes (if fmt = 0 then 4 else if fmt = 1 then 1 else 2) x.toNat)

/-- What a queue entry does. -/
def Easel.runPalOp (E : Easel) : PalOp → Easel
  | .write vs sc fl =>
    let E1 := vs.foldl (fun E x => E.setVr x.1 x.2) E
    let E2 := match sc with | none => E1 | some x => E1.setSr x.1 x.2
    E2.orPl fl
  | .load a f x => E.setVr a ((List.range 64).map (vldLane f (E.rdLs x (vldBytes f))))
  | .store v f x => E.wrLs (placeBytes x (vstData f v))
  | .tensor f b => let r := runForm E.rdLs f b; (E.wrLs r.1).orPl r.2

/-- PALETTE_QUEUE_EXECUTE: the oldest entry executes (R236). -/
def execPaletteQueueExecute (e : Nat) (s : State) : Out :=
  if 192 ≤ e then noUnit
  else if s.board.clocksStopped then .next s
  else
    let E := s.easel e
    match E.palQ with
    | [] => .next s
    | o :: q => .next (s.setEasel e ({ E with palQ := q }.runPalOp o))

end Sys2Proof.Machine
end

