-- ==== Sys2Proof/Machine/Primer.lean ====
section
/-!
DEFINITION. The Primer's instructions and its jobs (R259 to R266).
-/
namespace Sys2Proof.Machine

/-- A launch: the block is read and checked, and the job joins the cluster's queue of 16 (R259, R260, R264). -/
def launch (e len insn : Nat) (legal : Bool) (r : RegF) (u : Uses) (fl : Easel → Option (Nat × U32)) (s : State) : Out :=
  issue e len insn legal u s (fun E =>
    let x := (E.sr r.toNat).toNat
    if x % 64 ≠ 0 || E.lsLimit < x + 128 then s.easelFault e exPrimerRange insn x 0xFFFF
    else if s.lsStall e x 128 false then s
    else
      let b := E.rdLs x 128
      let j := decodeJBlock b
      match jParamCheck j with
      | some d => s.easelFault e exPrimerParam insn 0 d
      | none =>
        match jRangeCheck j E.lsLimit with
        | some d => s.easelFault e exPrimerRange insn 0 d
        | none =>
          match s.devCheck e (jInputs j ++ if j.dstSpace = 1 then [] else (jOutputs j).map (fun o => (o.2.1, o.2.2))) s.reachable with
          | some a => s.easelFault e a.1 insn a.2 0
          | none =>
            match s.flagCheck e (fl E) with
            | some a => s.easelFault e a.1 insn a.2 0
            | none =>
              let q := s.primer (clusterOf e)
              if 16 ≤ q.length || 4 ≤ (q.filter (fun y => y.easel = e)).length
                  || (j.dstSpace = 1 && (jOutputs j).any (fun o => s.lsStall e o.2.1 o.2.2 true)) then s
              else
                (s.retire e len E).setPrimer (clusterOf e) (q ++ [{ easel := e, block := b, flag := fl E, part := s.workPart e, pc := E.pc, insn := BitVec.ofNat 64 insn }]))

/-- PLAUNCH (R260). -/
def execPlaunch (e : Nat) (k : BitVec 7) (f : BitVec 3) (a b c : RegF) (s : State) : Out :=
  launch e 4 (wordR 0x3C k.toNat f.toNat c.toNat b.toNat a.toNat) (k = 0 && f = 0 && a = 0 && c = 0) b { sr := [b.toNat] }
    (fun _ => none) s

/-- PLAUNCH.F: with a completion flag (R260). -/
def execPlaunchF (e : Nat) (r rf rg : RegF) (rsv : BitVec 42) (s : State) : Out :=
  launch e 8 (rsv.toNat * 2 ^ 22 + rg.toNat * 2 ^ 17 + rf.toNat * 2 ^ 12 + r.toNat * 2 ^ 7 + 0x30 * 2 + 1) (rsv = 0) r
    { sr := [r.toNat, rf.toNat, rg.toNat] } (fun E => flagOf E rf rg) s

/-- PWAIT: goes on when no Primer job of the Easel is left (R260). -/
def execPwait (e : Nat) (k : BitVec 7) (f : BitVec 3) (a b c : RegF) (s : State) : Out :=
  issue e 4 (wordR 0x3D k.toNat f.toNat c.toNat b.toNat a.toNat) (k = 0 && f = 0 && a = 0 && b = 0 && c = 0) {} s (fun E =>
    if (s.primer (clusterOf e)).any (fun j => j.easel = e) then s else s.retire e 4 E)

/-- PRIMER_JOB_START: the oldest job starts; an activation code above 7 ends it with EX_PRIMER_PARAM (R264). -/
def execPrimerJobStart (cluster : Nat) (s : State) : Out :=
  if 24 ≤ cluster then noUnit
  else if s.board.clocksStopped then .next s
  else
    match s.primer cluster with
    | [] => .next s
    | j :: q =>
      if j.started then .next s
      else
        let acts := jActs s.devN (decodeJBlock j.block)
        if acts.any (fun a => 7 < a) then .next ((s.setPrimer cluster q).easelFaultAt j.easel j.pc exPrimerParam j.insn.toNat 0 64)
        else .next (s.setPrimer cluster ({ j with started := true, acts := acts } :: q))

/-- A job's output reaches its destination (R262). -/
def State.jobOutput (s : State) (b : JBlock) (j : PrimerJob) (ws : List (Nat × Byte)) (k : State → State) : State :=
  if b.dstSpace = 1 then k (s.setEasel j.easel ((s.easel j.easel).wrLs ws)) else s.programWrite 2 j.part ws k

/-- PRIMER_JOB_COMPLETE: the running job writes its output, then its flag (R262, R263). A word that cannot be corrected is
EX_PRIMER_UNCORRECTABLE at the launching Easel (R265), and the word's owner restarts (R395). (Log 103 DESIGN CHOICE) -/
def execPrimerJobComplete (cluster : Nat) (s : State) : Out :=
  if 24 ≤ cluster then noUnit
  else if s.board.clocksStopped then .next s
  else
    match s.primer cluster with
    | [] => .next s
    | j :: q =>
      if !j.started then .next s
      else
        let b := decodeJBlock j.block
        let s0 := s.setPrimer cluster q
        let (s1, bad) := s0.readCheck 2 (jInputs b)
        if bad.isEmpty then
          .next (s1.jobOutput b j (runJob s.devN b j.acts) (fun s =>
            let E := s.easel j.easel
            (s.setEasel j.easel { E with prDone := E.prDone + 1 }).writeFlag j.easel j.flag))
        else .next (bad.foldl (fun s a => s.uncorrectable 2 a) (s1.easelFaultAt j.easel j.pc exPrimerUncorrectable j.insn.toNat 0 0))

end Sys2Proof.Machine
end

