-- ==== Sys2Proof/Machine/Sitters.lean ====
section
/-!
DEFINITION. The sitter commands (R316 to R320, R125), and the start of a track epoch (R345).
-/
namespace Sys2Proof.Machine

/-! ### Track epochs (R345) -/

/-- The tracker's header at the start of an epoch. -/
def State.trackerHeader (s : State) (n : Nat) : State :=
  let S := s.sitter n
  if S.trackerState = 0 then s
  else s.setDevN S.trackerState.toNat (leBytes 2 S.curEpoch.toNat ++ leBytes 2 1 ++ leBytes 4 S.curTrack.toNat ++ List.replicate 8 0)

/-- A new epoch of a registered sitter, at a partition restart; in a replay partition its values come from the registration. -/
def State.newEpoch (s : State) (n : Nat) : State :=
  let S := s.sitter n
  let replay := (s.part S.partition).replay
  (s.setSitter n { S with curEpoch := if replay then S.regEpoch else S.curEpoch + 1, curTrack := if replay then S.regTrack else 1, epochs := S.epochs + 1 }).trackerHeader n

/-! ### Errors (R320, R125) -/

def sitBad : Nat := 0x0A01
def sitPartition : Nat := 0x0A03
def sitShareFull : Nat := 0x0A04
def sitRing : Nat := 0x0A05
def sitTracker : Nat := 0x0A06
def sitNoBatches : Nat := 0x0A07
def decLimitBad : Nat := 0x0701
def decPictureMemory : Nat := 0x0702
def decStillFull : Nat := 0x0703

/-- The fields of an entry that host software supplies (R316). -/
def decodeSitter (b : List Byte) : Sitter :=
  { partition := fieldLE b 1 1, codec := fieldLE b 2 1, flags := BitVec.ofNat 8 (fieldLE b 3 1), maxWidth := fieldLE b 4 2, maxHeight := fieldLE b 6 2
    maxRefs := fieldLE b 8 1, bitDepth := fieldLE b 9 1, hold := fieldLE b 10 1, resultRing := fieldLE b 11 1, archiveRing := fieldLE b 12 1
    damageTh := fieldLE b 14 2, staleUs := fieldLE b 16 4, budgetUs := fieldLE b 20 4, epoch := BitVec.ofNat 16 (fieldLE b 24 2)
    nextTrack := BitVec.ofNat 32 (fieldLE b 28 4), trackerState := BitVec.ofNat 64 (fieldLE b 40 8), esKib := fieldLE b 60 4 }

/-- Reserved fields 0 and the fields outside R103 in range. (Log 59 DEDUCED) -/
def sitterFieldsOk (b : List Byte) : Bool :=
  let S := decodeSitter b
  S.partition ≤ 15 && S.flags.toNat < 16 && S.resultRing ≤ 63 && (if S.archive then S.archiveRing ≤ 63 else S.archiveRing = 0xFF) && fieldLE b 13 1 = 0
    && S.damageTh ≤ 1024 && 1 ≤ S.staleUs && S.staleUs ≤ 60000000 && 1 ≤ S.budgetUs && S.budgetUs ≤ 60000000 && fieldLE b 26 2 = 0
    && S.trackerState.toNat % 64 = 0 && (S.esKib = 0 || (isPow2 S.esKib && 64 ≤ S.esKib && S.esKib ≤ 65536))

/-- The limits of R103. (Log 59 DEDUCED) -/
def limitsOk (S : Sitter) : Bool :=
  let lo := if S.codec = 2 then 1 else 16
  S.codec ≤ 2 && lo ≤ S.maxWidth && S.maxWidth ≤ 8192 && lo ≤ S.maxHeight && S.maxHeight ≤ 8192
    && (if S.codec = 2 then S.maxRefs = 0 else 1 ≤ S.maxRefs && S.maxRefs ≤ 16) && (S.bitDepth = 8 || (S.bitDepth = 10 && S.codec = 1))
    && 1 ≤ S.hold && S.hold ≤ 8

/-- SIT_UPDATE keeps every other supplied field. -/
def sameFixed (S T : Sitter) : Bool :=
  S.partition = T.partition && S.codec = T.codec && S.sourceHost = T.sourceHost && S.still = T.still && S.maxWidth = T.maxWidth
    && S.maxHeight = T.maxHeight && S.maxRefs = T.maxRefs && S.bitDepth = T.bitDepth && S.hold = T.hold && S.trackerState = T.trackerState && S.esKib = T.esKib

/-- The header of the tracker's state lies in the partition's usable memory (SIT_TRACKER). -/
def State.trackerOk (s : State) (S : Sitter) : Bool :=
  let r := (S.trackerState.toNat, 16)
  S.trackerState = 0 || (rangeIn r (fun w => match w with | .gddr _ _ => true | .gallery _ _ => true | _ => false) && s.ownsRange S.partition r)

/-- A sitter's rings exist and have the right use (SIT_RING). -/
def State.ringsOk (s : State) (S : Sitter) : Bool :=
  let ok (r use : Nat) : Bool := (s.ring r).defined && (s.ring r).use = use
  ok S.resultRing 0 && (!S.archive || ok S.archiveRing 1)

/-- The first error of R320 for SIT_REGISTER (`update` false) or SIT_UPDATE. (Log 59 DEDUCED) -/
def State.sitterCode (s : State) (n : Nat) (b : List Byte) (update : Bool) : Nat :=
  let S := decodeSitter b
  let T := s.sitter n
  let replay := match s.part? S.partition with | some P => P.replay | none => false
  firstCode [
    (!sitterFieldsOk b || (replay && !S.sourceHost) || (S.sourceHost && !T.sourceHost && !(s.dmxOf n).isEmpty)
      || (update && T.state ≠ 0 && !sameFixed S T), sitBad),
    (update && T.state = 0, sitNotFound), ((s.part? S.partition).isNone, sitPartition), (!s.trackerOk S, sitTracker),
    (!update && (match (s.part S.partition).pkg with | some k => !hasSection k.bytes 9 | none => false), sitNoBatches),
    (!update && (s.part S.partition).maxSitters ≤ ((s.sittersOf S.partition).filter (· ≠ n)).length, sitShareFull), (!s.ringsOk S, sitRing)]

/-! ### What a registration takes (R104, R81, R123) -/

/-- Bytes of the elementary-stream ring (R81). -/
def Sitter.esSize (S : Sitter) : Nat := (if S.esKib = 0 then 256 else S.esKib) * 1024

/-- Bytes of a stillness map. -/
def Sitter.mapBytes (S : Sitter) : Nat := if S.still then upTo64 (ceilDiv S.maxWidth 64 * ceilDiv S.maxHeight 64) else 0

/-- Maps of the pool that other sitters hold: (offset, bytes). -/
def State.maps (s : State) (n : Nat) : List (Nat × Nat) :=
  (s.sitters.filter (fun x => x.1 ≠ n && x.2.state ≠ 0 && x.2.stillLen ≠ 0)).map (fun x => (x.2.stillOff, x.2.stillLen))

/-- The lowest place of a map in the pool of 4 MiB. (Log 59 DEDUCED) -/
def State.mapPlace (s : State) (n len : Nat) : Option Nat :=
  let l := s.maps n
  if len = 0 then some 0
  else ((0 :: l.map (fun m => m.1 + m.2)).filter (fun a => a + len ≤ 0x400000 && !l.any (rangesMeet (a, len)))).foldl
    (fun m a => match m with | none => some a | some b => some (min a b)) none

/-- The pool's maps moved down to close its holes, so that one that fits in what remains has a place (R123). (Log 124 DESIGN CHOICE) -/
def State.packMaps (s : State) (n : Nat) : State :=
  let l := (s.sitters.filter (fun x => x.1 ≠ n && x.2.state ≠ 0 && x.2.stillLen ≠ 0)).map (fun x => (x.2.stillOff, x.1))
  (insertAll l).foldl (fun (acc : State × Nat) x =>
    let S := acc.1.sitter x.2
    let b := acc.1.devN (medBase + S.stillOff) S.stillLen
    (((acc.1.clearStill x.2).setDevN (medBase + acc.2) b).setSitter x.2 { S with stillOff := acc.2 }, acc.2 + S.stillLen)) (s, 0) |>.1
where
  insertOne (x : Nat × Nat) : List (Nat × Nat) → List (Nat × Nat)
    | [] => [x]
    | y :: t => if x.1 < y.1 then x :: y :: t else y :: insertOne x t
  insertAll (l : List (Nat × Nat)) : List (Nat × Nat) := l.foldr insertOne []

/-- The map placed, in a hole or after the pool is packed; none when more is needed than remains (R123). -/
def State.placeMap (s : State) (n len : Nat) : Option (Nat × State) :=
  match s.mapPlace n len with
  | some a => some (a, s)
  | none => let s1 := s.packMaps n; (s1.mapPlace n len).map (fun a => (a, s1))

/-- Both allocations made, in order; none when either does not fit. -/
def State.sitterMemory (s : State) (S : Sitter) : Option (Nat × Nat × State) :=
  match s.allocate (S.slotCount * S.slotSize) with
  | none => none
  | some (a, s1) => (s1.allocate S.esSize).map (fun x => (a, x.1, x.2))

/-- A registration in force ends, as SIT_DELETE ends it (R317); its memory gets its zeros at once, before it is granted again (R379).
(Log 59 DEDUCED) -/
def State.unregister (s : State) (n : Nat) : State :=
  let T := s.sitter n
  if T.state = 0 then s
  else
    let old := s.mem.allocs.filter (fun m => m.1 = T.slots.toNat || m.1 = T.esAddr.toNat)
    let s1 := s.endRegistration n
    let s2 := old.foldl (fun s m => s.clearDev m.1 m.2) s1
    { s2 with mem := { s2.mem with zeroing := s2.mem.zeroing.filter (fun m => !old.contains m) } }

/-- The new registration (R317, R345): the slots and ring at their places, state JOINING, a new epoch. Until its first frame record a live
entry shows the epoch and the ID that it showed before. (Log 125 DESIGN CHOICE) -/
def State.enter (s1 : State) (n : Nat) (T S : Sitter) (slots es map : Nat) : State :=
  let replay := (s1.part S.partition).replay
  let N : Sitter := { S with
    state := 1, epoch := if replay then S.epoch else T.epoch, nextTrack := if replay then S.nextTrack else T.nextTrack, known := true
    curEpoch := if replay then S.epoch else T.curEpoch + 1, curTrack := if replay then S.nextTrack else 1, epochs := T.epochs + 1
    regEpoch := S.epoch, regTrack := S.nextTrack
    slots := BitVec.ofNat 64 slots, slotBytes := S.slotSize, bounds := (slots, S.slotCount * S.slotSize), esAddr := BitVec.ofNat 64 es, stillOff := map, stillLen := S.mapBytes
    ing := { params := T.ing.params, paramsDue := true, esBytes := S.esSize } }
  let s2 : State := { s1 with ing := { s1.ing with dmx := s1.ing.dmx.map (fun x => (x.1, if x.2.sitter = n then { x.2 with latch := none } else x.2)) } }
  let s3 := s2.setSitter n N
  (s3.clearStill n).trackerHeader n

/-- SIT_REGISTER's outcome: a code, or the new state. What a registration in force holds is free for the new one (R317). -/
def State.register (s : State) (n : Nat) (b : List Byte) : Except Nat State :=
  let S := decodeSitter b
  let c := s.sitterCode n b false
  if c ≠ 0 then .error c
  else if !limitsOk S then .error decLimitBad
  else
    match (s.unregister n).sitterMemory S with
    | none => .error decPictureMemory
    | some (a, e, s1) =>
      match s1.placeMap n S.mapBytes with
      | none => .error decStillFull
      | some (m, s2) => .ok (s2.enter n (s.sitter n) S a e m)

/-- A refusal for want of picture memory. -/
def isNoMemory (r : Except Nat State) : Bool := match r with | .error c => c = decPictureMemory | .ok _ => false

/-- SIT_REGISTER (R317). A registration that needs memory still to be zeroed waits for it. -/
def execSitRegister (q : Nat) (n : U32) (s : State) : Out :=
  if 64 ≤ q then noUnit
  else
    match s.running q n 0x0030 with
    | none => .next s
    | some (c, b) =>
      if s.zerosDue && isNoMemory (s.register (c.entry.arg0.toNat % 2048) b) then .next s
      else command q n 0x0030 s (fun e b => config s e b (e.arg0.toNat % 2048) (s.register (e.arg0.toNat % 2048) b))

/-- The parameters that SIT_UPDATE replaces (R317, R318). -/
def Sitter.updated (T S : Sitter) : Sitter :=
  { T with resultRing := S.resultRing, archiveRing := S.archiveRing, damageTh := S.damageTh, staleUs := S.staleUs, budgetUs := S.budgetUs, flags := S.flags }

/-- SIT_UPDATE (R317). -/
def execSitUpdate (q : Nat) (n : U32) (s : State) : Out :=
  command q n 0x0031 s (fun e b =>
    let k := e.arg0.toNat % 2048
    let c := s.sitterCode k b true
    config s e b k (if c ≠ 0 then .error c else .ok (s.setSitter k ((s.sitter k).updated (decodeSitter b)))))

/-- A sitter deleted: the entry is FREE and keeps its last epoch (R317, R345). -/
def State.deleteSitter (s : State) (n : Nat) : State :=
  let T := s.sitter n
  ((s.clearDmxOf n).endRegistration n).setSitter n { epoch := T.curEpoch, curEpoch := T.curEpoch, epochs := T.epochs, known := T.known }

/-- SIT_DELETE (R317). -/
def execSitDelete (q : Nat) (n : U32) (s : State) : Out :=
  command q n 0x0032 s (fun e b =>
    let k := e.arg0.toNat % 2048
    config s e b k (if (s.sitter k).state = 0 then .error sitNotFound else .ok (s.deleteSitter k)))

end Sys2Proof.Machine
end

