-- ==== Sys2Proof/Machine/Restart.lean ====
section
/-!
DEFINITION. PARTITION_RESTART (R457, R458): the actions of a partition's restart, in order.
-/
namespace Sys2Proof.Machine

/-- The exception record with the number of further faults (R186, R187). (Log 77 DESIGN CHOICE, 96 DEDUCED) -/
def keptRecord (c : PartCause) : List Byte := if c.exc.isEmpty then [] else c.exc.take 38 ++ leBytes 2 c.others ++ c.exc.drop 40

/-- Leaves stopped, loans ended, every engine's work for the partition abandoned, and its buffers FREE (R119, R146, R265, R281, R334). -/
def State.stopWork (s : State) (p : Nat) : State :=
  let s1 := s.recallLoans (fun l => l.lender = p || l.borrower = p)
  let s2 := ((s1.partLeaves p).filter (fun e => !s1.leafBusy p e)).foldl (fun s e =>
    let x := s.abandon e
    x.setEasel e { x.easel e with running := false, stall := .none }) s1
  ({ s2 with disps := s2.disps.filter (fun d => d.part ≠ p) } : State).dropMedWork p |>.freeBuffers p

/-- The event of a restart's beginning or end. (Log 64 DEDUCED) -/
def State.restartEvent (s : State) (p event : Nat) (c : PartCause) (sitters us : Nat) : State :=
  s.partEvent p { event := event, cause := c.cause.toNat, fault := c.fault.toNat, easel := c.easel.toNat, sitters := sitters, detail := c.detail.toNat, restartUs := us }

/-- RESTART_BEGIN, the notices, and the words that caused it (R349, R397). (Log 77 DESIGN CHOICE) -/
def State.beginRestart (s : State) (p : Nat) (c : PartCause) : State :=
  let P := s.part p
  let x := keptRecord c
  let s1 := s.setPart p { P with restarts := P.restarts + 1, run := none, orphans := [], exc := if x.isEmpty then P.exc else x, excValid := P.excValid || !x.isEmpty }
  let s2 := (s1.stopWork p).restartEvent p 4 c (s1.sittersOf p).length 0
  let s3 := (s2.sittersOf p).foldl (fun s n => s.restartSitter n P.replay) s2
  c.words.foldl State.zeroWord s3

/-- The digest of the package copy (R314); a word that cannot be read fails it. (Log 78 DEDUCED) -/
def State.copyGood (s : State) (k : Pkg) : State × Bool :=
  let r := s.readCheck 6 [(k.copyAddr, k.bytes.length)]
  let s1 := r.2.foldl (fun s a => s.uncorrectable 6 a) r.1
  (s1, r.2.isEmpty && digest ((s1.devN k.copyAddr k.bytes.length).drop 64) = k.digest)

/-- The restart fails: FAILED, its event, and a stop that waited is refused (R314, R322). (Log 78 DEDUCED) -/
def State.failRestart (s : State) (p : Nat) : State :=
  let P := s.part p
  let s1 := (s.setPart p { P with state := .failed, cause := none, stopping := none }).partEvent p { event := 6, cause := 7, detail := 0x0902 }
  match P.stopping with | some (q, n) => s1.answer q n partStateErr 0 | none => s1

/-- The emit ring's pending entries are passed over. (Log 62 DEDUCED) -/
def State.skipEmit (s : State) (p : Nat) (k : Pkg) : State :=
  match k.emitRing with | some (a, n) => s.setEmit p k (s.devLE a 4 % max 1 n) | none => s

/-- The firmware region of every leaf, checked and fetched again where it differs (R447, R457). -/
def State.freshFirmware (s : State) (p : Nat) : State :=
  (s.partLeaves p).foldl (fun s e =>
    s.setEasel e { s.easel e with is := mwriteL 0 (mclear (s.easel e).is 0xE000 0x2000) s.firmwareCells }) s

/-- The stage state written again, the leaves left over gated (R292), and every sitter in a new epoch (R296, R304, R306, R345). -/
def State.rewritePart (s : State) (p : Nat) (k : Pkg) : State :=
  let s1 := (((s.freshFirmware p).placeLeaves p k).placeWeights k).resetFlags k (s.part p).sitting.toNat
  let s2 := (((s1.resetUnits p k).resetRings p).skipEmit p k).gateSpare p k
  (s2.sittersOf p).foldl State.newEpoch s2

/-- The job after a restart: three without a completed step end it (R366). -/
def State.resumeJob (s : State) (p : Nat) : State :=
  match (s.part p).job with
  | none => s
  | some j =>
    let s1 := s.setPart p { s.part p with job := some { j with restarts := j.restarts + 1 } }
    if 3 ≤ j.restarts + 1 then s1.abortJob p else s1

/-- RESTART_DONE after `us` microseconds: RUNNING, or READY when a stop waited (R322). (Log 77 DESIGN CHOICE, 78 DEDUCED) -/
def State.endRestart (s : State) (p : Nat) (c : PartCause) (us : U32) : State :=
  let s1 := s.pass (us.toNat * 1000)
  let P := s1.part p
  let s2 := s1.setPart p { P with state := if c.idle then .ready else .running, cause := none, from_ := if P.replay then P.from_ else s1.tb.time }
  ((s2.restartEvent p 5 c (s2.sittersOf p).length us.toNat).resumeJob p).finishStop p

/-- PARTITION_RESTART: the whole restart of a partition that has a cause; a device restart takes its place. (Log 47 DEDUCED, 77 DESIGN CHOICE) -/
def execPartitionRestart (p : Nat) (us : U32) (s : State) : Out :=
  if 16 ≤ p then noUnit
  else
    match (s.part p).cause, (s.part p).pkg with
    | some c, some k =>
      if !s.ready || (s.part p).state ≠ .restarting || s.boot.devCause.isSome then .next s
      else
        let x := (s.beginRestart p c).copyGood k
        .next (if x.2 then (x.1.rewritePart p k).endRestart p c us else x.1.failRestart p)
    | _, _ => .next s

end Sys2Proof.Machine
end

