-- ==== Sys2Proof/Machine/Results.lean ====
section
/-!
DEFINITION. RESULT_BLOCK_TAKE (R346 to R348): from a program's emit ring to the formatter.
-/
namespace Sys2Proof.Machine

/-- Bodies of one length that follow one another, each with the given reserved bytes at 0. (Log 74 DEDUCED) -/
def bodiesClean (len : Nat) (reserved : List (Nat × Nat)) : Nat → List Byte → Bool
  | 0, _ => true
  | n + 1, r => reserved.all (fun f => allZero (fieldBytes r f.1 f.2)) && bodiesClean len reserved n (r.drop len)

/-- The reserved bytes of object bodies, and of track-event bodies: the records' own from offset 24 (R347, R358). -/
def objReserved : List (Nat × Nat) := [(28, 4)]
def evtReserved : List (Nat × Nat) := [(5, 1), (20, 4)]

/-- A block whose reserved fields, counts or length break R347. (Log 74 DEDUCED) -/
def blockBad (b : List Byte) : Bool :=
  let no := blkObjects b
  let ne := blkEvents b
  let np := blkPrograms b
  let shape := fieldLE b 2 1
  b.length < 48 || 1 < shape || fieldLE b 3 1 ≠ 0 || fieldLE b 22 2 ≠ 0 || fieldLE b 28 4 ≠ 0 || 4096 < no || 8192 < ne || 64 < np
    || (shape = 1 && no + ne + np ≠ 0) || b.length < 48 + 40 * no + 24 * ne || (programBodies np (b.drop (48 + 40 * no + 24 * ne))).isNone
    || !bodiesClean 40 objReserved no (b.drop 48) || !bodiesClean 24 evtReserved ne (b.drop (48 + 40 * no))

/-- The frame that a block names, by sitter, au_index and sitting. -/
def blkSitter (b : List Byte) : Nat := fieldLE b 0 2
def blkAu (b : List Byte) : U64 := BitVec.ofNat 64 (fieldLE b 32 8)
def blkSitting (b : List Byte) : U64 := BitVec.ofNat 64 (fieldLE b 40 8)

/-- A frame that the partition admitted in that sitting and has not reported. (Log 74 DEDUCED) -/
def State.awaited (s : State) (p : Nat) (b : List Byte) : Bool :=
  let S := s.sitter (blkSitter b)
  S.state ≠ 0 && S.partition = p && S.frames.any (fun f => f.au = blkAu b && f.phase = .admitted && f.sitting = blkSitting b)

/-- The formatter accepts a block: the frame is reported, or dropped as exceeding the plan (R309, R347). (Log 75 DEDUCED) -/
def State.acceptBlock (s : State) (b : List Byte) : State :=
  let n := blkSitter b
  if fieldLE b 2 1 = 1 then
    let S := (s.sitter n).updFrame (blkAu b) (fun f => { f with shapeVar := BitVec.ofNat 16 (fieldLE b 14 2), value := BitVec.ofNat 32 (fieldLE b 16 4) })
    s.setSitter n (S.drop (blkAu b) dropShape origProgram)
  else
    -- the tracker may have begun an epoch of its own (R345)
    let S := s.sitter n
    s.setSitter n ({ S with curEpoch := BitVec.ofNat 16 (fieldLE b 20 2) }.updFrame (blkAu b) (fun f => { f with phase := .reported, block := b, gen := S.epochs }))

/-- What the formatter does with a block: accept it, ignore a discarded frame's, or restart the partition (R348). (Log 74 DEDUCED) -/
def State.judgeBlock (s : State) (p : Nat) (b : List Byte) : State :=
  let o : Orphan := { sitter := blkSitter b, au := blkAu b, sitting := blkSitting b }
  if blockBad b then s.partFault p { cause := 5 }
  else if s.awaited p b then s.acceptBlock b
  else if (s.part p).orphans.contains o then s.setPart p { s.part p with orphans := (s.part p).orphans.erase o }
  else s.partFault p { cause := 5 }

/-- RESULT_BLOCK_TAKE: the next entry of the partition's emit ring. -/
def execResultBlockTake (p : Nat) (s : State) : Out :=
  if 16 ≤ p then noUnit
  else
    match (s.part p).pkg with
    | none => .next s
    | some k =>
      match k.emitRing with
      | none => .next s
      | some (a, n) =>
        let c := (s.part p).emitTaken.toNat
        if !s.ready || !(s.part p).serves || n = 0 || s.devLE a 4 % n = c % n then .next s
        else
          let at_ := a + 64 + 16 * (c % n)
          .next (s.unitRead 5 [(at_, 16)] (fun s =>
            let x := s.devLE at_ 8
            let len := s.devLE (at_ + 8) 4
            let s1 := s.setEmit p k ((c + 1) % n)
            if s.devLE (at_ + 12) 4 ≠ 0 || !s.within p x len then s1.partFault p { cause := 5 }
            else s1.unitRead 5 [(x, len)] (fun s => s.judgeBlock p (s.devN x len))))

end Sys2Proof.Machine
end

