-- ==== Sys2Proof/Machine/Scalar.lean ====
section
/-!
DEFINITION. The scalar and predicate instructions (R160, R161). Each is one meaning over `issueReg`: the encoding check of R159 and the
effect on the Easel's registers.
-/
namespace Sys2Proof.Machine

/-- A three-register ALU instruction, s[A] = op(s[B], s[C]) (R160). -/
def aluOp (e : Nat) (a b c : RegF) (major k f : Nat) (legal : Bool) (op : U64 → U64 → U64) (s : State) : Out :=
  issueReg e 4 (wordR major k f c.toNat b.toNat a.toNat) legal { sr := [a.toNat, b.toNat, c.toNat] } s
    (fun E => E.setSr a.toNat (op (E.sr b.toNat) (E.sr c.toNat)))

/-- An ALU instruction with an immediate, s[A] = op(s[B], sext(I12)) (R160). -/
def aluImm (e : Nat) (a b : RegF) (imm : BitVec 12) (f : Nat) (legal : Bool) (op : U64 → U64 → U64) (s : State) : Out :=
  issueReg e 4 (wordI 0x01 imm.toNat f b.toNat a.toNat) legal { sr := [a.toNat, b.toNat] } s
    (fun E => E.setSr a.toNat (op (E.sr b.toNat) (sext12 imm)))

/-- A predicate instruction with predicates in A, B and C; K is reserved (R160). -/
def predOp (e : Nat) (k : BitVec 7) (a b c : RegF) (f : Nat) (legal : Bool) (op : Bool → Bool → Bool) (s : State) : Out :=
  issueReg e 4 (wordR 0x06 k.toNat f c.toNat b.toNat a.toNat) (legal && a.toNat < 8 && b.toNat < 8 && c.toNat < 8) {} s
    (fun E => E.setPr a.toNat (op (E.pr b.toNat) (E.pr c.toNat)))

/-- The shift amount: the low 6 bits (R160). -/
def shAmt (x : U64) : Nat := x.toNat % 64

/-- Leading zeros, 64 for 0. -/
def clz64 (x : U64) : U64 := if x = 0 then 64 else BitVec.ofNat 64 (63 - Nat.log2 x.toNat)

/-- Set bits. -/
def popc64 (x : U64) : U64 := BitVec.ofNat 64 ((List.range 64).filter (fun i => x.getLsbD i)).length

/-- Signed and unsigned high halves of the product. -/
def mulh64 (x y : U64) : U64 := (x.signExtend 128 * y.signExtend 128).extractLsb' 64 64
def mulhu64 (x y : U64) : U64 := (x.setWidth 128 * y.setWidth 128).extractLsb' 64 64

/-- DIV, DIVU, REM, REMU, which never fault (R161). -/
def div64 (x y : U64) : U64 := if y = 0 then -1 else x.sdiv y
def divu64 (x y : U64) : U64 := if y = 0 then -1 else x / y
def rem64 (x y : U64) : U64 := if y = 0 then x else x.srem y
def remu64 (x y : U64) : U64 := if y = 0 then x else x % y

/-- ADD (R160). -/
def execAdd (e : Nat) (a b c : RegF) (s : State) : Out := aluOp e a b c 0x00 0 0 true (fun x y => x + y) s
/-- SUB (R160). -/
def execSub (e : Nat) (a b c : RegF) (s : State) : Out := aluOp e a b c 0x00 0 1 true (fun x y => x - y) s
/-- AND (R160). -/
def execAndR (e : Nat) (a b c : RegF) (s : State) : Out := aluOp e a b c 0x00 0 2 true (fun x y => x &&& y) s
/-- OR (R160). -/
def execOrR (e : Nat) (a b c : RegF) (s : State) : Out := aluOp e a b c 0x00 0 3 true (fun x y => x ||| y) s
/-- XOR (R160). -/
def execXorR (e : Nat) (a b c : RegF) (s : State) : Out := aluOp e a b c 0x00 0 4 true (fun x y => x ^^^ y) s
/-- SLL (R160). -/
def execSll (e : Nat) (a b c : RegF) (s : State) : Out := aluOp e a b c 0x00 0 5 true (fun x y => x <<< shAmt y) s
/-- SRL (R160). -/
def execSrl (e : Nat) (a b c : RegF) (s : State) : Out := aluOp e a b c 0x00 0 6 true (fun x y => x >>> shAmt y) s
/-- SRA (R160). -/
def execSra (e : Nat) (a b c : RegF) (s : State) : Out := aluOp e a b c 0x00 0 7 true (fun x y => x.sshiftRight (shAmt y)) s
/-- MIN (R160). -/
def execMinR (e : Nat) (a b c : RegF) (s : State) : Out := aluOp e a b c 0x00 1 0 true (fun x y => if x.slt y then x else y) s
/-- MAX (R160). -/
def execMaxR (e : Nat) (a b c : RegF) (s : State) : Out := aluOp e a b c 0x00 1 1 true (fun x y => if x.slt y then y else x) s
/-- MINU (R160). -/
def execMinu (e : Nat) (a b c : RegF) (s : State) : Out := aluOp e a b c 0x00 1 2 true (fun x y => if x.ult y then x else y) s
/-- MAXU (R160). -/
def execMaxu (e : Nat) (a b c : RegF) (s : State) : Out := aluOp e a b c 0x00 1 3 true (fun x y => if x.ult y then y else x) s
/-- CLZ (R160). -/
def execClz (e : Nat) (a b c : RegF) (s : State) : Out := aluOp e a b c 0x00 1 4 (c = 0) (fun x _ => clz64 x) s
/-- POPC (R160). -/
def execPopc (e : Nat) (a b c : RegF) (s : State) : Out := aluOp e a b c 0x00 1 5 (c = 0) (fun x _ => popc64 x) s
/-- ANDN (R160). -/
def execAndn (e : Nat) (a b c : RegF) (s : State) : Out := aluOp e a b c 0x00 1 6 true (fun x y => x &&& ~~~y) s
/-- SEL: s[A] = p[p] ? s[B] : s[C] (R160). -/
def execSel (e : Nat) (p : BitVec 3) (a b c : RegF) (s : State) : Out :=
  issueReg e 4 (wordR 0x00 (16 + p.toNat) 0 c.toNat b.toNat a.toNat) true { sr := [a.toNat, b.toNat, c.toNat] } s
    (fun E => E.setSr a.toNat (if E.pr p.toNat then E.sr b.toNat else E.sr c.toNat))
/-- ADDI (R160). -/
def execAddi (e : Nat) (a b : RegF) (imm : BitVec 12) (s : State) : Out := aluImm e a b imm 0 true (fun x y => x + y) s
/-- ANDI (R160). -/
def execAndi (e : Nat) (a b : RegF) (imm : BitVec 12) (s : State) : Out := aluImm e a b imm 1 true (fun x y => x &&& y) s
/-- ORI (R160). -/
def execOri (e : Nat) (a b : RegF) (imm : BitVec 12) (s : State) : Out := aluImm e a b imm 2 true (fun x y => x ||| y) s
/-- XORI (R160). -/
def execXori (e : Nat) (a b : RegF) (imm : BitVec 12) (s : State) : Out := aluImm e a b imm 3 true (fun x y => x ^^^ y) s
/-- SLLI: I12[11:6] must be 0 (R160). -/
def execSlli (e : Nat) (a b : RegF) (imm : BitVec 12) (s : State) : Out :=
  aluImm e a b imm 4 (imm.toNat < 64) (fun x y => x <<< shAmt y) s
/-- SRLI: I12[11:6] must be 0 (R160). -/
def execSrli (e : Nat) (a b : RegF) (imm : BitVec 12) (s : State) : Out :=
  aluImm e a b imm 5 (imm.toNat < 64) (fun x y => x >>> shAmt y) s
/-- SRAI: I12[11:6] must be 0 (R160). -/
def execSrai (e : Nat) (a b : RegF) (imm : BitVec 12) (s : State) : Out :=
  aluImm e a b imm 6 (imm.toNat < 64) (fun x y => x.sshiftRight (shAmt y)) s
/-- LUIH: the high half of s[A] replaced (R160). -/
def execLuih (e : Nat) (a : RegF) (imm : BitVec 20) (s : State) : Out :=
  issueReg e 4 (wordU 0x02 imm.toNat a.toNat) true { sr := [a.toNat] } s
    (fun E => E.setSr a.toNat ((E.sr a.toNat &&& 0xFFFFFFFF) ||| (sext20 imm <<< 32)))
/-- LUI: s[A] = sext(I20 << 12) (R160). -/
def execLui (e : Nat) (a : RegF) (imm : BitVec 20) (s : State) : Out :=
  issueReg e 4 (wordU 0x03 imm.toNat a.toNat) true { sr := [a.toNat] } s (fun E => E.setSr a.toNat (sext20 imm <<< 12))

/-- CMP: p[A] from a comparison, replaced, ANDed or ORed by K[1:0] (R160). -/
def execCmp (e : Nat) (f : BitVec 3) (k : BitVec 7) (a b c : RegF) (s : State) : Out :=
  issueReg e 4 (wordR 0x04 k.toNat f.toNat c.toNat b.toNat a.toNat) (f.toNat ≤ 5 && k.toNat ≤ 2 && a.toNat < 8)
    { sr := [b.toNat, c.toNat] } s
    (fun E =>
      let r := cond f.toNat (E.sr b.toNat) (E.sr c.toNat)
      E.setPr a.toNat (match k.toNat with | 0 => r | 1 => E.pr a.toNat && r | _ => E.pr a.toNat || r))
/-- CMPI (R160). -/
def execCmpi (e : Nat) (f : BitVec 3) (a b : RegF) (imm : BitVec 12) (s : State) : Out :=
  issueReg e 4 (wordI 0x05 imm.toNat f.toNat b.toNat a.toNat) (f.toNat ≤ 5 && a.toNat < 8) { sr := [b.toNat] } s
    (fun E => E.setPr a.toNat (cond f.toNat (E.sr b.toNat) (sext12 imm)))

/-- PAND (R160). -/
def execPand (e : Nat) (k : BitVec 7) (a b c : RegF) (s : State) : Out := predOp e k a b c 0 (k = 0) (fun x y => x && y) s
/-- POR (R160). -/
def execPor (e : Nat) (k : BitVec 7) (a b c : RegF) (s : State) : Out := predOp e k a b c 1 (k = 0) (fun x y => x || y) s
/-- PXOR (R160). -/
def execPxor (e : Nat) (k : BitVec 7) (a b c : RegF) (s : State) : Out := predOp e k a b c 2 (k = 0) (fun x y => x != y) s
/-- PANDN (R160). -/
def execPandn (e : Nat) (k : BitVec 7) (a b c : RegF) (s : State) : Out := predOp e k a b c 3 (k = 0) (fun x y => x && !y) s
/-- PNOT; C is reserved (R160). -/
def execPnot (e : Nat) (k : BitVec 7) (a b c : RegF) (s : State) : Out :=
  predOp e k a b c 4 (k = 0 && c = 0) (fun x _ => !x) s
/-- PSET: p[A] = K[0]; B, C and K[6:1] are reserved (R160). -/
def execPset (e : Nat) (k : BitVec 7) (a b c : RegF) (s : State) : Out :=
  predOp e k a b c 5 (k.toNat ≤ 1 && b = 0 && c = 0) (fun _ _ => k = 1) s
/-- PTOS: s[A] = the predicates as bits (R160). -/
def execPtos (e : Nat) (k : BitVec 7) (a b c : RegF) (s : State) : Out :=
  issueReg e 4 (wordR 0x06 k.toNat 6 c.toNat b.toNat a.toNat) (k = 0 && b = 0 && c = 0) { sr := [a.toNat] } s
    (fun E => E.setSr a.toNat ((E.p ||| 1).setWidth 64))
/-- STOP: p[i] = s[B] bit i, i = 1 to 7 (R160). -/
def execStop (e : Nat) (k : BitVec 7) (a b c : RegF) (s : State) : Out :=
  issueReg e 4 (wordR 0x06 k.toNat 7 c.toNat b.toNat a.toNat) (k = 0 && a = 0 && c = 0) { sr := [b.toNat] } s
    (fun E => { E with p := (E.sr b.toNat).setWidth 8 &&& 0xFE })

/-- MUL (R160). -/
def execMul (e : Nat) (k : BitVec 7) (a b c : RegF) (s : State) : Out := aluOp e a b c 0x07 k.toNat 0 (k = 0) (fun x y => x * y) s
/-- MULH (R160). -/
def execMulh (e : Nat) (k : BitVec 7) (a b c : RegF) (s : State) : Out := aluOp e a b c 0x07 k.toNat 1 (k = 0) (mulh64) s
/-- MULHU (R160). -/
def execMulhu (e : Nat) (k : BitVec 7) (a b c : RegF) (s : State) : Out := aluOp e a b c 0x07 k.toNat 2 (k = 0) (mulhu64) s
/-- DIV (R161). -/
def execDiv (e : Nat) (k : BitVec 7) (a b c : RegF) (s : State) : Out := aluOp e a b c 0x07 k.toNat 3 (k = 0) (div64) s
/-- DIVU (R161). -/
def execDivu (e : Nat) (k : BitVec 7) (a b c : RegF) (s : State) : Out := aluOp e a b c 0x07 k.toNat 4 (k = 0) (divu64) s
/-- REM (R161). -/
def execRem (e : Nat) (k : BitVec 7) (a b c : RegF) (s : State) : Out := aluOp e a b c 0x07 k.toNat 5 (k = 0) (rem64) s
/-- REMU (R161). -/
def execRemu (e : Nat) (k : BitVec 7) (a b c : RegF) (s : State) : Out := aluOp e a b c 0x07 k.toNat 6 (k = 0) (remu64) s

end Sys2Proof.Machine
end

