-- ==== Sys2Proof/Machine/Security.lean ====
section
/-!
DEFINITION. The security commands (R471, R473 to R475). The outcome of an ML-DSA verification is an operand of LIC_INSTALL, and a signature
is an opaque function: FIPS 204 stands outside the manual.
-/
namespace Sys2Proof.Machine

/-! ### Writing to a command's output buffer (R421, R429) -/

/-- A command that answers with `r.2` bytes of result in its output buffer; while the function may issue no request it waits (R411). (Log 21 DEDUCED) -/
def outCommand (q : Nat) (n : U32) (op : Nat) (s : State) (f : Entry → List Byte → State × List Byte × Nat) : Out :=
  if 64 ≤ q then noUnit
  else if !s.busOn then .next s
  else command q n op s (fun e b => let r := f e b; (r.1.hostWrite e.addr1.toNat r.2.1, 0, r.2.2))

/-! ### Licences (R471) -/

def secBad : Nat := 0x0D81
def secSignature : Nat := 0x0D82
def secIdentity : Nat := 0x0D83
def secLicFull : Nat := 0x0D84
def secSlotEmpty : Nat := 0x0D85
def secFlash : Nat := 0x0D86

/-- A LICENCE key certificate followed by a licence, both of right form (R460, R461, R469). (Log 41 DEDUCED) -/
def licBlockForm (b : List Byte) : Bool :=
  b.length = certBytes + licenceBytes && signedOk b 1 1960 && allZero (fieldBytes b 49 7) && licenceForm (b.drop certBytes)

/-- The certificate is for a LICENCE key, and the licence names that key as its signer. -/
def licChain (b : List Byte) : Bool := fieldLE b 48 1 = 2 && fieldBytes b (certBytes + 16) 32 = digest (fieldBytes b 56 1952)

/-- Features came into force: a port that ETH_INGRESS lets run trains (R471). -/
def State.licensedPorts (s : State) (had : Bool) : State :=
  if had || !s.ethLicensed then s else [0, 1].foldl (fun s n => if s.portOn n then s.setLink n 0 else s) s

/-- An accepted licence in its slot, with its features at once. -/
def State.installLicence (s : State) (slot : Nat) (lic : List Byte) : State :=
  let s1 := { s with boot := { s.boot with flash := mwriteN 0xFF s.boot.flash (slotAddr slot) lic } }
  (s1.acceptLicence lic).licensedPorts s.ethLicensed

/-- The lowest erased licence slot. -/
def State.erasedSlot (s : State) : Option Nat := (List.range 16).find? s.slotErased

/-- LIC_INSTALL; `sigOk`: both signatures verify. When the flash fails, a free value says how much was programmed. (Log 40 DESIGN CHOICE, 41 DEDUCED) -/
def execLicInstall (q : Nat) (n : U32) (sigOk flashOk : Bool) (s : State) : Out :=
  command q n 0x0094 s (fun _ b =>
    if !licBlockForm b then (s, secBad, 0)
    else if !sigOk || !licChain b then (s, secSignature, 0)
    else
      let lic := fieldBytes b certBytes licenceBytes
      if fieldBytes lic 48 32 ≠ s.identity then (s, secIdentity, 0)
      else
        match s.erasedSlot with
        | none => (s, secLicFull, 0)
        | some i =>
          if flashOk then (s.installLicence i lic, 0, i)
          else
            let (x, s1) := s.draw
            ({ s1 with boot := { s1.boot with flash := mwriteN 0xFF s1.boot.flash (slotAddr i) (lic.take (x.toNat % (licenceBytes + 1))) } },
              secFlash, 0))

/-- LIC_REMOVE: the slot is erased; its features stay until the next start. When the flash fails, the slot's bytes are free values. (Log 41 DEDUCED) -/
def execLicRemove (q : Nat) (n : U32) (flashOk : Bool) (s : State) : Out :=
  command q n 0x0095 s (fun e _ =>
    let i := e.arg0.toNat % 16
    if s.slotErased i then (s, secSlotEmpty, 0)
    else if flashOk then ({ s with boot := { s.boot with flash := mclear s.boot.flash (slotAddr i) 0x1000 } }, 0, 0)
    else
      let (x, s1) := s.freeBytes licenceBytes
      ({ s1 with boot := { s1.boot with flash := mwriteN 0xFF s1.boot.flash (slotAddr i) x } }, secFlash, 0))

/-- LIC_LIST: the 16 slots in order, an erased one as erased flash reads. (Log 41 DEDUCED) -/
def execLicList (q : Nat) (n : U32) (s : State) : Out :=
  outCommand q n 0x0096 s (fun _ _ => (s, (List.range 16).flatMap (fun i => s.flashN (slotAddr i) licenceBytes), 16))

/-! ### Certificates, log and quotes (R472, R474, R475) -/

/-- SEC_CERTS: the DEVICE_CA certificate, the device certificate and the FIRMWARE key certificate. -/
def execSecCerts (q : Nat) (n : U32) (s : State) : Out :=
  outCommand q n 0x0090 s (fun _ _ => (s, s.flashN 0x1101000 5317 ++ s.flashN 0x1103000 5349 ++ s.flashN 0x1000 5317, 15983))

/-- A measurement log entry (R472). -/
def measBytes (e : MeasEntry) : List Byte :=
  leBytes 1 e.reg ++ [e.kind] ++ leBytes 2 e.subject.toNat ++ leBytes 4 e.index.toNat ++ leBytes 8 e.time.toNat ++ leBytes 8 e.sitting.toNat
    ++ fieldBytes e.d 0 32

/-- MEAS_LOG: entries in order from the one named, as many as there are and fit. -/
def execMeasLog (q : Nat) (n : U32) (s : State) : Out :=
  outCommand q n 0x0092 s (fun e _ =>
    let l := (s.sec.log.drop (e.arg0.toNat % 2 ^ 16)).take (e.len1.toNat / 56)
    (s, l.flatMap measBytes, l.length))

/-- MEAS_EXTEND: M6 extended with 32 bytes of host software; the answer is its extension count (R473). -/
def execMeasExtend (q : Nat) (n : U32) (s : State) : Out :=
  command q n 0x0093 s (fun _ b =>
    let s1 := s.measure 6 0x09 0xFFFF (fieldBytes b 0 32) 0
    (s1, 0, (tget 0 s1.sec.counts 6).toNat))

/-- The body of a quote (R475). -/
def State.quoteBody (s : State) (nonce : List Byte) : List Byte :=
  let flags := (if s.sec.certBad then 1 else 0) + (if s.sec.recoveryRun then 2 else 0) + (if s.sec.logOverflow then 4 else 0)
  fieldBytes nonce 0 32 ++ s.identity ++ leBytes 4 s.sec.release.toNat ++ leBytes 2 flags ++ leBytes 2 s.boot.devRestarts.toNat
    ++ leBytes 4 s.boot.number.toNat ++ leBytes 4 s.sec.flrs.toNat ++ (List.range 8).flatMap (fun k => leBytes 4 (tget 0 s.sec.counts k).toNat)
    ++ leBytes 8 s.tb.time.toNat ++ leBytes 1 s.tb.state ++ List.replicate 7 0 ++ (List.range 8).flatMap (fun k => fieldBytes (s.measReg k) 0 64)

/-- A quote: header, body, and the signature of the identity key over both (R460, R475). (Log 40 DESIGN CHOICE) -/
def State.quote (s : State) (nonce : List Byte) : List Byte :=
  let m := leBytes 4 0x4F53594B ++ leBytes 2 5 ++ leBytes 2 1 ++ leBytes 4 3997 ++ leBytes 4 640 ++ s.identity ++ s.quoteBody nonce
  m ++ fieldBytes (Config.mldsaSign s.sec.identityKey m) 0 3309

/-- QUOTE: the snapshot is taken and the quote written (R475). -/
def execQuote (q : Nat) (n : U32) (s : State) : Out :=
  outCommand q n 0x0091 s (fun _ b => (s, s.quote b, 0))

end Sys2Proof.Machine
end

