-- ==== Sys2Proof/Machine/Dispatch.lean ====
section
/-!
DEFINITION. The meaning of every command: one arm for each constructor of Instr.
-/
namespace Sys2Proof.Machine

def exec (i : Instr) (s : State) : Host.Outcome State Fault Refusal :=
  match i with
  | .porNDeassert b => Sys2Proof.Machine.execPorNDeassert b s
  | .recoveryVerify sigs => Sys2Proof.Machine.execRecoveryVerify sigs s
  | .recoveryRun sigs b => Sys2Proof.Machine.execRecoveryRun sigs b s
  | .recoveryWrite sigs flashOk => Sys2Proof.Machine.execRecoveryWrite sigs flashOk s
  | .curatorWatchdogExpiry => Sys2Proof.Machine.execCuratorWatchdogExpiry s
  | .deviceRestart cause b => Sys2Proof.Machine.execDeviceRestart cause b s
  | .partitionRestart p durationUs => Sys2Proof.Machine.execPartitionRestart p durationUs s
  | .flr => Sys2Proof.Machine.execFlr s
  | .perstNAssert => Sys2Proof.Machine.execPerstNAssert s
  | .hotReset => Sys2Proof.Machine.execHotReset s
  | .linkDown => Sys2Proof.Machine.execLinkDown s
  | .d3hotToD0 => Sys2Proof.Machine.execD3hotToD0 s
  | .pcieLinkRetrain speed width => Sys2Proof.Machine.execPcieLinkRetrain speed width s
  | .laneMarginCommand lane cmd => Sys2Proof.Machine.execLaneMarginCommand lane cmd s
  | .barReadShapeAbort bar off len => Sys2Proof.Machine.execBarReadShapeAbort bar off len s
  | .bar4Read off len => Sys2Proof.Machine.execBar4Read off len s
  | .bar4Write off bytes => Sys2Proof.Machine.execBar4Write off bytes s
  | .poisonedTlpReceived bar off len => Sys2Proof.Machine.execPoisonedTlpReceived bar off len s
  | .hostReadCompletion tag r => Sys2Proof.Machine.execHostReadCompletion tag r s
  | .completionTimeout tag => Sys2Proof.Machine.execCompletionTimeout tag s
  | .msixMessageSend v => Sys2Proof.Machine.execMsixMessageSend v s
  | .assertInta => Sys2Proof.Machine.execAssertInta s
  | .registerWrite bar off size value => Sys2Proof.Machine.execRegisterWrite bar off size value s
  | .registerReadCapture bar off size => Sys2Proof.Machine.execRegisterReadCapture bar off size s
  | .commitIngPort n => Sys2Proof.Machine.execCommitIngPort n s
  | .commitIngSp => Sys2Proof.Machine.execCommitIngSp s
  | .commitTbSrc => Sys2Proof.Machine.execCommitTbSrc s
  | .commitTbPhase => Sys2Proof.Machine.execCommitTbPhase s
  | .commitGlbBar4 => Sys2Proof.Machine.execCommitGlbBar4 s
  | .commitPwr => Sys2Proof.Machine.execCommitPwr s
  | .commitQueue q => Sys2Proof.Machine.execCommitQueue q s
  | .groupApply g => Sys2Proof.Machine.execGroupApply g s
  | .ethPortLinkChange mac up => Sys2Proof.Machine.execEthPortLinkChange mac up s
  | .dbSqWrite q t => Sys2Proof.Machine.execDbSqWrite q t s
  | .resume q => Sys2Proof.Machine.execResume q s
  | .hqQnCqConsWrite q v => Sys2Proof.Machine.execHqQnCqConsWrite q v s
  | .submissionFetch q => Sys2Proof.Machine.execSubmissionFetch q s
  | .commandStart q => Sys2Proof.Machine.execCommandStart q s
  | .commandComplete q n => Sys2Proof.Machine.execCommandComplete q n s
  | .cqCoalTimer q => Sys2Proof.Machine.execCqCoalTimer q s
  | .nop q n => Sys2Proof.Machine.execNop q n s
  | .atlSet q n => Sys2Proof.Machine.execAtlSet q n s
  | .atlDelete q n => Sys2Proof.Machine.execAtlDelete q n s
  | .partCreate q n => Sys2Proof.Machine.execPartCreate q n s
  | .partLoad q n => Sys2Proof.Machine.execPartLoad q n s
  | .partTiming q n => Sys2Proof.Machine.execPartTiming q n s
  | .partStart q n => Sys2Proof.Machine.execPartStart q n s
  | .partStop q n => Sys2Proof.Machine.execPartStop q n s
  | .partDelete q n => Sys2Proof.Machine.execPartDelete q n s
  | .weightSwap q n => Sys2Proof.Machine.execWeightSwap q n s
  | .sitRegister q n => Sys2Proof.Machine.execSitRegister q n s
  | .sitUpdate q n => Sys2Proof.Machine.execSitUpdate q n s
  | .sitDelete q n => Sys2Proof.Machine.execSitDelete q n s
  | .sitParamsets q n => Sys2Proof.Machine.execSitParamsets q n s
  | .pbqMark q n => Sys2Proof.Machine.execPbqMark q n s
  | .ifSet q n => Sys2Proof.Machine.execIfSet q n s
  | .ifClear q n => Sys2Proof.Machine.execIfClear q n s
  | .dmxSet q n => Sys2Proof.Machine.execDmxSet q n s
  | .dmxClear q n => Sys2Proof.Machine.execDmxClear q n s
  | .inject q n => Sys2Proof.Machine.execInject q n s
  | .setTime q n => Sys2Proof.Machine.execSetTime q n s
  | .replaySetTime q n => Sys2Proof.Machine.execReplaySetTime q n s
  | .replayAdvance q n => Sys2Proof.Machine.execReplayAdvance q n s
  | .replaySitting p t => Sys2Proof.Machine.execReplaySitting p t s
  | .ringSet q n => Sys2Proof.Machine.execRingSet q n s
  | .ringDelete q n => Sys2Proof.Machine.execRingDelete q n s
  | .adaptSamples q n samples => Sys2Proof.Machine.execAdaptSamples q n samples s
  | .adaptStart q n => Sys2Proof.Machine.execAdaptStart q n s
  | .adaptAbort q n => Sys2Proof.Machine.execAdaptAbort q n s
  | .memGroup q n => Sys2Proof.Machine.execMemGroup q n s
  | .memInject q n => Sys2Proof.Machine.execMemInject q n s
  | .secCerts q n => Sys2Proof.Machine.execSecCerts q n s
  | .quote q n => Sys2Proof.Machine.execQuote q n s
  | .measLog q n => Sys2Proof.Machine.execMeasLog q n s
  | .measExtend q n => Sys2Proof.Machine.execMeasExtend q n s
  | .licInstall q n sigOk flashOk => Sys2Proof.Machine.execLicInstall q n sigOk flashOk s
  | .licRemove q n flashOk => Sys2Proof.Machine.execLicRemove q n flashOk s
  | .licList q n => Sys2Proof.Machine.execLicList q n s
  | .mbH2cWrite v => Sys2Proof.Machine.execMbH2cWrite v s
  | .curatorMailboxEcho => Sys2Proof.Machine.execCuratorMailboxEcho s
  | .mbC2hRead => Sys2Proof.Machine.execMbC2hRead s
  | .mbEmbxDataWrite e v => Sys2Proof.Machine.execMbEmbxDataWrite e v s
  | .mbFromDataRead e => Sys2Proof.Machine.execMbFromDataRead e s
  | .dbHostMaskWrite w v => Sys2Proof.Machine.execDbHostMaskWrite w v s
  | .hqRingConsWrite r v => Sys2Proof.Machine.execHqRingConsWrite r v s
  | .ingSprxConsWrite v => Sys2Proof.Machine.execIngSprxConsWrite v s
  | .ingSptxProdWrite v => Sys2Proof.Machine.execIngSptxProdWrite v s
  | .ethFrameReceive mac f => Sys2Proof.Machine.execEthFrameReceive mac f s
  | .mcastStateChangeReport iface group => Sys2Proof.Machine.execMcastStateChangeReport iface group s
  | .reorderGapTimeout sitter => Sys2Proof.Machine.execReorderGapTimeout sitter s
  | .ptpAnnounceTimeout => Sys2Proof.Machine.execPtpAnnounceTimeout s
  | .ptmDialogue r => Sys2Proof.Machine.execPtmDialogue r s
  | .ppsInEdge ferr => Sys2Proof.Machine.execPpsInEdge ferr s
  | .todRxMessage line => Sys2Proof.Machine.execTodRxMessage line s
  | .ppsEdgeTimeout => Sys2Proof.Machine.execPpsEdgeTimeout s
  | .ppsOutEdge => Sys2Proof.Machine.execPpsOutEdge s
  | .todTxSend => Sys2Proof.Machine.execTodTxSend s
  | .phaseBoundary => Sys2Proof.Machine.execPhaseBoundary s
  | .sittingInstant p t => Sys2Proof.Machine.execSittingInstant p t s
  | .decodeStart engine pic => Sys2Proof.Machine.execDecodeStart engine pic s
  | .decodeComplete engine busyUs => Sys2Proof.Machine.execDecodeComplete engine busyUs s
  | .engineDomainGate kind n => Sys2Proof.Machine.execEngineDomainGate kind n s
  | .framingSlotStart fu => Sys2Proof.Machine.execFramingSlotStart fu s
  | .framingSlotComplete fu => Sys2Proof.Machine.execFramingSlotComplete fu s
  | .cropListTake p => Sys2Proof.Machine.execCropListTake p s
  | .flowRequestTake ms p => Sys2Proof.Machine.execFlowRequestTake ms p s
  | .flowComplete ms => Sys2Proof.Machine.execFlowComplete ms s
  | .resultBlockTake p => Sys2Proof.Machine.execResultBlockTake p s
  | .resultGroupWrite sitter => Sys2Proof.Machine.execResultGroupWrite sitter s
  | .ringIntrTimer r => Sys2Proof.Machine.execRingIntrTimer r s
  | .loanStart e => Sys2Proof.Machine.execLoanStart e s
  | .loanRecall e cause => Sys2Proof.Machine.execLoanRecall e cause s
  | .add e a b c => Sys2Proof.Machine.execAdd e a b c s
  | .sub e a b c => Sys2Proof.Machine.execSub e a b c s
  | .andR e a b c => Sys2Proof.Machine.execAndR e a b c s
  | .orR e a b c => Sys2Proof.Machine.execOrR e a b c s
  | .xorR e a b c => Sys2Proof.Machine.execXorR e a b c s
  | .sll e a b c => Sys2Proof.Machine.execSll e a b c s
  | .srl e a b c => Sys2Proof.Machine.execSrl e a b c s
  | .sra e a b c => Sys2Proof.Machine.execSra e a b c s
  | .minR e a b c => Sys2Proof.Machine.execMinR e a b c s
  | .maxR e a b c => Sys2Proof.Machine.execMaxR e a b c s
  | .minu e a b c => Sys2Proof.Machine.execMinu e a b c s
  | .maxu e a b c => Sys2Proof.Machine.execMaxu e a b c s
  | .clz e a b c => Sys2Proof.Machine.execClz e a b c s
  | .popc e a b c => Sys2Proof.Machine.execPopc e a b c s
  | .andn e a b c => Sys2Proof.Machine.execAndn e a b c s
  | .sel e p a b c => Sys2Proof.Machine.execSel e p a b c s
  | .addi e a b imm => Sys2Proof.Machine.execAddi e a b imm s
  | .andi e a b imm => Sys2Proof.Machine.execAndi e a b imm s
  | .ori e a b imm => Sys2Proof.Machine.execOri e a b imm s
  | .xori e a b imm => Sys2Proof.Machine.execXori e a b imm s
  | .slli e a b imm => Sys2Proof.Machine.execSlli e a b imm s
  | .srli e a b imm => Sys2Proof.Machine.execSrli e a b imm s
  | .srai e a b imm => Sys2Proof.Machine.execSrai e a b imm s
  | .luih e a imm => Sys2Proof.Machine.execLuih e a imm s
  | .lui e a imm => Sys2Proof.Machine.execLui e a imm s
  | .cmp e f k a b c => Sys2Proof.Machine.execCmp e f k a b c s
  | .cmpi e f a b imm => Sys2Proof.Machine.execCmpi e f a b imm s
  | .pand e k a b c => Sys2Proof.Machine.execPand e k a b c s
  | .por e k a b c => Sys2Proof.Machine.execPor e k a b c s
  | .pxor e k a b c => Sys2Proof.Machine.execPxor e k a b c s
  | .pandn e k a b c => Sys2Proof.Machine.execPandn e k a b c s
  | .pnot e k a b c => Sys2Proof.Machine.execPnot e k a b c s
  | .pset e k a b c => Sys2Proof.Machine.execPset e k a b c s
  | .ptos e k a b c => Sys2Proof.Machine.execPtos e k a b c s
  | .stop e k a b c => Sys2Proof.Machine.execStop e k a b c s
  | .mul e k a b c => Sys2Proof.Machine.execMul e k a b c s
  | .mulh e k a b c => Sys2Proof.Machine.execMulh e k a b c s
  | .mulhu e k a b c => Sys2Proof.Machine.execMulhu e k a b c s
  | .div e k a b c => Sys2Proof.Machine.execDiv e k a b c s
  | .divu e k a b c => Sys2Proof.Machine.execDivu e k a b c s
  | .rem e k a b c => Sys2Proof.Machine.execRem e k a b c s
  | .remu e k a b c => Sys2Proof.Machine.execRemu e k a b c s
  | .ldl e f a b imm => Sys2Proof.Machine.execLdl e f a b imm s
  | .stl e f a b imm => Sys2Proof.Machine.execStl e f a b imm s
  | .ldg e f a b imm => Sys2Proof.Machine.execLdg e f a b imm s
  | .stg e f a b imm => Sys2Proof.Machine.execStg e f a b imm s
  | .br e a imm => Sys2Proof.Machine.execBr e a imm s
  | .jal e a imm => Sys2Proof.Machine.execJal e a imm s
  | .jalr e f a b imm => Sys2Proof.Machine.execJalr e f a b imm s
  | .dld e a b imm => Sys2Proof.Machine.execDld e a b imm s
  | .dst e a b imm => Sys2Proof.Machine.execDst e a b imm s
  | .dldg e a b imm => Sys2Proof.Machine.execDldg e a b imm s
  | .dstg e a b imm => Sys2Proof.Machine.execDstg e a b imm s
  | .drd e a b imm => Sys2Proof.Machine.execDrd e a b imm s
  | .dwr e a b imm => Sys2Proof.Machine.execDwr e a b imm s
  | .dcopy e a b imm => Sys2Proof.Machine.execDcopy e a b imm s
  | .fetch e w => Sys2Proof.Machine.execFetch e w s
  | .put e w => Sys2Proof.Machine.execPut e w s
  | .trackOpComplete e track => Sys2Proof.Machine.execTrackOpComplete e track s
  | .take e k a b c => Sys2Proof.Machine.execTake e k a b c s
  | .tset e k a b c => Sys2Proof.Machine.execTset e k a b c s
  | .waitI e k a b c => Sys2Proof.Machine.execWaitI e k a b c s
  | .waitSatisfied e => Sys2Proof.Machine.execWaitSatisfied e s
  | .ring e k a b c => Sys2Proof.Machine.execRing e k a b c s
  | .post e k a b c => Sys2Proof.Machine.execPost e k a b c s
  | .collect e k a b c => Sys2Proof.Machine.execCollect e k a b c s
  | .barrier e k a b c => Sys2Proof.Machine.execBarrier e k a b c s
  | .dispatch e k f a b c => Sys2Proof.Machine.execDispatch e k f a b c s
  | .leafStart e => Sys2Proof.Machine.execLeafStart e s
  | .leafHalted e => Sys2Proof.Machine.execLeafHalted e s
  | .atelierComplete unit => Sys2Proof.Machine.execAtelierComplete unit s
  | .ecrr e a b imm => Sys2Proof.Machine.execEcrr e a b imm s
  | .ecrw e a b imm => Sys2Proof.Machine.execEcrw e a b imm s
  | .trap e a b imm => Sys2Proof.Machine.execTrap e a b imm s
  | .halt e a b imm => Sys2Proof.Machine.execHalt e a b imm s
  | .twait e a b imm => Sys2Proof.Machine.execTwait e a b imm s
  | .watchdogExpiry e => Sys2Proof.Machine.execWatchdogExpiry e s
  | .stroke e w => Sys2Proof.Machine.execStroke e w s
  | .ewise e w => Sys2Proof.Machine.execEwise e w s
  | .swap e rsv => Sys2Proof.Machine.execSwap e rsv s
  | .loadacc e k f a b c => Sys2Proof.Machine.execLoadacc e k f a b c s
  | .drain e k f a b c => Sys2Proof.Machine.execDrain e k f a b c s
  | .plaunch e k f a b c => Sys2Proof.Machine.execPlaunch e k f a b c s
  | .plaunchF e r rf rg rsv => Sys2Proof.Machine.execPlaunchF e r rf rg rsv s
  | .pwait e k f a b c => Sys2Proof.Machine.execPwait e k f a b c s
  | .vadd e a b c => Sys2Proof.Machine.execVadd e a b c s
  | .vsub e a b c => Sys2Proof.Machine.execVsub e a b c s
  | .vmul e a b c => Sys2Proof.Machine.execVmul e a b c s
  | .vmin e a b c => Sys2Proof.Machine.execVmin e a b c s
  | .vmax e a b c => Sys2Proof.Machine.execVmax e a b c s
  | .vand e a b c => Sys2Proof.Machine.execVand e a b c s
  | .vor e a b c => Sys2Proof.Machine.execVor e a b c s
  | .vxor e a b c => Sys2Proof.Machine.execVxor e a b c s
  | .vsll e a b c => Sys2Proof.Machine.execVsll e a b c s
  | .vsrl e a b c => Sys2Proof.Machine.execVsrl e a b c s
  | .vsra e a b c => Sys2Proof.Machine.execVsra e a b c s
  | .vfadd e k a b c => Sys2Proof.Machine.execVfadd e k a b c s
  | .vfsub e k a b c => Sys2Proof.Machine.execVfsub e k a b c s
  | .vfmul e k a b c => Sys2Proof.Machine.execVfmul e k a b c s
  | .vfmin e k a b c => Sys2Proof.Machine.execVfmin e k a b c s
  | .vfmax e k a b c => Sys2Proof.Machine.execVfmax e k a b c s
  | .vfdiv e k a b c => Sys2Proof.Machine.execVfdiv e k a b c s
  | .vfsqrt e k a b c => Sys2Proof.Machine.execVfsqrt e k a b c s
  | .vfabs e k a b c => Sys2Proof.Machine.execVfabs e k a b c s
  | .vcmp e k f a b c => Sys2Proof.Machine.execVcmp e k f a b c s
  | .vsel e k a b c => Sys2Proof.Machine.execVsel e k a b c s
  | .vbcast e k a b c => Sys2Proof.Machine.execVbcast e k a b c s
  | .vget e k a b c => Sys2Proof.Machine.execVget e k a b c s
  | .vput e k a b c => Sys2Proof.Machine.execVput e k a b c s
  | .vperm e k a b c => Sys2Proof.Machine.execVperm e k a b c s
  | .viota e k a b c => Sys2Proof.Machine.execViota e k a b c s
  | .vcvt e k f a b c => Sys2Proof.Machine.execVcvt e k f a b c s
  | .vact e k f a b c => Sys2Proof.Machine.execVact e k f a b c s
  | .vsum e k a b c => Sys2Proof.Machine.execVsum e k a b c s
  | .vmaxr e k a b c => Sys2Proof.Machine.execVmaxr e k a b c s
  | .vargmax e k a b c => Sys2Proof.Machine.execVargmax e k a b c s
  | .visum e k a b c => Sys2Proof.Machine.execVisum e k a b c s
  | .vld e k f a b c => Sys2Proof.Machine.execVld e k f a b c s
  | .vst e k f a b c => Sys2Proof.Machine.execVst e k f a b c s
  | .vrs e k f a b c => Sys2Proof.Machine.execVrs e k f a b c s
  | .vcorr e k f a b c => Sys2Proof.Machine.execVcorr e k f a b c s
  | .vsort e k a b c => Sys2Proof.Machine.execVsort e k a b c s
  | .vmerge e k a b c => Sys2Proof.Machine.execVmerge e k a b c s
  | .viou e k a b c => Sys2Proof.Machine.execViou e k a b c s
  | .pquant e r rsv => Sys2Proof.Machine.execPquant e r rsv s
  | .psoftmax e r rsv => Sys2Proof.Machine.execPsoftmax e r rsv s
  | .plnorm e r rsv => Sys2Proof.Machine.execPlnorm e r rsv s
  | .prmsnorm e r rsv => Sys2Proof.Machine.execPrmsnorm e r rsv s
  | .ppool e r rsv => Sys2Proof.Machine.execPpool e r rsv s
  | .pdwconv e r rsv => Sys2Proof.Machine.execPdwconv e r rsv s
  | .pgconv e r rsv => Sys2Proof.Machine.execPgconv e r rsv s
  | .pewise e r rsv => Sys2Proof.Machine.execPewise e r rsv s
  | .canvasQueueExecute e back => Sys2Proof.Machine.execCanvasQueueExecute e back s
  | .paletteQueueExecute e => Sys2Proof.Machine.execPaletteQueueExecute e s
  | .primerJobStart cluster => Sys2Proof.Machine.execPrimerJobStart cluster s
  | .primerJobComplete cluster => Sys2Proof.Machine.execPrimerJobComplete cluster s
  | .shiftStep => Sys2Proof.Machine.execShiftStep s
  | .opChangeSettle mv => Sys2Proof.Machine.execOpChangeSettle mv s
  | .stretcherLinkRetrain link goodA goodB => Sys2Proof.Machine.execStretcherLinkRetrain link goodA goodB s
  | .telemetrySample t => Sys2Proof.Machine.execTelemetrySample t s
  | .pmAlert anyFault => Sys2Proof.Machine.execPmAlert anyFault s
  | .pwrAlert asserted => Sys2Proof.Machine.execPwrAlert asserted s
  | .alertAutoClear => Sys2Proof.Machine.execAlertAutoClear s
  | .thermTrip => Sys2Proof.Machine.execThermTrip s
  | .scrubRead array addr bits => Sys2Proof.Machine.execScrubRead array addr bits s
  | .gddrRefresh group channel bank => Sys2Proof.Machine.execGddrRefresh group channel bank s
  | .gddrRetrack group channel failed => Sys2Proof.Machine.execGddrRetrack group channel failed s
  | .rowIdleClose group channel bank => Sys2Proof.Machine.execRowIdleClose group channel bank s
  | .memGroupTransitionDone group retrained => Sys2Proof.Machine.execMemGroupTransitionDone group retrained s
  | .smbusReadStatus => Sys2Proof.Machine.execSmbusReadStatus s
  | .smbusReadTemperature => Sys2Proof.Machine.execSmbusReadTemperature s
  | .smbusReadPower => Sys2Proof.Machine.execSmbusReadPower s
  | .smbusReadDieTemps => Sys2Proof.Machine.execSmbusReadDieTemps s
  | .smbusReadIdentity => Sys2Proof.Machine.execSmbusReadIdentity s
  | .smbusReadPwrStatus => Sys2Proof.Machine.execSmbusReadPwrStatus s
  | .smbusWriteRefused code => Sys2Proof.Machine.execSmbusWriteRefused code s
  | .smbusCopyRefresh => Sys2Proof.Machine.execSmbusCopyRefresh s
  | .bypass => Sys2Proof.Machine.execBypass s
  | .idcode => Sys2Proof.Machine.execIdcode s
  | .samplePreload pins => Sys2Proof.Machine.execSamplePreload pins s
  | .extest => Sys2Proof.Machine.execExtest s
  | .highz => Sys2Proof.Machine.execHighz s
  | .porNAssert us => Sys2Proof.Machine.execPorNAssert us s
  | .powerLoss => Sys2Proof.Machine.execPowerLoss s
  | .pcieLinkUp speed width => Sys2Proof.Machine.execPcieLinkUp speed width s
  | .ethPortTrainFail port => Sys2Proof.Machine.execEthPortTrainFail port s
  | .ptpDelayReqSend => Sys2Proof.Machine.execPtpDelayReqSend s
  | .freedMemoryZeroed => Sys2Proof.Machine.execFreedMemoryZeroed s

end Sys2Proof.Machine
end

