-- ==== Sys2Proof/Machine/Caruk.lean ====
section
/-!
DEFINITION. The instruction words of Caruk (R157 to R160, R162, R164, R165, R171, R173, R179, R204, R246, R260): the word of each instruction command, the
command that a word spells, and the command that an Easel's sequencer meets at its program counter (R155).
-/
namespace Sys2Proof.Machine

/-- The 64-bit word of PLAUNCH.F (R260). -/
def wordLaunchF (r rf rg : RegF) (rsv : BitVec 42) : Nat :=
  rsv.toNat * 2 ^ 22 + rg.toNat * 2 ^ 17 + rf.toNat * 2 ^ 12 + r.toNat * 2 ^ 7 + 0x30 * 2 + 1

/-- Easel, bytes and word of an instruction command; none for a command that is no Caruk instruction. -/
def carukWord : Instr → Option (Nat × Nat × Nat)
  | .add e a b c => some (e, 4, wordR 0x00 0 0 c.toNat b.toNat a.toNat)
  | .sub e a b c => some (e, 4, wordR 0x00 0 1 c.toNat b.toNat a.toNat)
  | .andR e a b c => some (e, 4, wordR 0x00 0 2 c.toNat b.toNat a.toNat)
  | .orR e a b c => some (e, 4, wordR 0x00 0 3 c.toNat b.toNat a.toNat)
  | .xorR e a b c => some (e, 4, wordR 0x00 0 4 c.toNat b.toNat a.toNat)
  | .sll e a b c => some (e, 4, wordR 0x00 0 5 c.toNat b.toNat a.toNat)
  | .srl e a b c => some (e, 4, wordR 0x00 0 6 c.toNat b.toNat a.toNat)
  | .sra e a b c => some (e, 4, wordR 0x00 0 7 c.toNat b.toNat a.toNat)
  | .minR e a b c => some (e, 4, wordR 0x00 1 0 c.toNat b.toNat a.toNat)
  | .maxR e a b c => some (e, 4, wordR 0x00 1 1 c.toNat b.toNat a.toNat)
  | .minu e a b c => some (e, 4, wordR 0x00 1 2 c.toNat b.toNat a.toNat)
  | .maxu e a b c => some (e, 4, wordR 0x00 1 3 c.toNat b.toNat a.toNat)
  | .clz e a b c => some (e, 4, wordR 0x00 1 4 c.toNat b.toNat a.toNat)
  | .popc e a b c => some (e, 4, wordR 0x00 1 5 c.toNat b.toNat a.toNat)
  | .andn e a b c => some (e, 4, wordR 0x00 1 6 c.toNat b.toNat a.toNat)
  | .sel e p a b c => some (e, 4, wordR 0x00 (16 + p.toNat) 0 c.toNat b.toNat a.toNat)
  | .cmp e f k a b c => some (e, 4, wordR 0x04 k.toNat f.toNat c.toNat b.toNat a.toNat)
  | .pand e k a b c => some (e, 4, wordR 0x06 k.toNat 0 c.toNat b.toNat a.toNat)
  | .por e k a b c => some (e, 4, wordR 0x06 k.toNat 1 c.toNat b.toNat a.toNat)
  | .pxor e k a b c => some (e, 4, wordR 0x06 k.toNat 2 c.toNat b.toNat a.toNat)
  | .pandn e k a b c => some (e, 4, wordR 0x06 k.toNat 3 c.toNat b.toNat a.toNat)
  | .pnot e k a b c => some (e, 4, wordR 0x06 k.toNat 4 c.toNat b.toNat a.toNat)
  | .pset e k a b c => some (e, 4, wordR 0x06 k.toNat 5 c.toNat b.toNat a.toNat)
  | .ptos e k a b c => some (e, 4, wordR 0x06 k.toNat 6 c.toNat b.toNat a.toNat)
  | .stop e k a b c => some (e, 4, wordR 0x06 k.toNat 7 c.toNat b.toNat a.toNat)
  | .mul e k a b c => some (e, 4, wordR 0x07 k.toNat 0 c.toNat b.toNat a.toNat)
  | .mulh e k a b c => some (e, 4, wordR 0x07 k.toNat 1 c.toNat b.toNat a.toNat)
  | .mulhu e k a b c => some (e, 4, wordR 0x07 k.toNat 2 c.toNat b.toNat a.toNat)
  | .div e k a b c => some (e, 4, wordR 0x07 k.toNat 3 c.toNat b.toNat a.toNat)
  | .divu e k a b c => some (e, 4, wordR 0x07 k.toNat 4 c.toNat b.toNat a.toNat)
  | .rem e k a b c => some (e, 4, wordR 0x07 k.toNat 5 c.toNat b.toNat a.toNat)
  | .remu e k a b c => some (e, 4, wordR 0x07 k.toNat 6 c.toNat b.toNat a.toNat)
  | .take e k a b c => some (e, 4, wordR 0x10 k.toNat 0 c.toNat b.toNat a.toNat)
  | .tset e k a b c => some (e, 4, wordR 0x10 k.toNat 1 c.toNat b.toNat a.toNat)
  | .waitI e k a b c => some (e, 4, wordR 0x10 k.toNat 2 c.toNat b.toNat a.toNat)
  | .ring e k a b c => some (e, 4, wordR 0x10 k.toNat 3 c.toNat b.toNat a.toNat)
  | .post e k a b c => some (e, 4, wordR 0x10 k.toNat 4 c.toNat b.toNat a.toNat)
  | .collect e k a b c => some (e, 4, wordR 0x10 k.toNat 5 c.toNat b.toNat a.toNat)
  | .barrier e k a b c => some (e, 4, wordR 0x10 k.toNat 6 c.toNat b.toNat a.toNat)
  | .dispatch e k f a b c => some (e, 4, wordR 0x11 k.toNat f.toNat c.toNat b.toNat a.toNat)
  | .loadacc e k f a b c => some (e, 4, wordR 0x21 k.toNat f.toNat c.toNat b.toNat a.toNat)
  | .drain e k f a b c => some (e, 4, wordR 0x22 k.toNat f.toNat c.toNat b.toNat a.toNat)
  | .vadd e a b c => some (e, 4, wordR 0x28 0 0 c.toNat b.toNat a.toNat)
  | .vsub e a b c => some (e, 4, wordR 0x28 0 1 c.toNat b.toNat a.toNat)
  | .vmul e a b c => some (e, 4, wordR 0x28 0 2 c.toNat b.toNat a.toNat)
  | .vmin e a b c => some (e, 4, wordR 0x28 0 3 c.toNat b.toNat a.toNat)
  | .vmax e a b c => some (e, 4, wordR 0x28 0 4 c.toNat b.toNat a.toNat)
  | .vand e a b c => some (e, 4, wordR 0x28 0 5 c.toNat b.toNat a.toNat)
  | .vor e a b c => some (e, 4, wordR 0x28 0 6 c.toNat b.toNat a.toNat)
  | .vxor e a b c => some (e, 4, wordR 0x28 0 7 c.toNat b.toNat a.toNat)
  | .vsll e a b c => some (e, 4, wordR 0x28 1 0 c.toNat b.toNat a.toNat)
  | .vsrl e a b c => some (e, 4, wordR 0x28 1 1 c.toNat b.toNat a.toNat)
  | .vsra e a b c => some (e, 4, wordR 0x28 1 2 c.toNat b.toNat a.toNat)
  | .vfadd e k a b c => some (e, 4, wordR 0x29 k.toNat 0 c.toNat b.toNat a.toNat)
  | .vfsub e k a b c => some (e, 4, wordR 0x29 k.toNat 1 c.toNat b.toNat a.toNat)
  | .vfmul e k a b c => some (e, 4, wordR 0x29 k.toNat 2 c.toNat b.toNat a.toNat)
  | .vfmin e k a b c => some (e, 4, wordR 0x29 k.toNat 3 c.toNat b.toNat a.toNat)
  | .vfmax e k a b c => some (e, 4, wordR 0x29 k.toNat 4 c.toNat b.toNat a.toNat)
  | .vfdiv e k a b c => some (e, 4, wordR 0x29 k.toNat 5 c.toNat b.toNat a.toNat)
  | .vfsqrt e k a b c => some (e, 4, wordR 0x29 k.toNat 6 c.toNat b.toNat a.toNat)
  | .vfabs e k a b c => some (e, 4, wordR 0x29 k.toNat 7 c.toNat b.toNat a.toNat)
  | .vcmp e k f a b c => some (e, 4, wordR 0x2A k.toNat f.toNat c.toNat b.toNat a.toNat)
  | .vsel e k a b c => some (e, 4, wordR 0x2B k.toNat 0 c.toNat b.toNat a.toNat)
  | .vbcast e k a b c => some (e, 4, wordR 0x2B k.toNat 1 c.toNat b.toNat a.toNat)
  | .vget e k a b c => some (e, 4, wordR 0x2B k.toNat 2 c.toNat b.toNat a.toNat)
  | .vput e k a b c => some (e, 4, wordR 0x2B k.toNat 3 c.toNat b.toNat a.toNat)
  | .vperm e k a b c => some (e, 4, wordR 0x2B k.toNat 4 c.toNat b.toNat a.toNat)
  | .viota e k a b c => some (e, 4, wordR 0x2B k.toNat 5 c.toNat b.toNat a.toNat)
  | .vcvt e k f a b c => some (e, 4, wordR 0x2C k.toNat f.toNat c.toNat b.toNat a.toNat)
  | .vact e k f a b c => some (e, 4, wordR 0x2D k.toNat f.toNat c.toNat b.toNat a.toNat)
  | .vsum e k a b c => some (e, 4, wordR 0x2E k.toNat 0 c.toNat b.toNat a.toNat)
  | .vmaxr e k a b c => some (e, 4, wordR 0x2E k.toNat 1 c.toNat b.toNat a.toNat)
  | .vargmax e k a b c => some (e, 4, wordR 0x2E k.toNat 2 c.toNat b.toNat a.toNat)
  | .visum e k a b c => some (e, 4, wordR 0x2E k.toNat 3 c.toNat b.toNat a.toNat)
  | .vld e k f a b c => some (e, 4, wordR 0x2F k.toNat f.toNat c.toNat b.toNat a.toNat)
  | .vst e k f a b c => some (e, 4, wordR 0x30 k.toNat f.toNat c.toNat b.toNat a.toNat)
  | .vrs e k f a b c => some (e, 4, wordR 0x31 k.toNat f.toNat c.toNat b.toNat a.toNat)
  | .vcorr e k f a b c => some (e, 4, wordR 0x32 k.toNat f.toNat c.toNat b.toNat a.toNat)
  | .vsort e k a b c => some (e, 4, wordR 0x33 k.toNat 0 c.toNat b.toNat a.toNat)
  | .vmerge e k a b c => some (e, 4, wordR 0x33 k.toNat 1 c.toNat b.toNat a.toNat)
  | .viou e k a b c => some (e, 4, wordR 0x34 k.toNat 0 c.toNat b.toNat a.toNat)
  | .plaunch e k f a b c => some (e, 4, wordR 0x3C k.toNat f.toNat c.toNat b.toNat a.toNat)
  | .pwait e k f a b c => some (e, 4, wordR 0x3D k.toNat f.toNat c.toNat b.toNat a.toNat)
  | .addi e a b imm => some (e, 4, wordI 0x01 imm.toNat 0 b.toNat a.toNat)
  | .andi e a b imm => some (e, 4, wordI 0x01 imm.toNat 1 b.toNat a.toNat)
  | .ori e a b imm => some (e, 4, wordI 0x01 imm.toNat 2 b.toNat a.toNat)
  | .xori e a b imm => some (e, 4, wordI 0x01 imm.toNat 3 b.toNat a.toNat)
  | .slli e a b imm => some (e, 4, wordI 0x01 imm.toNat 4 b.toNat a.toNat)
  | .srli e a b imm => some (e, 4, wordI 0x01 imm.toNat 5 b.toNat a.toNat)
  | .srai e a b imm => some (e, 4, wordI 0x01 imm.toNat 6 b.toNat a.toNat)
  | .cmpi e f a b imm => some (e, 4, wordI 0x05 imm.toNat f.toNat b.toNat a.toNat)
  | .ldl e f a b imm => some (e, 4, wordI 0x08 imm.toNat f.toNat b.toNat a.toNat)
  | .stl e f a b imm => some (e, 4, wordI 0x09 imm.toNat f.toNat b.toNat a.toNat)
  | .ldg e f a b imm => some (e, 4, wordI 0x0A imm.toNat f.toNat b.toNat a.toNat)
  | .stg e f a b imm => some (e, 4, wordI 0x0B imm.toNat f.toNat b.toNat a.toNat)
  | .jalr e f a b imm => some (e, 4, wordI 0x0E imm.toNat f.toNat b.toNat a.toNat)
  | .ecrr e a b imm => some (e, 4, wordI 0x12 imm.toNat 0 b.toNat a.toNat)
  | .ecrw e a b imm => some (e, 4, wordI 0x12 imm.toNat 1 b.toNat a.toNat)
  | .trap e a b imm => some (e, 4, wordI 0x12 imm.toNat 2 b.toNat a.toNat)
  | .halt e a b imm => some (e, 4, wordI 0x12 imm.toNat 3 b.toNat a.toNat)
  | .twait e a b imm => some (e, 4, wordI 0x12 imm.toNat 4 b.toNat a.toNat)
  | .dld e a b imm => some (e, 4, wordI 0x13 imm.toNat 0 b.toNat a.toNat)
  | .dst e a b imm => some (e, 4, wordI 0x13 imm.toNat 1 b.toNat a.toNat)
  | .dldg e a b imm => some (e, 4, wordI 0x13 imm.toNat 2 b.toNat a.toNat)
  | .dstg e a b imm => some (e, 4, wordI 0x13 imm.toNat 3 b.toNat a.toNat)
  | .drd e a b imm => some (e, 4, wordI 0x13 imm.toNat 4 b.toNat a.toNat)
  | .dwr e a b imm => some (e, 4, wordI 0x13 imm.toNat 5 b.toNat a.toNat)
  | .dcopy e a b imm => some (e, 4, wordI 0x13 imm.toNat 6 b.toNat a.toNat)
  | .luih e a imm => some (e, 4, wordU 0x02 imm.toNat a.toNat)
  | .lui e a imm => some (e, 4, wordU 0x03 imm.toNat a.toNat)
  | .br e a imm => some (e, 4, wordU 0x0C imm.toNat a.toNat)
  | .jal e a imm => some (e, 4, wordU 0x0D imm.toNat a.toNat)
  | .swap e rsv => some (e, 4, rsv.toNat * 2 ^ 7 + 0x20 * 2)
  | .fetch e w => some (e, 8, wordMove 0x01 w)
  | .put e w => some (e, 8, wordMove 0x02 w)
  | .stroke e w => some (e, 8, wordStroke 0x10 w)
  | .ewise e w => some (e, 8, wordStroke 0x11 w)
  | .pquant e r rsv => some (e, 8, wordForm 0x20 r rsv)
  | .psoftmax e r rsv => some (e, 8, wordForm 0x21 r rsv)
  | .plnorm e r rsv => some (e, 8, wordForm 0x22 r rsv)
  | .prmsnorm e r rsv => some (e, 8, wordForm 0x23 r rsv)
  | .ppool e r rsv => some (e, 8, wordForm 0x24 r rsv)
  | .pdwconv e r rsv => some (e, 8, wordForm 0x25 r rsv)
  | .pgconv e r rsv => some (e, 8, wordForm 0x26 r rsv)
  | .pewise e r rsv => some (e, 8, wordForm 0x27 r rsv)
  | .plaunchF e r rf rg rsv => some (e, 8, wordLaunchF r rf rg rsv)
  | _ => none

/-! ### Decoding -/

/-- A 32-bit word of format R; none: the major opcode is not one of format R, or its selector is undefined (R159). -/
def decodeR (e w : Nat) : Option Instr :=
  let k : BitVec 7 := BitVec.ofNat 7 (bits w 31 25)
  let f : BitVec 3 := BitVec.ofNat 3 (bits w 24 22)
  let c : RegF := BitVec.ofNat 5 (bits w 21 17)
  let b : RegF := BitVec.ofNat 5 (bits w 16 12)
  let a : RegF := BitVec.ofNat 5 (bits w 11 7)
  match bits w 6 1 with
  | 0x00 =>
    match k.toNat, f.toNat with
    | 0, 0 => some (.add e a b c)
    | 0, 1 => some (.sub e a b c)
    | 0, 2 => some (.andR e a b c)
    | 0, 3 => some (.orR e a b c)
    | 0, 4 => some (.xorR e a b c)
    | 0, 5 => some (.sll e a b c)
    | 0, 6 => some (.srl e a b c)
    | 0, 7 => some (.sra e a b c)
    | 1, 0 => some (.minR e a b c)
    | 1, 1 => some (.maxR e a b c)
    | 1, 2 => some (.minu e a b c)
    | 1, 3 => some (.maxu e a b c)
    | 1, 4 => some (.clz e a b c)
    | 1, 5 => some (.popc e a b c)
    | 1, 6 => some (.andn e a b c)
    | kk, ff => if ff = 0 && kk / 8 = 2 then some (.sel e (BitVec.ofNat 3 kk) a b c) else none
  | 0x04 => some (.cmp e f k a b c)
  | 0x06 =>
    match f.toNat with
    | 0 => some (.pand e k a b c)
    | 1 => some (.por e k a b c)
    | 2 => some (.pxor e k a b c)
    | 3 => some (.pandn e k a b c)
    | 4 => some (.pnot e k a b c)
    | 5 => some (.pset e k a b c)
    | 6 => some (.ptos e k a b c)
    | _ => some (.stop e k a b c)
  | 0x07 =>
    match f.toNat with
    | 0 => some (.mul e k a b c)
    | 1 => some (.mulh e k a b c)
    | 2 => some (.mulhu e k a b c)
    | 3 => some (.div e k a b c)
    | 4 => some (.divu e k a b c)
    | 5 => some (.rem e k a b c)
    | 6 => some (.remu e k a b c)
    | _ => none
  | 0x10 =>
    match f.toNat with
    | 0 => some (.take e k a b c)
    | 1 => some (.tset e k a b c)
    | 2 => some (.waitI e k a b c)
    | 3 => some (.ring e k a b c)
    | 4 => some (.post e k a b c)
    | 5 => some (.collect e k a b c)
    | 6 => some (.barrier e k a b c)
    | _ => none
  | 0x11 => some (.dispatch e k f a b c)
  | 0x21 => some (.loadacc e k f a b c)
  | 0x22 => some (.drain e k f a b c)
  | 0x28 =>
    match k.toNat, f.toNat with
    | 0, 0 => some (.vadd e a b c)
    | 0, 1 => some (.vsub e a b c)
    | 0, 2 => some (.vmul e a b c)
    | 0, 3 => some (.vmin e a b c)
    | 0, 4 => some (.vmax e a b c)
    | 0, 5 => some (.vand e a b c)
    | 0, 6 => some (.vor e a b c)
    | 0, 7 => some (.vxor e a b c)
    | 1, 0 => some (.vsll e a b c)
    | 1, 1 => some (.vsrl e a b c)
    | 1, 2 => some (.vsra e a b c)
    | _, _ => none
  | 0x29 =>
    match f.toNat with
    | 0 => some (.vfadd e k a b c)
    | 1 => some (.vfsub e k a b c)
    | 2 => some (.vfmul e k a b c)
    | 3 => some (.vfmin e k a b c)
    | 4 => some (.vfmax e k a b c)
    | 5 => some (.vfdiv e k a b c)
    | 6 => some (.vfsqrt e k a b c)
    | _ => some (.vfabs e k a b c)
  | 0x2A => some (.vcmp e k f a b c)
  | 0x2B =>
    match f.toNat with
    | 0 => some (.vsel e k a b c)
    | 1 => some (.vbcast e k a b c)
    | 2 => some (.vget e k a b c)
    | 3 => some (.vput e k a b c)
    | 4 => some (.vperm e k a b c)
    | 5 => some (.viota e k a b c)
    | _ => none
  | 0x2C => some (.vcvt e k f a b c)
  | 0x2D => some (.vact e k f a b c)
  | 0x2E =>
    match f.toNat with
    | 0 => some (.vsum e k a b c)
    | 1 => some (.vmaxr e k a b c)
    | 2 => some (.vargmax e k a b c)
    | 3 => some (.visum e k a b c)
    | _ => none
  | 0x2F => some (.vld e k f a b c)
  | 0x30 => some (.vst e k f a b c)
  | 0x31 => some (.vrs e k f a b c)
  | 0x32 => some (.vcorr e k f a b c)
  | 0x33 =>
    match f.toNat with
    | 0 => some (.vsort e k a b c)
    | 1 => some (.vmerge e k a b c)
    | _ => none
  | 0x34 =>
    match f.toNat with
    | 0 => some (.viou e k a b c)
    | _ => none
  | 0x3C => some (.plaunch e k f a b c)
  | 0x3D => some (.pwait e k f a b c)
  | 0x20 => some (.swap e (BitVec.ofNat 25 (bits w 31 7)))
  | _ => none

/-- A 32-bit word of format I, U or J. -/
def decodeI (e w : Nat) : Option Instr :=
  let imm : BitVec 12 := BitVec.ofNat 12 (bits w 31 20)
  let f : BitVec 3 := BitVec.ofNat 3 (bits w 19 17)
  let b : RegF := BitVec.ofNat 5 (bits w 16 12)
  let a : RegF := BitVec.ofNat 5 (bits w 11 7)
  let wide : BitVec 20 := BitVec.ofNat 20 (bits w 31 12)
  match bits w 6 1 with
  | 0x01 =>
    match f.toNat with
    | 0 => some (.addi e a b imm)
    | 1 => some (.andi e a b imm)
    | 2 => some (.ori e a b imm)
    | 3 => some (.xori e a b imm)
    | 4 => some (.slli e a b imm)
    | 5 => some (.srli e a b imm)
    | 6 => some (.srai e a b imm)
    | _ => none
  | 0x05 => some (.cmpi e f a b imm)
  | 0x08 => some (.ldl e f a b imm)
  | 0x09 => some (.stl e f a b imm)
  | 0x0A => some (.ldg e f a b imm)
  | 0x0B => some (.stg e f a b imm)
  | 0x0E => some (.jalr e f a b imm)
  | 0x12 =>
    match f.toNat with
    | 0 => some (.ecrr e a b imm)
    | 1 => some (.ecrw e a b imm)
    | 2 => some (.trap e a b imm)
    | 3 => some (.halt e a b imm)
    | 4 => some (.twait e a b imm)
    | _ => none
  | 0x13 =>
    match f.toNat with
    | 0 => some (.dld e a b imm)
    | 1 => some (.dst e a b imm)
    | 2 => some (.dldg e a b imm)
    | 3 => some (.dstg e a b imm)
    | 4 => some (.drd e a b imm)
    | 5 => some (.dwr e a b imm)
    | 6 => some (.dcopy e a b imm)
    | _ => none
  | 0x02 => some (.luih e a wide)
  | 0x03 => some (.lui e a wide)
  | 0x0C => some (.br e a wide)
  | 0x0D => some (.jal e a wide)
  | _ => none

/-- Fields of FETCH and PUT (R158), and of STROKE and EWISE (R204). -/
def moveFields (w : Nat) : MoveF :=
  { rsv := BitVec.ofNat 25 (bits w 63 39), dev := BitVec.ofNat 1 (bits w 38 38), tb := BitVec.ofNat 2 (bits w 37 36), ta := BitVec.ofNat 2 (bits w 35 34)
    rg := BitVec.ofNat 5 (bits w 33 29), rf := BitVec.ofNat 5 (bits w 28 24), rl := BitVec.ofNat 5 (bits w 23 19), rc := BitVec.ofNat 5 (bits w 18 14)
    trk := BitVec.ofNat 3 (bits w 13 11), dn := BitVec.ofNat 4 (bits w 10 7) }

def strokeFields (w : Nat) : StrokeF :=
  { rsv := BitVec.ofNat 26 (bits w 63 38), clr := BitVec.ofNat 1 (bits w 37 37), neg := BitVec.ofNat 1 (bits w 36 36), lt := BitVec.ofNat 1 (bits w 35 35)
    mode := BitVec.ofNat 2 (bits w 34 33), tf := BitVec.ofNat 3 (bits w 32 30), lf := BitVec.ofNat 3 (bits w 29 27), rp := BitVec.ofNat 5 (bits w 26 22)
    rk := BitVec.ofNat 5 (bits w 21 17), rt := BitVec.ofNat 5 (bits w 16 12), rl := BitVec.ofNat 5 (bits w 11 7) }

/-- A 64-bit word. -/
def decodeWide (e w : Nat) : Option Instr :=
  let r : RegF := BitVec.ofNat 5 (bits w 11 7)
  let rsv : BitVec 52 := BitVec.ofNat 52 (bits w 63 12)
  match bits w 6 1 with
  | 0x01 => some (.fetch e (moveFields w))
  | 0x02 => some (.put e (moveFields w))
  | 0x10 => some (.stroke e (strokeFields w))
  | 0x11 => some (.ewise e (strokeFields w))
  | 0x20 => some (.pquant e r rsv)
  | 0x21 => some (.psoftmax e r rsv)
  | 0x22 => some (.plnorm e r rsv)
  | 0x23 => some (.prmsnorm e r rsv)
  | 0x24 => some (.ppool e r rsv)
  | 0x25 => some (.pdwconv e r rsv)
  | 0x26 => some (.pgconv e r rsv)
  | 0x27 => some (.pewise e r rsv)
  | 0x30 => some (.plaunchF e r (BitVec.ofNat 5 (bits w 16 12)) (BitVec.ofNat 5 (bits w 21 17)) (BitVec.ofNat 42 (bits w 63 22)))
  | _ => none

/-- The command that a word spells on an Easel: bit 0 gives the length (R157). -/
def decodeCaruk (e w : Nat) : Option Instr :=
  if w % 2 = 1 then decodeWide e w else match decodeR e w with | some c => some c | none => decodeI e w

/-! ### Fetching (R155, R157) -/

/-- The instruction command that an Easel's program runs next; none where the word is undefined. (Log 4 DESIGN CHOICE, 5 DESIGN CHOICE) -/
def State.nextCaruk (s : State) (e : Nat) : Option Instr :=
  let E := s.easel e
  let w := E.codeAt 4
  decodeCaruk e (if w % 2 = 1 then E.codeAt 8 else w)

end Sys2Proof.Machine
end

