-- ==== Sys2Proof/Machine/Tick.lean ====
section
/-!
DEFINITION. What time does when no command waits: one SYS_CLK cycle passes (R36), and a sequencer that stands where no instruction lies
faults (R155, R159).
-/
namespace Sys2Proof.Machine

/-- Nanoseconds of a SYS_CLK cycle at 25 MHz. (Log 2 DESIGN CHOICE) -/
def tickNs : Nat := 40

/-- A running Easel at a pc outside its code region, or at an undefined instruction word, faults: the table has no row for either
(R155, R159, R213, R238). (Log 6 DESIGN CHOICE) -/
def State.sequencer (s : State) (e : Nat) : State :=
  let E := s.easel e
  if !E.running || E.stall ≠ .none then s
  else if E.codeLimit < E.pc + (if E.codeAt 4 % 2 = 1 then 8 else 4) || E.pc % 4 ≠ 0 then s.easelFault e exFetch 0 E.pc 0
  else if (s.nextCaruk e).isNone then s.easelFault e exIllegal E.nextInsn 0 0
  else s

/-- One idle tick: store time runs once the part is READY (R37), and each sequencer looks at its next word. (Log 2 DESIGN CHOICE, 99 DESIGN CHOICE) -/
def tick (s : State) : State := if s.ready then (s.easels.map (·.1)).foldl State.sequencer (s.pass tickNs) else s

end Sys2Proof.Machine
end

