-- ==== Sys2Proof/Safety.lean ====
section
/-!
DEFINITION. The words that the statements use: when an Easel instruction issues, when a host command is next to run, what a command leaves
alone, and the canonical form of the memories.
-/
namespace Sys2Proof.Machine

/-! ### Commands that complete -/

/-- A command answers a next state. -/
def Completes (c : Instr) (s : State) : Prop := ∃ t, exec c s = .next t

/-- What the state after a command satisfies, the command having answered a next state. -/
def CompletesWith (c : Instr) (s : State) (P : State → Prop) : Prop := ∃ t, exec c s = .next t ∧ P t

/-! ### Easel instructions -/

/-- An Easel fetches its next instruction of `len` bytes: it runs, waits for nothing, and the fetch lies in its code region (R155). -/
def CanFetch (s : State) (e len : Nat) : Prop :=
  e < 192 ∧ s.board.clocksStopped = false ∧ (s.easel e).running = true ∧ (s.easel e).stall = .none
    ∧ (s.easel e).pc + len ≤ (s.easel e).codeLimit ∧ (s.easel e).pc % 4 = 0

/-- An instruction of `len` bytes issues on Easel e: the Easel exists, runs and waits for nothing, its clocks run, the fetch lies in its code
region (R155), and no pending result holds it back (R183, R235). -/
def CanIssue (s : State) (e len : Nat) (u : Uses) : Prop := CanFetch s e len ∧ (s.easel e).waits u = false

/-- Nothing but Easel e differs: every other Easel, every byte of device and host memory, and every other field are as before. -/
def OnlyEasel (s t : State) (e : Nat) : Prop :=
  (∀ k, k ≠ e → t.easel k = s.easel k) ∧ (∀ a, t.dev a = s.dev a)
    ∧ (∀ a, mread 0 t.pcie.hostMem a = mread 0 s.pcie.hostMem a) ∧ { t with easels := s.easels } = s

/-- Of an Easel, nothing but the scalar register r and the program counter differs. -/
def OnlyScalar (E F : Easel) (r : Nat) : Prop :=
  (∀ i, i ≠ r → F.sr i = E.sr i) ∧ { F with s := E.s, pc := E.pc } = E

/-- Of an Easel, nothing but the predicate register r and the program counter differs. -/
def OnlyPred (E F : Easel) (r : Nat) : Prop :=
  (∀ i, i < 8 → i ≠ r → F.pr i = E.pr i) ∧ { F with p := E.p, pc := E.pc } = E

/-- Leading zeros of a 64-bit number, 64 for 0: the powers of two below 2^64 that exceed it. -/
def leadingZeros (x : U64) : Nat := ((List.range 64).filter (fun i => x.toNat < 2 ^ i)).length

/-! ### Encodings -/

/-- A Caruk instruction whose minor fields are defined and whose reserved bits are 0 (R157 to R162, R164, R165, R171, R173, R179, R204, R205, R238,
R246, R260). Every other command counts as one. -/
def encodingOk : Instr → Bool
  | .clz _ _ _ c | .popc _ _ _ c => c = 0
  | .mul _ k _ _ _ | .mulh _ k _ _ _ | .mulhu _ k _ _ _ | .div _ k _ _ _ | .divu _ k _ _ _ | .rem _ k _ _ _ | .remu _ k _ _ _ => k = 0
  | .slli _ _ _ imm | .srli _ _ _ imm | .srai _ _ _ imm => imm.toNat < 64
  | .cmp _ f k a _ _ => f.toNat < 6 && k.toNat < 3 && a.toNat < 8
  | .cmpi _ f a _ _ => f.toNat < 6 && a.toNat < 8
  | .pand _ k a b c | .por _ k a b c | .pxor _ k a b c | .pandn _ k a b c => k = 0 && a.toNat < 8 && b.toNat < 8 && c.toNat < 8
  | .pnot _ k a b c => k = 0 && a.toNat < 8 && b.toNat < 8 && c = 0
  | .pset _ k a b c => k.toNat < 2 && a.toNat < 8 && b = 0 && c = 0
  | .ptos _ k _ b c => k = 0 && b = 0 && c = 0
  | .stop _ k a _ c => k = 0 && a = 0 && c = 0
  | .br _ a _ => a.toNat < 16
  | .jalr _ f _ _ _ => f = 0
  | .ldl _ f _ _ _ | .ldg _ f _ _ _ => f.toNat < 7
  | .stl _ f _ _ _ | .stg _ f _ _ _ => f.toNat < 4
  | .dld _ a _ _ | .dst _ a _ _ | .dldg _ a _ _ | .dstg _ a _ _ => a.toNat < 16
  | .drd _ _ b imm | .dwr _ _ b imm => b.toNat < 16 && imm.toNat < 4
  | .dcopy _ a b imm => a.toNat < 16 && b.toNat < 16 && imm = 0
  | .fetch _ w => w.rsv = 0
  | .put _ w => w.rsv = 0 && w.dev = 0
  | .take _ k _ b c => k.toNat < 8 && b = 0 && c.toNat < 16
  | .tset _ k a _ _ => k = 0 && a.toNat < 16
  | .waitI _ k a b c => k = 0 && a = 0 && (b ≠ 0 || c = 0)
  | .ring _ k a _ _ => k = 0 && a = 0
  | .post _ k a _ _ => k.toNat < 8 && a = 0
  | .collect _ k _ b c => k.toNat < 8 && b = 0 && c = 0
  | .barrier _ k a _ c => k = 0 && a = 0 && c = 0
  | .dispatch _ k f _ _ _ => k.toNat < 32 && f = 0
  | .ecrr _ _ b _ => b = 0
  | .ecrw _ a _ _ => a = 0
  | .trap _ a b _ => a = 0 && b = 0
  | .halt _ a b imm => a = 0 && b = 0 && imm = 0
  | .twait _ a b imm => a = 0 && b = 0 && imm.toNat < 256
  | .stroke _ w | .ewise _ w => w.rsv = 0 && w.mode.toNat < 3 && w.lf.toNat < 6 && w.tf.toNat < 6
  | .swap _ rsv => rsv = 0
  | .loadacc _ k f a b c =>
    c = 0 && ((f = 0 && k = 0 && a = 0 && b = 0) || ((f = 1 || f = 2) && k = 0 && a = 0) || (f = 3 && k.toNat < 2 && b = 0))
  | .drain _ _ _ _ b c => b = 0 && c = 0
  | .vfadd _ k _ _ _ | .vfsub _ k _ _ _ | .vfmul _ k _ _ _ | .vfmin _ k _ _ _ | .vfmax _ k _ _ _ | .vfdiv _ k _ _ _ | .vperm _ k _ _ _ => k = 0
  | .vfsqrt _ k _ _ c | .vfabs _ k _ _ c | .vbcast _ k _ _ c | .viota _ k _ _ c | .vsum _ k _ _ c | .vmaxr _ k _ _ c | .vargmax _ k _ _ c
  | .visum _ k _ _ c | .vmerge _ k _ _ c => k = 0 && c = 0
  | .vcmp _ k f _ _ _ => k.toNat < 2 && f.toNat < 4
  | .vsel _ k _ _ _ => k.toNat < 32
  | .vget _ k _ _ c | .vput _ k _ _ c => k.toNat < 64 && c = 0
  | .vcvt _ k f _ _ c => k = 0 && f.toNat < 7 && c = 0
  | .vact _ k f _ _ c => k.toNat < 8 && f = 0 && c = 0
  | .vld _ k _ _ _ c => k = 0 && c = 0
  | .vst _ k f _ _ c => k = 0 && f.toNat < 3 && c = 0
  | .vrs _ k f _ _ _ => k.toNat < 64 && f = 0
  | .vcorr _ k f _ _ _ => k.toNat < 32 && f = 0
  | .vsort _ k _ b c => k = 0 && b = 0 && c = 0
  | .viou _ k _ _ _ => k.toNat < 64
  | .pquant _ _ rsv | .psoftmax _ _ rsv | .plnorm _ _ rsv | .prmsnorm _ _ rsv | .ppool _ _ rsv | .pdwconv _ _ rsv | .pgconv _ _ rsv
  | .pewise _ _ rsv => rsv = 0
  | .plaunch _ k f a _ c => k = 0 && f = 0 && a = 0 && c = 0
  | .plaunchF _ _ _ _ rsv => rsv = 0
  | .pwait _ k f a b c => k = 0 && f = 0 && a = 0 && b = 0 && c = 0
  | _ => true

/-! ### Host accesses and commands -/

/-- BAR requests are served and the part is READY. -/
def HostOn (s : State) : Prop := s.barOn = true ∧ s.ready = true

/-- The host command with number n of queue q, entry e and input block b has started, has no answer and does not wait; it may run now. -/
def CmdReady (s : State) (q : Nat) (n : U32) (e : Entry) (b : List Byte) : Prop :=
  q < 64 ∧ s.ready = true ∧ s.heldBack e = false
    ∧ s.cmd? q n = some { entry := e, started := true, block := some b, waiting := false, answer := none }

/-- The unanswered command n of queue q in state s has this status and result in state t. -/
def Answered (s t : State) (q : Nat) (n : U32) (status result : Nat) : Prop :=
  ∃ c, s.cmd? q n = some c ∧ c.withAnswer status result ∈ (t.queue q).cmds

/-- The unanswered command n of queue q waits for its effect to end. -/
def Waits (t : State) (q : Nat) (n : U32) : Prop := ∃ c, t.cmd? q n = some c ∧ c.waiting = true

/-- The command that row `i` runs, number n of queue q, answers with this status and result, and `P` holds after it. -/
def Answers (i : Instr) (s : State) (q : Nat) (n : U32) (status result : Nat) (P : State → Prop) : Prop :=
  CompletesWith i s (fun t => Answered s t q n status result ∧ P t)

/-- The command is refused with an error code: it answers, and acts on nothing else (R429). -/
def Refuses (i : Instr) (s : State) (q : Nat) (n : U32) (code : Nat) : Prop := CompletesWith i s (fun t => t = s.answer q n code 0)

/-! ### Memories -/

/-- Every byte memory of the state has its canonical form: addresses strictly rising, no entry equal to the value an unlisted byte reads. -/
def MemInv (s : State) : Prop :=
  Memory.wf 0 s.mem.dev = true ∧ Memory.wf 0 s.pcie.hostMem = true ∧ Memory.wf 0xFF s.boot.flash = true
    ∧ ∀ x ∈ s.easels, Memory.wf 0 x.2.ls = true ∧ Memory.wf 0 x.2.is = true

end Sys2Proof.Machine
end

