-- ==== Sys2Proof/Certificates/Slice0/Obligations.lean ====
section
/-!
DEFINITION. The statements about the ML8.
-/
open Sys2Proof Sys2Proof.Machine

/-- With a command at the front of the queue, a step answers what exec answers for it on the state with the queue's rest. -/
def Obligations.StepTakesFront : Prop :=
  ∀ (s : State) (c : Instr) (rest : List Instr), step { s with pending := c :: rest } = exec c { s with pending := rest }

/-- Model choice (logs 2, 6 and 99): on an empty queue a step answers a next state. When the part is not READY, or its clocks stand
still, nothing changes. Otherwise 40 ns of SYS_CLK pass: store time advances by 40 ns at the rate that the frequency correction
gives, with what is left of a ns carried. With no Easel running, memory, host interface, partitions, boot state, queue and every
Easel's registers and memories are as before. A single running Easel that waits for nothing and whose program counter leaves its
code region takes an EX_FETCH fault, and one at a word that is no instruction an EX_ILLEGAL fault. -/
def Obligations.IdleStepPassesTime : Prop :=
  ∀ s : State, s.pending = [] → (s.ready = false → step s = .next s)
    ∧ (s.ready = true → ∃ t, step s = .next t
      ∧ t.tb.time = s.tb.time + BitVec.ofNat 64 ((40 * s.tb.rate + s.tb.frac) / 1000000000) ∧ t.tb.frac = (40 * s.tb.rate + s.tb.frac) % 1000000000
      ∧ t.clock = s.clock + 40 ∧ t.pending = []
      ∧ ((∀ x ∈ s.easels, x.2.running = false) → t.mem = s.mem ∧ t.host = s.host ∧ t.parts = s.parts ∧ t.boot = s.boot ∧ t.disps = s.disps
        ∧ { t.pcie with flrNs := s.pcie.flrNs } = s.pcie
        ∧ ∀ e, (t.easel e).ls = (s.easel e).ls ∧ (t.easel e).s = (s.easel e).s ∧ (t.easel e).pc = (s.easel e).pc ∧ (t.easel e).running = false)
      ∧ (∀ e E, s.easels = [(e, E)] → E.running = true → E.stall = .none →
          let u := s.pass 40
          (E.codeLimit < E.pc + 4 → E.pc + 4 ≤ 2 ^ 63 → t = u.easelFault e exFetch 0 E.pc 0)
          ∧ (E.pc + 8 ≤ E.codeLimit → E.pc % 4 = 0 → u.nextCaruk e = none → t = u.easelFault e exIllegal E.nextInsn 0 0)))

/-- When ADD, SUB, AND, OR, XOR, SLL, SRL, SRA, MIN, MAX, MINU, MAXU, ANDN, SEL, CLZ, POPC (C = 0) issue, they answer the state in
which s[A] holds the result computed in exact integers and wrapped to 64 bits, and pc has advanced by 4. When ADDI, ANDI, ORI,
XORI, LUIH, LUI, SLLI, SRLI, SRAI (I12 below 64) issue, they answer the state in which s[A] holds the result over the sign-
extended immediate and pc has advanced by 4. -/
def Obligations.ScalarResults : Prop :=
  (
  ∀ (s : State) (e : Nat) (a b c : RegF) (p : BitVec 3), CanIssue s e 4 { sr := [a.toNat, b.toNat, c.toNat] } →
    let E := s.easel e
    let x := E.sr b.toNat
    let y := E.sr c.toNat
    let done (v : U64) : Out := .next (s.retire e 4 (E.setSr a.toNat v))
    exec (.add e a b c) s = done (BitVec.ofNat 64 (x.toNat + y.toNat))
    ∧ exec (.sub e a b c) s = done (BitVec.ofInt 64 (x.toInt - y.toInt))
    ∧ exec (.andR e a b c) s = done (BitVec.ofNat 64 (x.toNat &&& y.toNat))
    ∧ exec (.orR e a b c) s = done (BitVec.ofNat 64 (x.toNat ||| y.toNat))
    ∧ exec (.xorR e a b c) s = done (BitVec.ofNat 64 (x.toNat ^^^ y.toNat))
    ∧ exec (.sll e a b c) s = done (BitVec.ofNat 64 (x.toNat * 2 ^ (y.toNat % 64)))
    ∧ exec (.srl e a b c) s = done (BitVec.ofNat 64 (x.toNat / 2 ^ (y.toNat % 64)))
    ∧ exec (.sra e a b c) s = done (BitVec.ofInt 64 (x.toInt / 2 ^ (y.toNat % 64)))
    ∧ exec (.minR e a b c) s = done (BitVec.ofInt 64 (min x.toInt y.toInt))
    ∧ exec (.maxR e a b c) s = done (BitVec.ofInt 64 (max x.toInt y.toInt))
    ∧ exec (.minu e a b c) s = done (BitVec.ofNat 64 (min x.toNat y.toNat))
    ∧ exec (.maxu e a b c) s = done (BitVec.ofNat 64 (max x.toNat y.toNat))
    ∧ exec (.andn e a b c) s = done (BitVec.ofNat 64 (x.toNat &&& (2 ^ 64 - 1 - y.toNat)))
    ∧ exec (.sel e p a b c) s = done (if E.pr p.toNat then x else y)
    ∧ (c = 0 → exec (.clz e a b c) s = done (BitVec.ofNat 64 (leadingZeros x)))
    ∧ (c = 0 → exec (.popc e a b c) s = done (BitVec.ofNat 64 ((List.range 64).countP (fun i => x.getLsbD i))))
  )
  ∧
  (
  ∀ (s : State) (e : Nat) (a b : RegF) (imm : BitVec 12) (wide : BitVec 20),
    CanIssue s e 4 { sr := [a.toNat, b.toNat] } → CanIssue s e 4 { sr := [a.toNat] } →
    let E := s.easel e
    let x := E.sr b.toNat
    let done (v : U64) : Out := .next (s.retire e 4 (E.setSr a.toNat v))
    exec (.addi e a b imm) s = done (BitVec.ofInt 64 (x.toInt + imm.toInt))
    ∧ exec (.andi e a b imm) s = done (x &&& BitVec.ofInt 64 imm.toInt)
    ∧ exec (.ori e a b imm) s = done (x ||| BitVec.ofInt 64 imm.toInt)
    ∧ exec (.xori e a b imm) s = done (x ^^^ BitVec.ofInt 64 imm.toInt)
    ∧ (imm.toNat < 64 → exec (.slli e a b imm) s = done (BitVec.ofNat 64 (x.toNat * 2 ^ imm.toNat)))
    ∧ (imm.toNat < 64 → exec (.srli e a b imm) s = done (BitVec.ofNat 64 (x.toNat / 2 ^ imm.toNat)))
    ∧ (imm.toNat < 64 → exec (.srai e a b imm) s = done (BitVec.ofInt 64 (x.toInt / 2 ^ imm.toNat)))
    ∧ exec (.luih e a wide) s = done (BitVec.ofInt 64 ((E.sr a.toNat).toNat % 2 ^ 32 + wide.toInt * 2 ^ 32))
    ∧ exec (.lui e a wide) s = done (BitVec.ofInt 64 (wide.toInt * 2 ^ 12))
  )

/-- When a MULDIV instruction with K = 0 issues, it answers the state in which s[A] holds the low or high half of the exact product,
or the quotient or remainder truncated towards zero; with divisor 0, DIV and DIVU give all ones and REM and REMU give s[B]; -2^63
divided by -1 gives quotient -2^63 and remainder 0. -/
def Obligations.MultiplyDivideResults : Prop :=
  ∀ (s : State) (e : Nat) (a b c : RegF), CanIssue s e 4 { sr := [a.toNat, b.toNat, c.toNat] } →
    let E := s.easel e
    let x := E.sr b.toNat
    let y := E.sr c.toNat
    let done (v : U64) : Out := .next (s.retire e 4 (E.setSr a.toNat v))
    exec (.mul e 0 a b c) s = done (BitVec.ofInt 64 (x.toInt * y.toInt))
    ∧ exec (.mulh e 0 a b c) s = done (BitVec.ofInt 64 (x.toInt * y.toInt / 2 ^ 64))
    ∧ exec (.mulhu e 0 a b c) s = done (BitVec.ofNat 64 (x.toNat * y.toNat / 2 ^ 64))
    ∧ exec (.div e 0 a b c) s = done (if y = 0 then -1 else BitVec.ofInt 64 (x.toInt.tdiv y.toInt))
    ∧ exec (.divu e 0 a b c) s = done (if y = 0 then BitVec.ofNat 64 (2 ^ 64 - 1) else BitVec.ofNat 64 (x.toNat / y.toNat))
    ∧ exec (.rem e 0 a b c) s = done (if y = 0 then x else BitVec.ofInt 64 (x.toInt.tmod y.toInt))
    ∧ exec (.remu e 0 a b c) s = done (if y = 0 then x else BitVec.ofNat 64 (x.toNat % y.toNat))
    ∧ (x.toInt = -2 ^ 63 → y.toInt = -1 →
        exec (.div e 0 a b c) s = done (BitVec.ofInt 64 (-2 ^ 63)) ∧ exec (.rem e 0 a b c) s = done 0)

/-- When CMP, CMPI, PAND, POR, PXOR, PANDN, PNOT, PSET, PTOS and STOP with a defined encoding issue, they answer the state in which
the predicates, or for PTOS the scalar register, hold the result, and pc has advanced by 4. BR goes to pc + 4 × sext(I20) modulo
2^64 when p[A[2:0]] XOR A[3] is 1, else to pc + 4; JAL and JALR store pc + 4 in s[A]; JALR goes to s[B] + sext(I12) with bits 1
and 0 cleared, s[B] read before s[A] is written. -/
def Obligations.PredicateAndBranchResults : Prop :=
  (
  ∀ (s : State) (e : Nat) (a b c : RegF) (imm : BitVec 12), CanIssue s e 4 { sr := [a.toNat, b.toNat, c.toNat] } →
    CanIssue s e 4 { sr := [b.toNat, c.toNat] } → CanIssue s e 4 { sr := [b.toNat] } → CanIssue s e 4 { sr := [a.toNat] } → CanIssue s e 4 {} →
    let E := s.easel e
    let x := E.sr b.toNat
    let y := E.sr c.toNat
    let setp (v : Bool) : Out := .next (s.retire e 4 (E.setPr a.toNat v))
    (a.toNat < 8 →
      (∀ (cnd : Int → Int → Nat → Nat → Bool) (f : BitVec 3),
        (f, cnd) ∈ ([(0, fun _ _ m n => decide (m = n)), (1, fun _ _ m n => decide (m ≠ n)), (2, fun i j _ _ => decide (i < j)),
          (3, fun i j _ _ => decide (j ≤ i)), (4, fun _ _ m n => decide (m < n)), (5, fun _ _ m n => decide (n ≤ m))] :
            List (BitVec 3 × (Int → Int → Nat → Nat → Bool))) →
        exec (.cmp e f 0 a b c) s = setp (cnd x.toInt y.toInt x.toNat y.toNat)
        ∧ exec (.cmp e f 1 a b c) s = setp (E.pr a.toNat && cnd x.toInt y.toInt x.toNat y.toNat)
        ∧ exec (.cmp e f 2 a b c) s = setp (E.pr a.toNat || cnd x.toInt y.toInt x.toNat y.toNat)
        ∧ exec (.cmpi e f a b imm) s = setp (cnd x.toInt imm.toInt x.toNat (BitVec.ofInt 64 imm.toInt).toNat))
      ∧ exec (.pset e 0 a 0 0) s = setp false ∧ exec (.pset e 1 a 0 0) s = setp true
      ∧ (b.toNat < 8 → exec (.pnot e 0 a b 0) s = setp (!E.pr b.toNat))
      ∧ (b.toNat < 8 → c.toNat < 8 →
        exec (.pand e 0 a b c) s = setp (E.pr b.toNat && E.pr c.toNat)
        ∧ exec (.por e 0 a b c) s = setp (E.pr b.toNat || E.pr c.toNat)
        ∧ exec (.pxor e 0 a b c) s = setp (E.pr b.toNat ^^ E.pr c.toNat)
        ∧ exec (.pandn e 0 a b c) s = setp (E.pr b.toNat && !E.pr c.toNat)))
    ∧ (∃ v, exec (.ptos e 0 a 0 0) s = .next (s.retire e 4 (E.setSr a.toNat v)) ∧ ∀ i, v.getLsbD i = (decide (i < 8) && E.pr i))
    ∧ (∃ F, exec (.stop e 0 0 b 0) s = .next (s.retire e 4 F) ∧ { F with p := E.p } = E ∧ ∀ i, i < 8 → F.pr i = (decide (i = 0) || x.getLsbD i))
  )
  ∧
  (
  ∀ (s : State) (e : Nat) (a b : RegF) (imm : BitVec 12) (wide : BitVec 20), CanIssue s e 4 { sr := [a.toNat, b.toNat] } → CanIssue s e 4 {} →
    CanIssue s e 4 { sr := [a.toNat] } →
    let E := s.easel e
    let far : Int := ((E.pc : Int) + 4 * wide.toInt) % 2 ^ 64
    (a.toNat < 16 → CompletesWith (.br e a wide) s (fun t => OnlyEasel s t e ∧ { t.easel e with pc := E.pc } = E
      ∧ ((t.easel e).pc : Int) = if E.pr (a.toNat % 8) ^^ decide (8 ≤ a.toNat) then far else E.pc + 4))
    ∧ CompletesWith (.jal e a wide) s (fun t => OnlyEasel s t e ∧ OnlyScalar E (t.easel e) a.toNat
      ∧ (t.easel e).sr a.toNat = (if a = 0 then 0 else BitVec.ofNat 64 (E.pc + 4)) ∧ ((t.easel e).pc : Int) = far)
    ∧ CompletesWith (.jalr e 0 a b imm) s (fun t => OnlyEasel s t e ∧ OnlyScalar E (t.easel e) a.toNat
      ∧ (t.easel e).sr a.toNat = (if a = 0 then 0 else BitVec.ofNat 64 (E.pc + 4))
      ∧ ((t.easel e).pc : Int) = ((E.sr b.toNat).toInt + imm.toInt) % 2 ^ 64 / 4 * 4)
  )

/-- When ADD to REMU, SEL, the immediate forms, LUI, LUIH, PTOS or DRD issue with a defined encoding, nothing but s[A] and the pc of
Easel e differs; the same of the compare and predicate instructions with p[A]; s0 and p0 never change. -/
def Obligations.RegisterInstructionFrame : Prop :=
  (∀ (s t : State) (e : Nat) (a b c : RegF) (k : BitVec 7) (p : BitVec 3) (imm : BitVec 12) (wide : BitVec 20) (i : Instr),
    (s.easel e).running = true → (t.easel e).running = true →
    i ∈ ([.add e a b c, .sub e a b c, .andR e a b c, .orR e a b c, .xorR e a b c, .sll e a b c, .srl e a b c, .sra e a b c, .minR e a b c,
      .maxR e a b c, .minu e a b c, .maxu e a b c, .clz e a b c, .popc e a b c, .andn e a b c, .sel e p a b c, .addi e a b imm, .andi e a b imm,
      .ori e a b imm, .xori e a b imm, .slli e a b imm, .srli e a b imm, .srai e a b imm, .luih e a wide, .lui e a wide, .ptos e k a b c,
      .mul e k a b c, .mulh e k a b c, .mulhu e k a b c, .div e k a b c, .divu e k a b c, .rem e k a b c, .remu e k a b c,
      .drd e a b imm] : List Instr) →
    exec i s = .next t → OnlyEasel s t e ∧ OnlyScalar (s.easel e) (t.easel e) a.toNat ∧ (t.easel e).sr 0 = 0)
  ∧ (∀ (s t : State) (e : Nat) (a b c : RegF) (f : BitVec 3) (k : BitVec 7) (imm : BitVec 12) (i : Instr),
    (s.easel e).running = true → (t.easel e).running = true →
    i ∈ ([.cmp e f k a b c, .cmpi e f a b imm, .pand e k a b c, .por e k a b c, .pxor e k a b c, .pandn e k a b c, .pnot e k a b c,
      .pset e k a b c] : List Instr) →
    exec i s = .next t → OnlyEasel s t e ∧ OnlyPred (s.easel e) (t.easel e) a.toNat ∧ (t.easel e).pr 0 = true)

/-- For every Caruk instruction command: when it would issue (Easel running, not waiting, fetch in the code region) and its encoding
has an undefined minor field or a non-zero reserved bit, exec answers the state of an EX_ILLEGAL fault of that Easel that records
the instruction's own word. After a fault of Easel e with a cause: the Easel runs no more, waits for nothing, and has no
outstanding track operation and no queued Canvas, Palette or Primer work; when the partition whose work it ran was RUNNING, that
partition is RESTARTING with the kept 64-byte record, which holds the cause, the Easel, the program counter, the instruction, the
address and the detail; every other Easel is unchanged. -/
def Obligations.EaselFaultResults : Prop :=
  (
  ∀ (s : State) (i : Instr) (e n w : Nat), carukWord i = some (e, n, w) → encodingOk i = false → CanFetch s e n →
    exec i s = .next (s.easelFault e exIllegal w 0 0)
  )
  ∧
  (
  ∀ (s : State) (e cause insn addr detail : Nat), cause < 256 →
    let E := s.easel e
    let t := s.easelFault e cause insn addr detail
    (t.easel e).running = false ∧ (t.easel e).stall = .none ∧ (t.easel e).tracks = [] ∧ (t.easel e).frontQ = [] ∧ (t.easel e).backQ = []
    ∧ (t.easel e).palQ = [] ∧ (∀ j ∈ t.primer (clusterOf e), j.easel ≠ e) ∧ (∀ k, k ≠ e → t.easel k = s.easel k)
    ∧ (∀ P, s.part? (s.workPart e) = some P → P.state = .running → ∃ Q c, t.part? (s.workPart e) = some Q ∧ Q.state = .restarting
      ∧ Q.cause = some c ∧ c.cause = 1 ∧ c.fault.toNat = cause ∧ c.easel = BitVec.ofNat 16 e ∧ c.exc.length = 64
      ∧ fieldLE c.exc 1 1 = cause ∧ fieldLE c.exc 2 2 = e % 2 ^ 16 ∧ fieldLE c.exc 4 4 = E.pc % 2 ^ 32 ∧ fieldLE c.exc 8 8 = insn % 2 ^ 64
      ∧ fieldLE c.exc 16 8 = addr % 2 ^ 64 ∧ fieldLE c.exc 24 8 = detail % 2 ^ 64)
  )

/-- For every Caruk instruction command on a running Easel that waits for nothing: when its bytes do not lie in the code region (or
the lent window) or the program counter is no multiple of 4, exec answers the state of an EX_FETCH fault whose address is the
program counter. For every Caruk instruction command: on an Easel that is not running, that waits, or whose clocks are stopped,
exec answers the state unchanged. -/
def Obligations.FetchAndStallResults : Prop :=
  (
  ∀ (s : State) (i : Instr) (e n w : Nat), carukWord i = some (e, n, w) → e < 192 → s.board.clocksStopped = false →
    (s.easel e).running = true → (s.easel e).stall = .none →
    ((s.easel e).codeLimit < (s.easel e).pc + n ∨ (s.easel e).pc % 4 ≠ 0) →
    exec i s = .next (s.easelFault e exFetch 0 (s.easel e).pc 0)
  )
  ∧
  (
  ∀ (s : State) (i : Instr) (e n w : Nat), carukWord i = some (e, n, w) → e < 192 →
    ((s.easel e).running = false ∨ (s.easel e).stall ≠ .none ∨ s.board.clocksStopped = true) → exec i s = .next s
  )

/-- An aligned load inside its space that nothing holds back puts the little-endian value of its bytes, sign-extended for LB, LH, LW
and LD and zero-extended for LBU, LHU and LWU, into s[A]; DLD and DLDG put 32 bytes into d[A]; nothing else but the pc changes.
LDL and DLD read the local store (on loan, the lent window), LDG and DLDG the own-die Gallery inside the partition's granules. A
Gallery word with one or two flipped bits is corrected and its value loaded; one with three is not delivered. DRD puts quadword
I12 of d[B] into s[A]; DWR replaces quadword I12 of d[B] by s[A] and keeps the other three; DCOPY puts d[B] into d[A]; nothing
else but the pc changes. -/
def Obligations.LoadAndDescriptorResults : Prop :=
  (
  ∀ (s : State) (e : Nat) (f : BitVec 3) (a b : RegF) (imm : BitVec 12), f ≠ 7 →
    let E := s.easel e
    let x := (E.sr b.toNat + BitVec.ofInt 64 imm.toInt).toNat
    let n := [1, 2, 4, 8, 1, 2, 4, 8].getD f.toNat 0
    let val (l : List Byte) : U64 := if f.toNat < 4 then BitVec.ofInt 64 (Int.bmod (leNat l) (2 ^ (8 * n))) else BitVec.ofNat 64 (leNat l)
    (CanIssue s e 4 { sr := [a.toNat, b.toNat] } → x % n = 0 →
      (x + n ≤ E.lsLimit → s.lsStall e x n false = false →
        CompletesWith (.ldl e f a b imm) s (fun t => OnlyEasel s t e ∧ OnlyScalar E (t.easel e) a.toNat ∧ (t.easel e).pc = E.pc + 4
          ∧ (a ≠ 0 → (t.easel e).sr a.toNat = val (mreadN 0 E.ls (E.lsBase + x) n))))
      ∧ (x + n ≤ gallerySize → s.ownsRange (s.workPart e) (galleryBase (dieOf e) + x, n) = true → s.flipsIn [(galleryBase (dieOf e) + x, n)] = [] →
        CompletesWith (.ldg e f a b imm) s (fun t => OnlyEasel s t e ∧ OnlyScalar E (t.easel e) a.toNat ∧ (t.easel e).pc = E.pc + 4
          ∧ (a ≠ 0 → (t.easel e).sr a.toNat = val (s.devN (galleryBase (dieOf e) + x) n))))
      ∧ (x + n ≤ gallerySize → s.ownsRange (s.workPart e) (galleryBase (dieOf e) + x, n) = true →
        let bad := s.flipsIn [(galleryBase (dieOf e) + x, n)]
        ((∀ g ∈ bad, g.2.length ≤ 2) → CompletesWith (.ldg e f a b imm) s (fun t => (t.easel e).pc = E.pc + 4
          ∧ (a ≠ 0 → (t.easel e).sr a.toNat = val (s.devN (galleryBase (dieOf e) + x) n)) ∧ ∀ y, t.dev y = s.dev y))
        ∧ ((∃ g ∈ bad, 2 < g.2.length) → CompletesWith (.ldg e f a b imm) s (fun t => (t.easel e).s = E.s))))
    ∧ (CanIssue s e 4 { sr := [b.toNat] } → a.toNat < 16 → x % 32 = 0 →
      (x + 32 ≤ E.lsLimit → s.lsStall e x 32 false = false →
        CompletesWith (.dld e a b imm) s (fun t => OnlyEasel s t e ∧ { t.easel e with d := E.d, pc := E.pc } = E ∧ (t.easel e).pc = E.pc + 4
          ∧ ((t.easel e).dr a.toNat).toNat = leNat (mreadN 0 E.ls (E.lsBase + x) 32) ∧ ∀ r, r ≠ a.toNat → (t.easel e).dr r = E.dr r))
      ∧ (x + 32 ≤ gallerySize → s.ownsRange (s.workPart e) (galleryBase (dieOf e) + x, 32) = true → s.flipsIn [(galleryBase (dieOf e) + x, 32)] = [] →
        CompletesWith (.dldg e a b imm) s (fun t => OnlyEasel s t e ∧ { t.easel e with d := E.d, pc := E.pc } = E ∧ (t.easel e).pc = E.pc + 4
          ∧ ((t.easel e).dr a.toNat).toNat = leNat (s.devN (galleryBase (dieOf e) + x) 32) ∧ ∀ r, r ≠ a.toNat → (t.easel e).dr r = E.dr r)))
  )
  ∧
  (
  ∀ (s : State) (e : Nat) (a b : RegF) (imm : BitVec 12), CanIssue s e 4 { sr := [a.toNat] } → CanIssue s e 4 {} → b.toNat < 16 →
    let E := s.easel e
    let quad (v : BitVec 256) (q : Nat) : Nat := v.toNat / 2 ^ (64 * q) % 2 ^ 64
    let onlyD (t : State) (r : Nat) : Prop := OnlyEasel s t e ∧ { t.easel e with d := E.d, pc := E.pc } = E ∧ (t.easel e).pc = E.pc + 4
      ∧ ∀ k, k ≠ r → (t.easel e).dr k = E.dr k
    (imm.toNat < 4 → CompletesWith (.drd e a b imm) s (fun t => OnlyEasel s t e ∧ OnlyScalar E (t.easel e) a.toNat ∧ (t.easel e).pc = E.pc + 4
        ∧ (a ≠ 0 → ((t.easel e).sr a.toNat).toNat = quad (E.dr b.toNat) imm.toNat))
      ∧ CompletesWith (.dwr e a b imm) s (fun t => onlyD t b.toNat ∧ ∀ q, q < 4 →
        quad ((t.easel e).dr b.toNat) q = if q = imm.toNat then (E.sr a.toNat).toNat else quad (E.dr b.toNat) q))
    ∧ (a.toNat < 16 → CompletesWith (.dcopy e a b 0) s (fun t => onlyD t a.toNat ∧ (t.easel e).dr a.toNat = E.dr b.toNat))
  )

/-- An aligned store inside the local store that nothing holds back writes the low bytes of s[A] (DST: the 32 bytes of d[A]), least
significant first, at its address; every other byte of the local store, every register and everything outside the Easel is
unchanged, and pc advances by 4. An aligned store inside the partition's granules of the own-die Gallery writes the low bytes of
s[A] (DSTG: the 32 bytes of d[A]), least significant first; every other byte of device memory, every register of the Easel and
every byte of every local store is unchanged. A store of a part of a word needs that word free of injected errors, which it reads.
A store may ring doorbells (the release of a prepared-batch buffer), and changes nothing else. -/
def Obligations.StoreResults : Prop :=
  (
  ∀ (s : State) (e : Nat) (f : BitVec 3) (a b : RegF) (imm : BitVec 12), CanIssue s e 4 { sr := [a.toNat, b.toNat] } → CanIssue s e 4 { sr := [b.toNat] } →
    let E := s.easel e
    let x := (E.sr b.toNat + BitVec.ofInt 64 imm.toInt).toNat
    let n := 2 ^ f.toNat
    let stored (t : State) (k v : Nat) : Prop := OnlyEasel s t e ∧ (t.easel e).pc = E.pc + 4 ∧ { t.easel e with ls := E.ls, pc := E.pc } = E
      ∧ (∀ i, i < k → (mread 0 (t.easel e).ls (E.lsBase + x + i)).toNat = v / 256 ^ i % 256)
      ∧ ∀ y, (y < E.lsBase + x ∨ E.lsBase + x + k ≤ y) → mread 0 (t.easel e).ls y = mread 0 E.ls y
    (f.toNat < 4 → x % n = 0 → x + n ≤ E.lsLimit → s.lsStall e x n true = false →
      CompletesWith (.stl e f a b imm) s (fun t => stored t n (E.sr a.toNat).toNat))
    ∧ (a.toNat < 16 → x % 32 = 0 → x + 32 ≤ E.lsLimit → s.lsStall e x 32 true = false →
      CompletesWith (.dst e a b imm) s (fun t => stored t 32 (E.dr a.toNat).toNat))
  )
  ∧
  (
  ∀ (s : State) (e : Nat) (f : BitVec 3) (a b : RegF) (imm : BitVec 12), CanIssue s e 4 { sr := [a.toNat, b.toNat] } → CanIssue s e 4 { sr := [b.toNat] } →
    let E := s.easel e
    let x := (E.sr b.toNat + BitVec.ofInt 64 imm.toInt).toNat
    let at_ := galleryBase (dieOf e) + x
    let n := 2 ^ f.toNat
    let stored (t : State) (k v : Nat) : Prop := (t.easel e).pc = E.pc + 4
      ∧ (∀ i, i < k → (t.dev (at_ + i)).toNat = v / 256 ^ i % 256) ∧ (∀ y, (y < at_ ∨ at_ + k ≤ y) → t.dev y = s.dev y)
      ∧ (∀ r, (t.easel e).sr r = E.sr r) ∧ (∀ r, (t.easel e).dr r = E.dr r) ∧ (t.easel e).p = E.p ∧ (t.easel e).v = E.v
      ∧ (∀ q, (t.easel q).ls = (s.easel q).ls ∧ (t.easel q).is = (s.easel q).is) ∧ t.parts = s.parts ∧ t.sitters = s.sitters
      ∧ t.pcie.hostMem = s.pcie.hostMem ∧ t.boot = s.boot ∧ t.tb = s.tb ∧ t.disps = s.disps
    (f.toNat < 4 → x % n = 0 → x + n ≤ gallerySize → s.ownsRange (s.workPart e) (at_, n) = true → (n = 8 ∨ s.flipsIn [(at_ / 8 * 8, 8)] = []) →
      CompletesWith (.stg e f a b imm) s (fun t => stored t n (E.sr a.toNat).toNat))
    ∧ (a.toNat < 16 → x % 32 = 0 → x + 32 ≤ gallerySize → s.ownsRange (s.workPart e) (at_, 32) = true →
      CompletesWith (.dstg e a b imm) s (fun t => stored t 32 (E.dr a.toNat).toNat))
  )

/-- A misaligned LDL, STL, LDG or STG is an EX_ALIGN fault at its address; an aligned one that ends beyond its space is EX_ADDRESS; an
aligned Gallery access in the space but outside the partition's granules is EX_PROTECT; and one that a pending access of the local
store holds back leaves the state unchanged. -/
def Obligations.AccessFaultOrder : Prop :=
  ∀ (s : State) (e : Nat) (f : BitVec 3) (a b : RegF) (imm : BitVec 12), CanIssue s e 4 { sr := [a.toNat, b.toNat] } → f ≠ 7 →
    let E := s.easel e
    let x := (E.sr b.toNat + BitVec.ofInt 64 imm.toInt).toNat
    let n := 2 ^ (f.toNat % 4)
    let word (major : Nat) := wordI major imm.toNat f.toNat b.toNat a.toNat
    let ldlFaults (cause : Nat) : Prop := exec (.ldl e f a b imm) s = .next (s.easelFault e cause (word 0x08) x 0)
    let stlFaults (cause : Nat) : Prop := f.toNat < 4 → exec (.stl e f a b imm) s = .next (s.easelFault e cause (word 0x09) x 0)
    let ldgFaults (cause : Nat) : Prop := exec (.ldg e f a b imm) s = .next (s.easelFault e cause (word 0x0A) x 0)
    let stgFaults (cause : Nat) : Prop := f.toNat < 4 → exec (.stg e f a b imm) s = .next (s.easelFault e cause (word 0x0B) x 0)
    (x % n ≠ 0 → ldlFaults exAlign ∧ stlFaults exAlign ∧ ldgFaults exAlign ∧ stgFaults exAlign)
    ∧ (x % n = 0 → E.lsLimit < x + n → ldlFaults exAddress ∧ stlFaults exAddress)
    ∧ (x % n = 0 → 0x2000000 < x + n → ldgFaults exAddress ∧ stgFaults exAddress)
    ∧ (x % n = 0 → x + n ≤ 0x2000000 → s.ownsRange (s.workPart e) (galleryBase (dieOf e) + x, n) = false → ldgFaults exProtect ∧ stgFaults exProtect)
    ∧ (x % n = 0 → x + n ≤ E.lsLimit → s.lsStall e x n false = true → exec (.ldl e f a b imm) s = .next s)
    ∧ (x % n = 0 → x + n ≤ E.lsLimit → s.lsStall e x n true = true → f.toNat < 4 → exec (.stl e f a b imm) s = .next s)

/-- A FETCH or PUT that passes its descriptor, device-range, destination and flag checks, finds fewer than four operations on its
track and is not held back by the local-store interlocks completes: the operation with the captured descriptor, origin, address,
transposition and flag joins the end of track TRK, pc advances by 8, and no byte of memory and nothing else changes. With clocks
running, no bit errors injected, and no operation of another track that races it, TRACK_OP_COMPLETE takes the oldest operation of
the track. A PUT writes the device bytes of its tile, read from the local store; a FETCH writes the local store, or the device
address with DEV = 1, from device memory; then the generation half of the completion flag holds RG, and every byte outside these
reads as before. A write that frees prepared-batch buffers may ring doorbells. -/
def Obligations.TensorMovementResults : Prop :=
  (
  ∀ (s : State) (e : Nat) (w : MoveF) (put : Bool), CanIssue s e 8 { sr := [w.rl.toNat, w.rc.toNat, w.rf.toNat, w.rg.toNat] } → w.rsv = 0 →
    (put = true → w.dev = 0) →
    let E := s.easel e
    let d := E.dr w.dn.toNat
    let t := decodeDesc d
    let o := E.sr w.rc.toNat
    let rl := (E.sr w.rl.toNat).toNat
    let n := locBytes t w.ta.toNat w.tb.toNat
    let fl : Option (Nat × U32) := if w.rf = 0 then none else some ((E.sr w.rf.toNat).toNat, (E.sr w.rg.toNat).setWidth 32)
    descCheck t o rl w.ta.toNat w.tb.toNat (w.dev = 1) E.lsLimit = none → s.devCheck e (devRanges t o) s.reachable = none →
    (w.dev = 1 → s.devCheck e [(rl, n)] (s.devDestOk e) = none) → s.flagCheck e fl = none →
    (E.track w.trk.toNat).length < 4 → (w.dev = 0 → let x := locExtent put t o w.ta.toNat w.tb.toNat; s.lsStall e (rl + x.1) x.2 (!put) = false) →
    CompletesWith (if put then .put e w else .fetch e w) s (fun u => OnlyEasel s u e ∧ { u.easel e with tracks := E.tracks, pc := E.pc } = E
      ∧ (u.easel e).pc = E.pc + 8 ∧ (∀ k, k ≠ w.trk.toNat → (u.easel e).track k = E.track k)
      ∧ ∃ op : TrackOp, (u.easel e).track w.trk.toNat = E.track w.trk.toNat ++ [op] ∧ op.put = put ∧ op.desc = d ∧ op.o = o ∧ op.rl.toNat = rl
        ∧ op.dev = decide (w.dev = 1) ∧ op.ta = w.ta.toNat ∧ op.tb = w.tb.toNat ∧ op.flag = fl ∧ op.seen = [])
  )
  ∧
  (
  ∀ (s : State) (e k : Nat) (op : TrackOp) (rest : List TrackOp), e < 192 → k < 8 → s.board.clocksStopped = false → s.mem.flips = [] →
    (s.easel e).track k = op :: rest → op.seen = [] →
    (s.setEasel e ((s.easel e).setTrack k rest)).racing e k (devRanges (decodeDesc op.desc) op.o) = [] →
    let E := s.easel e
    let t := decodeDesc op.desc
    let fetched := (fetchWrites t op.o op.ta op.tb s.devN).map (fun x => (op.rl.toNat + x.1, x.2))
    let toDev : List (Nat × Byte) := if op.put then putOpWrites E op else if op.dev then fetched else []
    let toLs : List (Nat × Byte) := if op.put || op.dev then [] else fetched
    let flagBytes : List (Nat × Byte) := match op.flag with
      | none => []
      | some (off, g) => (List.range 4).map (fun i => (galleryBase (dieOf e) + off + 4 + i, BitVec.ofNat 8 (g.toNat / 256 ^ i)))
    CompletesWith (.trackOpComplete e k) s (fun u => (u.easel e).track k = rest
      ∧ (∀ a, u.dev a = mread 0 (mwriteL 0 (mwriteL 0 s.mem.dev toDev) flagBytes) a)
      ∧ (∀ a, mread 0 (u.easel e).ls a = mread 0 (mwriteL 0 E.ls (toLs.map (fun x => (E.lsBase + x.1, x.2)))) a)
      ∧ (∀ q, (u.easel q).s = (s.easel q).s ∧ (u.easel q).pc = (s.easel q).pc ∧ (u.easel q).v = (s.easel q).v ∧ (u.easel q).is = (s.easel q).is)
      ∧ (∀ q, q ≠ e → (u.easel q).ls = (s.easel q).ls) ∧ u.pcie.hostMem = s.pcie.hostMem ∧ u.boot = s.boot ∧ u.tb = s.tb)
  )

/-- TAKE with next < limit gives next, clears p[K] and steps next; otherwise it gives limit, sets p[K] and leaves the counter. TSET
sets next and limit. Both leave every other counter and device memory, and advance pc by 4. -/
def Obligations.WorkCounterResults : Prop :=
  ∀ (s : State) (e : Nat) (k : BitVec 7) (a b c : RegF), CanIssue s e 4 { sr := [a.toNat] } → CanIssue s e 4 { sr := [b.toNat, c.toNat] } →
    let E := s.easel e
    let u := E.disp.toNat % 2 ^ 16
    (k.toNat < 8 → c.toNat < 16 →
      let next := (s.counter u c.toNat).1
      let limit := (s.counter u c.toNat).2
      CompletesWith (.take e k a 0 c) s (fun t => (t.easel e).pc = E.pc + 4
        ∧ (a ≠ 0 → ((t.easel e).sr a.toNat).toNat = if next.toNat < limit.toNat then next.toNat else limit.toNat)
        ∧ (k ≠ 0 → (t.easel e).pr k.toNat = decide (limit.toNat ≤ next.toNat))
        ∧ (t.counter u c.toNat).1.toNat = (if next.toNat < limit.toNat then next.toNat + 1 else next.toNat) ∧ (t.counter u c.toNat).2 = limit
        ∧ (∀ v d, d < 16 → (v ≠ u ∨ d ≠ c.toNat) → t.counter v d = s.counter v d)
        ∧ (∀ i, i ≠ a.toNat → (t.easel e).sr i = E.sr i) ∧ (∀ x, t.dev x = s.dev x) ∧ ∀ q, q ≠ e → t.easel q = s.easel q))
    ∧ (a.toNat < 16 →
      CompletesWith (.tset e 0 a b c) s (fun t => (t.easel e).pc = E.pc + 4 ∧ { t.easel e with pc := E.pc } = E
        ∧ (t.counter u a.toNat).1.toNat = (E.sr b.toNat).toNat % 2 ^ 32 ∧ (t.counter u a.toNat).2.toNat = (E.sr c.toNat).toNat % 2 ^ 32
        ∧ (∀ v d, d < 16 → (v ≠ u ∨ d ≠ a.toNat) → t.counter v d = s.counter v d)
        ∧ (∀ x, t.dev x = s.dev x) ∧ ∀ q, q ≠ e → t.easel q = s.easel q))

/-- A WAIT on a flag of the partition, whose word holds no injected error, completes at once when the flag's generation g satisfies (g
- w) mod 2^32 < 2^31, and otherwise leaves the Easel waiting on that flag and generation; a WAIT on doorbells does the same with
ECR_DB AND ECR_DBMASK. It changes no flag and no doorbell bit. WAIT_SATISFIED lets a waiting Easel go on exactly when its
condition holds. A BARRIER on an allowed unit that holds the Easel records its arrival; while a leaf is missing the Easel waits at
the barrier and the generation count stays; when the last leaf arrives no leaf of the unit waits at that barrier any more, no
arrival is left recorded and the generation count has stepped by 1. A unit that does not hold the Easel is EX_UNIT. -/
def Obligations.WaitAndBarrierResults : Prop :=
  (
  ∀ (s : State) (e : Nat) (b c : RegF), CanIssue s e 4 { sr := [b.toNat, c.toNat] } → CanIssue s e 4 { sr := [0, 0] } →
    let E := s.easel e
    let off := (E.sr b.toNat).toNat
    let w : U32 := (E.sr c.toNat).setWidth 32
    let reached (off : Nat) (w : U32) : Bool := decide (((s.devLE (galleryBase (dieOf e) + off + 4) 4 : Int) - w.toNat) % 2 ^ 32 < (2 ^ 31 : Int))
    let bell (E : Easel) : Bool := E.db &&& E.dbMask ≠ 0
    (b ≠ 0 → off % 8 = 0 → off + 8 ≤ gallerySize → s.ownsRange (s.workPart e) (galleryBase (dieOf e) + off, 8) = true →
      s.flipsIn [(galleryBase (dieOf e) + off, 8)] = [] →
      exec (.waitI e 0 0 b c) s = .next (s.retire e 4 { E with stall := if reached off w then .none else .flag off w }))
    ∧ exec (.waitI e 0 0 0 0) s = .next (s.retire e 4 { E with stall := if bell E then .none else .doorbell })
    ∧ (∀ (u : State) (q : Nat), q < 192 → u.board.clocksStopped = false →
      (∀ off w, (u.easel q).stall = .flag off w → exec (.waitSatisfied q) u
        = .next (if ((u.devLE (galleryBase (dieOf q) + off + 4) 4 : Int) - w.toNat) % 2 ^ 32 < 2 ^ 31 then u.setEasel q { u.easel q with stall := .none } else u))
      ∧ ((u.easel q).stall = .doorbell → exec (.waitSatisfied q) u
        = .next (if bell (u.easel q) then u.setEasel q { u.easel q with stall := .none } else u)))
  )
  ∧
  (
  ∀ (s : State) (e : Nat) (b : RegF), CanIssue s e 4 { sr := [b.toNat] } →
    let E := s.easel e
    let u := if b = 0 then E.disp.toNat % 2 ^ 16 else (E.sr b.toNat).toNat % 2 ^ 16
    let there := e :: s.arrivedAt u
    let gen (t : State) : U32 := tget 0 t.mem.barGen u
    (s.unitAllowed e u = true → e ∈ s.expansion u → (∃ l ∈ s.expansion u, l ∉ there) →
      CompletesWith (.barrier e 0 0 b 0) s (fun t => t.easel e = { E with pc := E.pc + 4, stall := .barrier (BitVec.ofNat 16 u) }
        ∧ t.arrivedAt u = there ∧ gen t = gen s ∧ (∀ x, t.dev x = s.dev x) ∧ ∀ q, q ≠ e → t.easel q = s.easel q))
    ∧ (s.unitAllowed e u = true → e ∈ s.expansion u → (∀ l ∈ s.expansion u, l ∈ there) →
      CompletesWith (.barrier e 0 0 b 0) s (fun t => t.easel e = { E with pc := E.pc + 4 }
        ∧ t.arrivedAt u = [] ∧ gen t = gen s + 1 ∧ (∀ x, t.dev x = s.dev x)
        ∧ (∀ l ∈ s.expansion u, (t.easel l).stall ≠ .barrier (BitVec.ofNat 16 u))
        ∧ ∀ q, q ≠ e → t.easel q = s.easel q ∨ t.easel q = { s.easel q with stall := .none }))
    ∧ ((s.unitAllowed e u = false ∨ e ∉ s.expansion u) →
      exec (.barrier e 0 0 b 0) s = .next (s.easelFault e exUnit (wordR 0x10 0 6 0 b.toNat 0) 0 0))
  )

/-- RING of an allowed unit with every leaf powered sets the bits of s[C][31:0] in ECR_DB of each leaf of its expansion and of no
other Easel; 0xFFFF sets them in the partition's host doorbell word, 0xFFFE in the Curator's signal word of this Easel; a unit
outside the partition is EX_UNIT and a unit with a gated leaf EX_GATED. POST to the lead Easel of an allowed unit stores s[C],
sets FULL and p[K] = 1 when the mailbox is empty; when it is full it stores nothing, sets OVERRUN and p[K] = 0; to the Curator it
does the same with the Curator's mailbox for this Easel. COLLECT of a full mailbox gives its value, clears FULL and sets p[K] = 1;
of an empty one it gives 0 and p[K] = 0 and clears nothing. -/
def Obligations.RingPostCollectResults : Prop :=
  (
  ∀ (s : State) (e : Nat) (b c : RegF), CanIssue s e 4 { sr := [b.toNat, c.toNat] } →
    let E := s.easel e
    let u := (E.sr b.toNat).toNat % 2 ^ 16
    let v : U32 := (E.sr c.toNat).setWidth 32
    let word := wordR 0x10 0 3 c.toNat b.toNat 0
    (u ≠ 0xFFFF → u ≠ 0xFFFE → s.unitAllowed e u = true → (∀ l ∈ s.expansion u, (s.easel l).powered = true) →
      CompletesWith (.ring e 0 0 b c) s (fun t => (t.easel e).pc = E.pc + 4
        ∧ (∀ l, (s.easel l).loan = none → (t.easel l).db = if l ∈ s.expansion u then (s.easel l).db ||| v else (s.easel l).db)
        ∧ (∀ l, (t.easel l).dbMask = (s.easel l).dbMask ∧ (t.easel l).ls = (s.easel l).ls ∧ (t.easel l).s = (s.easel l).s)
        ∧ { t with easels := s.easels } = s))
    ∧ (u = 0xFFFF → CompletesWith (.ring e 0 0 b c) s (fun t => (t.easel e).pc = E.pc + 4
        ∧ (t.doorbell (s.workPart e)).pend = (s.doorbell (s.workPart e)).pend ||| v ∧ (∀ w, w ≠ s.workPart e → t.doorbell w = s.doorbell w)
        ∧ ∀ q, q ≠ e → t.easel q = s.easel q))
    ∧ (u = 0xFFFE → CompletesWith (.ring e 0 0 b c) s (fun t => (t.easel e).pc = E.pc + 4
        ∧ (t.fromMbx e).signal = (s.fromMbx e).signal ||| v ∧ (t.fromMbx e).mbx = (s.fromMbx e).mbx
        ∧ (t.doorbell 16).pend.getLsbD 4 = true ∧ ∀ q, q ≠ e → t.easel q = s.easel q))
    ∧ (u ≠ 0xFFFF → u ≠ 0xFFFE → s.unitAllowed e u = false → exec (.ring e 0 0 b c) s = .next (s.easelFault e exUnit word 0 0))
    ∧ (u ≠ 0xFFFF → u ≠ 0xFFFE → s.unitAllowed e u = true → (∃ l ∈ s.expansion u, (s.easel l).powered = false) →
      exec (.ring e 0 0 b c) s = .next (s.easelFault e exGated word 0 0))
  )
  ∧
  (
  ∀ (s : State) (e : Nat) (k : BitVec 7) (a b c : RegF), CanIssue s e 4 { sr := [b.toNat, c.toNat] } → CanIssue s e 4 { sr := [a.toNat] } → k.toNat < 8 →
    let E := s.easel e
    let u := (E.sr b.toNat).toNat % 2 ^ 16
    let v := E.sr c.toNat
    let stored (m m' : Mbx) (p : Bool) : Prop :=
      if m.full then m' = { m with overrun := true } ∧ p = false else m' = { m with val := v, full := true } ∧ p = true
    (u ≠ 0xFFFF → u ≠ 0xFFFE → s.unitAllowed e u = true → (s.easel (s.lead u)).powered = true → (s.easel (s.lead u)).loan = none →
      CompletesWith (.post e k 0 b c) s (fun t => (t.easel e).pc = E.pc + 4
        ∧ ∃ p, stored (s.easel (s.lead u)).mbx (t.easel (s.lead u)).mbx p ∧ (k ≠ 0 → (t.easel e).pr k.toNat = p)
        ∧ (∀ q, q ≠ e → q ≠ s.lead u → t.easel q = s.easel q) ∧ { t with easels := s.easels } = s))
    ∧ (u = 0xFFFE → CompletesWith (.post e k 0 b c) s (fun t => (t.easel e).pc = E.pc + 4
        ∧ ∃ p, stored (s.fromMbx e).mbx (t.fromMbx e).mbx p ∧ (t.fromMbx e).signal = (s.fromMbx e).signal
        ∧ (k ≠ 0 → (t.easel e).pr k.toNat = p) ∧ (p = true → (t.doorbell 16).pend.getLsbD 4 = true) ∧ ∀ q, q ≠ e → t.easel q = s.easel q))
    ∧ CompletesWith (.collect e k a 0 0) s (fun t => OnlyEasel s t e ∧ (t.easel e).pc = E.pc + 4
        ∧ (a ≠ 0 → (t.easel e).sr a.toNat = if E.mbx.full then E.mbx.val else 0) ∧ (k ≠ 0 → (t.easel e).pr k.toNat = E.mbx.full)
        ∧ (t.easel e).mbx.full = false ∧ (t.easel e).mbx.overrun = E.mbx.overrun ∧ (∀ i, i ≠ a.toNat → (t.easel e).sr i = E.sr i))
    ∧ (u = 0xFFFF ∨ (u ≠ 0xFFFE ∧ s.unitAllowed e u = false) →
      exec (.post e k 0 b c) s = .next (s.easelFault e exUnit (wordR 0x10 k.toNat 4 c.toNat b.toNat 0) 0 0))
  )

/-- ECRR of a listed index puts the register's value into s[A] and advances pc by 4; a read of ECR_CVSTAT or ECR_PLSTAT completes once
the unit's queues are empty; ECR_CYCLE, ECR_TIME and the rest follow their fields; an unlisted index is EX_ILLEGAL with the index
as detail. ECRW to ECR_DB and the sticky flags clears the bits written as 1, to ECR_DBMASK, ECR_LEND (with windows in range) and
ECR_USER0 to ECR_USER15 replaces the value, to ECR_WDOG_KICK restarts the watchdog count, to a read-only register changes nothing
but the pc; a non-zero reserved bit, an enabled lend window out of range or an unlisted index is EX_ILLEGAL with the index as
detail. -/
def Obligations.ControlRegisterResults : Prop :=
  (
  ∀ (s : State) (e : Nat) (a : RegF), CanIssue s e 4 { sr := [a.toNat] } →
    let E := s.easel e
    let p := s.workPart e
    let reads (i : BitVec 12) (v : Nat) : Prop := CompletesWith (.ecrr e a 0 i) s (fun t => OnlyEasel s t e ∧ OnlyScalar E (t.easel e) a.toNat
      ∧ (t.easel e).pc = E.pc + 4 ∧ (a ≠ 0 → ((t.easel e).sr a.toNat).toNat = v))
    reads 0x000 (e + 2 ^ 8 * (e / 32) + 2 ^ 11 * (e / 8 % 4) + 2 ^ 13 * (e % 8))
    ∧ reads 0x001 E.disp.toNat
    ∧ (p < 16 → (match E.loan with | none => True | some l => l.lender < 16) →
        reads 0x002 (p + (if (s.part p).be then 2 ^ 4 else 0) + (match E.loan with | none => 0 | some l => 2 ^ 5 + 2 ^ 12 * l.lender)))
    ∧ reads 0x010 (E.cycles / 1000 % 2 ^ 64)
    ∧ reads 0x011 (if (s.part p).replay then (s.part p).virtualTime.toNat else s.tb.time.toNat)
    ∧ (s.op (e / 32) < 8 → s.easelMhz e < 6400 → reads 0x012 (s.op (e / 32) * 2 ^ 8 + s.easelMhz e / 25))
    ∧ reads 0x020 E.db.toNat ∧ reads 0x021 E.dbMask.toNat
    ∧ reads 0x022 ((if E.mbx.full then 1 else 0) + (if E.mbx.overrun then 2 else 0))
    ∧ reads 0x023 (if E.mbx.full then E.mbx.val.toNat else 0)
    ∧ reads 0x030 E.wdog.toNat ∧ reads 0x031 0 ∧ reads 0x040 E.lend.toNat
    ∧ (∀ i : BitVec 12, 0x070 ≤ i.toNat → i.toNat ≤ 0x07F → reads i (tget 0 E.user (i.toNat - 0x070)).toNat)
    ∧ (E.frontQ = [] → E.backQ = [] → reads 0x100 (E.cvFlags.toNat + if E.frontIx then 8 else 0))
    ∧ reads 0x101 E.cvCount.toNat
    ∧ (E.palQ = [] → reads 0x200 E.plFlags.toNat)
    ∧ (∀ k q, E.tracks = [(k, q)] → k < 8 → q.length ≤ 4 → reads 0x060 (q.length * 8 ^ k)) ∧ (E.tracks = [] → reads 0x060 0)
    ∧ ((s.primer (e / 8)).length ≤ 16 → reads 0x300 ((s.primer (e / 8)).length + 2 ^ 8 * (s.primer (e / 8)).countP (fun j => j.easel = e)))
    ∧ reads 0x301 E.prDone.toNat
    ∧ (∀ i : BitVec 12, i.toNat ∉ [0x000, 0x001, 0x002, 0x010, 0x011, 0x012, 0x020, 0x021, 0x022, 0x023, 0x030, 0x031, 0x040, 0x060, 0x100, 0x101, 0x200,
        0x300, 0x301] → (i.toNat < 0x070 ∨ 0x07F < i.toNat) →
        exec (.ecrr e a 0 i) s = .next (s.easelFault e exIllegal (wordI 0x12 i.toNat 0 0 a.toNat) 0 i.toNat))
  )
  ∧
  (
  ∀ (s : State) (e : Nat) (b : RegF), CanIssue s e 4 { sr := [b.toNat] } →
    let E := s.easel e
    let v := E.sr b.toNat
    let writes (i : BitVec 12) (F : Easel) : Prop := exec (.ecrw e 0 b i) s = .next (s.retire e 4 F)
    let faults (i : BitVec 12) : Prop := exec (.ecrw e 0 b i) s = .next (s.easelFault e exIllegal (wordI 0x12 i.toNat 1 b.toNat 0) 0 i.toNat)
    let isz := v.toNat / 2 ^ 20 % 16
    let ib := v.toNat / 2 ^ 16 % 16
    let lsz := v.toNat / 2 ^ 8 % 32
    let lb := v.toNat % 32
    let inRange := 1 ≤ isz ∧ isz ≤ 14 ∧ ib + isz ≤ 14 ∧ 1 ≤ lsz ∧ lsz ≤ 31 ∧ lb + lsz ≤ 32
    (v.toNat < 2 ^ 32 → writes 0x020 { E with db := E.db &&& ~~~(v.setWidth 32) } ∧ writes 0x021 { E with dbMask := v.setWidth 32 })
    ∧ (v.toNat < 4 → writes 0x022 { E with mbx := { E.mbx with overrun := E.mbx.overrun && decide (v.toNat < 2) } })
    ∧ writes 0x031 { E with wdogNs := 0 }
    ∧ (v &&& 0xFFFFFFFF7F00E0E0 = 0 → (v.toNat < 2 ^ 31 ∨ inRange) → writes 0x040 { E with lend := v.setWidth 32 })
    ∧ (v &&& 0xFFFFFFFF7F00E0E0 = 0 → 2 ^ 31 ≤ v.toNat → ¬ inRange → faults 0x040)
    ∧ (∀ i : BitVec 12, 0x070 ≤ i.toNat → i.toNat ≤ 0x07F → writes i { E with user := tset 0 E.user (i.toNat - 0x070) v })
    ∧ (v.toNat < 16 → writes 0x100 { E with cvFlags := E.cvFlags &&& ~~~(v.setWidth 3) })
    ∧ (v.toNat < 32 → writes 0x200 { E with plFlags := E.plFlags &&& ~~~(v.setWidth 5) })
    ∧ (v = 0 → ∀ i ∈ ([0x000, 0x001, 0x002, 0x010, 0x011, 0x012, 0x023, 0x030, 0x060, 0x101, 0x300, 0x301] : List (BitVec 12)), writes i E)
    ∧ (2 ^ 32 ≤ v.toNat → ∀ i ∈ ([0x001, 0x020, 0x021, 0x022, 0x030, 0x040, 0x060, 0x100, 0x200, 0x300] : List (BitVec 12)), faults i)
    ∧ (∀ i : BitVec 12, i.toNat ∉ [0x000, 0x001, 0x002, 0x010, 0x011, 0x012, 0x020, 0x021, 0x022, 0x023, 0x030, 0x031, 0x040, 0x060, 0x100, 0x101, 0x200,
        0x300, 0x301] → (i.toNat < 0x070 ∨ 0x07F < i.toNat) → faults i)
  )

/-- TRAP is an EX_TRAP fault with I12 as its detail; HALT leaves the Easel waiting to halt with pc advanced; TWAIT goes on when every
named track is empty and waits otherwise; the watchdog of a running Easel is an EX_WATCHDOG fault once its count has reached
ECR_WDOG µs, and does nothing before or on a halted Easel. -/
def Obligations.SystemInstructionResults : Prop :=
  ∀ (s : State) (e : Nat) (imm : BitVec 12), CanIssue s e 4 {} →
    let E := s.easel e
    exec (.trap e 0 0 imm) s = .next (s.easelFault e exTrap (wordI 0x12 imm.toNat 2 0 0) 0 imm.toNat)
    ∧ exec (.halt e 0 0 0) s = .next (s.retire e 4 { E with stall := .halting })
    ∧ (imm.toNat < 256 → (∀ x ∈ E.tracks, imm.getLsbD x.1 = true → x.2 = []) → exec (.twait e 0 0 imm) s = .next (s.retire e 4 E))
    ∧ (imm.toNat < 256 → (∃ x ∈ E.tracks, imm.getLsbD x.1 = true ∧ x.2 ≠ []) → exec (.twait e 0 0 imm) s = .next s)
    ∧ (1000 * E.wdog.toNat ≤ E.wdogNs → exec (.watchdogExpiry e) s = .next (s.easelFault e exWatchdog E.nextInsn 0 0))
    ∧ (E.wdogNs < 1000 * E.wdog.toNat → exec (.watchdogExpiry e) s = .next s)
    ∧ (∀ q, q < 192 → (s.easel q).running = false → exec (.watchdogExpiry q) s = .next s)

/-- A DISPATCH to an allowed unit that does not hold the issuing Easel and has no dispatch under way (a chunk on a lent Easel is none)
adds one dispatch with the captured entry point (the descriptor's default when A is s0), argument and doorbell bit, whose leaves
are still to start; with a dispatch to the same unit under way the Easel stays at DISPATCH; any other unit is EX_UNIT. LEAF_START
of an idle Easel that is not on loan, whose last dispatch was the same partition's and whose domain is on, starts the dispatch
that reaches it: s1 holds the argument, s2 its position, s3 the leaf count and s4 the unit, every other scalar register and p1 to
p7 are 0, the pc is the entry point, and vector and descriptor registers, Canvas sets, local store and ECR_USER are kept; an entry
point that breaks R155 is an EX_FETCH fault at the leaf instead. -/
def Obligations.DispatchAndLeafStartResults : Prop :=
  (
  ∀ (s : State) (e : Nat) (k : BitVec 7) (a b c : RegF), CanIssue s e 4 { sr := [a.toNat, b.toNat, c.toNat] } → k.toNat < 32 →
    let E := s.easel e
    let u := (E.sr b.toNat).toNat % 2 ^ 16
    let entry := if a = 0 then s.defaultEntry u else (E.sr a.toNat).toNat % 2 ^ 16
    (s.unitAllowed e u = true → e ∉ s.expansion u → (∀ d ∈ s.disps, isChunk d = false → d.unit.toNat ≠ u) →
      CompletesWith (.dispatch e k 0 a b c) s (fun t => t.easel e = { E with pc := E.pc + 4 } ∧ (∀ q, q ≠ e → t.easel q = s.easel q)
        ∧ t.disps = s.disps ++ [{ unit := BitVec.ofNat 16 u, entry := entry, arg := E.sr c.toNat, issuer := .easel e k.toNat, part := s.workPart e,
                                  toStart := s.expansion u, running := [] }]
        ∧ t.mem = s.mem ∧ t.parts = s.parts ∧ t.host = s.host))
    ∧ (s.unitAllowed e u = true → e ∉ s.expansion u → (∃ d ∈ s.disps, isChunk d = false ∧ d.unit.toNat = u) → exec (.dispatch e k 0 a b c) s = .next s)
    ∧ ((s.unitAllowed e u = false ∨ e ∈ s.expansion u) →
      exec (.dispatch e k 0 a b c) s = .next (s.easelFault e exUnit (wordR 0x11 k.toNat 0 c.toNat b.toNat a.toNat) 0 0))
  )
  ∧
  (
  ∀ (s : State) (e : Nat) (d : Disp), e < 192 → s.ready = true → (s.easel e).running = false → (s.easel e).loan = none →
    s.reaching e = some d → (s.easel e).lastPart = some d.part → (s.easel e).powered = true →
    let E := s.easel e
    let l := s.expansion d.unit.toNat
    let i := l.findIdx (· = e)
    (d.entry < 0xE000 → d.entry % 4 = 0 →
      CompletesWith (.leafStart e) s (fun t =>
        (∀ r, (t.easel e).sr r = if r = 1 then d.arg else if r = 2 then BitVec.ofNat 64 i else if r = 3 then BitVec.ofNat 64 l.length
          else if r = 4 then BitVec.ofNat 64 d.unit.toNat else 0)
        ∧ (t.easel e).p = 0 ∧ (t.easel e).pc = d.entry ∧ (t.easel e).running = true ∧ (t.easel e).stall = .none
        ∧ (t.easel e).disp = BitVec.ofNat 32 (l.length * 2 ^ 24 + i * 2 ^ 16 + d.unit.toNat)
        ∧ (t.easel e).v = E.v ∧ (t.easel e).d = E.d ∧ (t.easel e).front = E.front ∧ (t.easel e).back = E.back ∧ (t.easel e).ls = E.ls
        ∧ (t.easel e).is = E.is ∧ (t.easel e).user = E.user ∧ (t.easel e).db = E.db ∧ (t.easel e).mbx = E.mbx ∧ (t.easel e).wdogNs = 0
        ∧ (∀ q, q ≠ e → t.easel q = s.easel q) ∧ t.disps.length = s.disps.length
        ∧ { d with toStart := d.toStart.erase e, running := d.running ++ [e] } ∈ t.disps ∧ t.mem = s.mem ∧ t.parts = s.parts))
    ∧ ((0xE000 ≤ d.entry ∨ d.entry % 4 ≠ 0) → CompletesWith (.leafStart e) s (fun t => (t.easel e).running = false ∧ (t.easel e).stall = .none
        ∧ (t.easel e).pc = d.entry ∧ (∀ q, q ≠ e → t.easel q = s.easel q)))
  )

/-- A leaf at HALT with empty tracks and no Primer job halts: it runs no more and leaves its dispatch's list of running leaves. A leaf
with work left stays. When every leaf of a program's dispatch has halted, ATELIER_COMPLETE removes the dispatch and sets the
issuing Easel's doorbell bit; before that it changes nothing. -/
def Obligations.HaltAndCompletionResults : Prop :=
  (∀ (s : State) (e : Nat), e < 192 → s.ready = true → (s.easel e).running = true → (s.easel e).stall = .halting → (s.easel e).loan = none →
    ((∀ x ∈ (s.easel e).tracks, x.2 = []) → (∀ j ∈ s.primer (e / 8), j.easel ≠ e) →
      CompletesWith (.leafHalted e) s (fun t => t.easel e = { s.easel e with running := false, stall := .none }
        ∧ (∀ q, q ≠ e → t.easel q = s.easel q) ∧ (∀ d ∈ t.disps, e ∉ d.running) ∧ t.disps.map (fun d => (d.unit, d.issuer, d.toStart)) = s.disps.map (fun d => (d.unit, d.issuer, d.toStart))
        ∧ t.mem = s.mem ∧ t.parts = s.parts))
    ∧ ((∃ x ∈ (s.easel e).tracks, x.2 ≠ []) ∨ (∃ j ∈ s.primer (e / 8), j.easel = e) → exec (.leafHalted e) s = .next s))
  ∧ (∀ (s : State) (u : U16) (d : Disp) (e bit : Nat), s.ready = true → s.dispTo u = some d → d.issuer = .easel e bit → (s.easel e).loan = none →
    (d.toStart = [] → d.running = [] → CompletesWith (.atelierComplete u) s (fun t => t.disps = s.disps.erase d
      ∧ t.easel e = { s.easel e with db := (s.easel e).db ||| BitVec.ofNat 32 (2 ^ bit) } ∧ (∀ q, q ≠ e → t.easel q = s.easel q)
      ∧ t.mem = s.mem ∧ t.parts = s.parts))
    ∧ ((d.toStart ≠ [] ∨ d.running ≠ []) → exec (.atelierComplete u) s = .next s))

/-- When the Curator's choice is chunk i of partition p on Easel e and the words it reads carry no injected error, LOAN_START clears
both lend windows, copies the chunk's code to the start of the instruction window, empties doorbells and mailbox, sets the
watchdog limit to 1 s, records the loan with what it saves, and queues the chunk's dispatch. LOAN_RECALL (here because the lender
no longer runs) clears both windows and restores doorbells, mask, mailbox, watchdog limit and the registers as the loan found
them; outside the windows the local store is as it was, where no Primer job of the Easel was running. -/
def Obligations.LoanResults : Prop :=
  (∀ (s : State) (p i e : Nat), e < 192 → s.ready = true → s.nextLoan = .start p i e → s.mem.flips = [] →
    let E := s.easel e
    let c := s.chunk p i
    let wi := lendI E.lend
    let wl := lendL E.lend
    CompletesWith (.loanStart e) s (fun t =>
      (∃ L, (t.easel e).loan = some L ∧ L.lender = (s.owner e).getD 0 ∧ L.borrower = p ∧ L.index = i ∧ L.db = E.db ∧ L.mask = E.dbMask ∧ L.mbx = E.mbx
        ∧ L.wdog = E.wdog ∧ L.v = E.v ∧ L.d = E.d ∧ L.s = E.s ∧ L.user = E.user ∧ (L.iBase, L.iSize) = wi ∧ (L.lBase, L.lSize) = wl)
      ∧ (t.easel e).db = 0 ∧ (t.easel e).mbx = {} ∧ (t.easel e).wdog = 1000000
      ∧ (∀ a, wl.1 * 0x10000 ≤ a → a < (wl.1 + wl.2) * 0x10000 → mread 0 (t.easel e).ls a = 0)
      ∧ (∀ a, (a < wl.1 * 0x10000 ∨ (wl.1 + wl.2) * 0x10000 ≤ a) → mread 0 (t.easel e).ls a = mread 0 E.ls a)
      ∧ (∀ a, a < c.bytes → mread 0 (t.easel e).is (wi.1 * 0x1000 + a) = s.dev (c.code + a))
      ∧ (∀ a, a < wi.1 * 0x1000 → mread 0 (t.easel e).is a = mread 0 E.is a)
      ∧ (∀ q, q ≠ e → t.easel q = s.easel q) ∧ t.lastLoan = p
      ∧ ∃ d, t.disps = s.disps ++ [d] ∧ d.unit = BitVec.ofNat 16 e ∧ d.entry = c.entry ∧ d.arg = c.arg ∧ d.part = p ∧ d.toStart = [e]))
  ∧ (∀ (s : State) (e : Nat) (l : Loan), e < 192 → s.ready = true → (s.easel e).loan = some l → (s.part l.lender).state ≠ .running →
    CompletesWith (.loanRecall e .lenderStop) s (fun t => (t.easel e).loan = none ∧ (t.easel e).running = false
      ∧ (t.easel e).db = l.db ∧ (t.easel e).dbMask = l.mask ∧ (t.easel e).mbx = l.mbx ∧ (t.easel e).wdog = l.wdog
      ∧ (t.easel e).v = l.v ∧ (t.easel e).d = l.d ∧ (t.easel e).s = l.s ∧ (t.easel e).p = l.p ∧ (t.easel e).pc = l.pc ∧ (t.easel e).user = l.user
      ∧ (t.easel e).front = [] ∧ (t.easel e).back = [] ∧ (t.easel e).tracks = []
      ∧ (∀ a, l.lBase * 0x10000 ≤ a → a < (l.lBase + l.lSize) * 0x10000 → mread 0 (t.easel e).ls a = 0)
      ∧ ((∀ j ∈ s.primer (e / 8), j.easel = e → j.started = false) →
        ∀ a, (a < l.lBase * 0x10000 ∨ (l.lBase + l.lSize) * 0x10000 ≤ a) → mread 0 (t.easel e).ls a = mread 0 (s.easel e).ls a)
      ∧ (∀ a, l.iBase * 0x1000 ≤ a → a < (l.iBase + l.iSize) * 0x1000 → mread 0 (t.easel e).is a = 0)
      ∧ (∀ q, q ≠ e → t.easel q = s.easel q)))

/-- STROKE and EWISE that pass the format and range checks, find the stroke queue below four entries and are not held back join the
stroke queue with their captured operands, and SWAP joins it; the LOADACC and DRAIN forms join the back queue behind the SWAPs
issued before them, ROWV and COLV with the captured vector register; each advances pc by its length and changes nothing else. With
four entries queued the Easel stays at the instruction. The head of the stroke queue executes: a STROKE accumulates into the front
canvas, adds its K to ECR_CVCOUNT and its flags to the sticky flags; a SWAP exchanges front and back, turns ECR_CVSTAT.FRONT, and
waits for every LOADACC and DRAIN issued before it. A back-queue entry waits for the SWAPs issued before it; ZERO clears the back
canvas; DRAIN to the local store writes 16,384 bytes. No command on one canvas changes the other. -/
def Obligations.CanvasResults : Prop :=
  (
  ∀ (s : State) (e : Nat),
    let E := s.easel e
    let n := E.frontQ.countP (fun x => x = .swap)
    let joinsFront (i : Instr) (len : Nat) (o : FrontOp) : Prop :=
      (E.frontQ.length < 4 → exec i s = .next (s.retire e len { E with frontQ := E.frontQ ++ [o] })) ∧ (4 ≤ E.frontQ.length → exec i s = .next s)
    let joinsBack (i : Instr) (o : BackOp) : Prop :=
      (E.backQ.length < 4 → exec i s = .next (s.retire e 4 { E with backQ := E.backQ ++ [(n, o)] })) ∧ (4 ≤ E.backQ.length → exec i s = .next s)
    (CanIssue s e 4 {} → joinsFront (.swap e 0) 4 .swap ∧ joinsBack (.loadacc e 0 0 0 0 0) .zero)
    ∧ (∀ (w : StrokeF) (ew : Bool), CanIssue s e 8 { sr := [w.rp.toNat, w.rk.toNat, w.rt.toNat, w.rl.toNat] } →
      w.rsv = 0 → w.mode ≠ 3 → w.lf.toNat < 6 → w.tf.toNat < 6 → strokeFmtOk (strokeOf ew E w) = true →
      strokeCheck (strokeOf ew E w) (2 ^ 32 ≤ (E.sr w.rp.toNat).toNat) E.lsLimit = none →
      ((strokeOf ew E w).k ≠ 0 → s.lsStall e (strokeOf ew E w).baseL (operandExtent (strokeOf ew E w) true) false = false
        ∧ s.lsStall e (strokeOf ew E w).baseT (operandExtent (strokeOf ew E w) false) false = false) →
      joinsFront (if ew then .ewise e w else .stroke e w) 8 (.stroke (strokeOf ew E w)))
    ∧ (∀ b : RegF, CanIssue s e 4 { vr := [b.toNat] } →
      joinsBack (.loadacc e 0 1 0 b 0) (.rowv (E.vr b.toNat)) ∧ joinsBack (.loadacc e 0 2 0 b 0) (.colv (E.vr b.toNat)))
    ∧ (∀ (a : RegF) (k : BitVec 7), CanIssue s e 4 { sr := [a.toNat] } → (E.sr a.toNat).toNat % 64 = 0 → (E.sr a.toNat).toNat + 16384 ≤ E.lsLimit →
      (k.toNat < 2 → s.lsStall e (E.sr a.toNat).toNat 16384 false = false → joinsBack (.loadacc e k 3 a 0 0) (.loadLs (E.sr a.toNat).toNat (k = 1)))
      ∧ ((k = 0 ∨ k = 64) → s.lsStall e (E.sr a.toNat).toNat 16384 true = false → joinsBack (.drain e k 7 a 0 0) (.drainLs (E.sr a.toNat).toNat (k = 64))))
    ∧ (∀ (a : RegF) (k : BitVec 7) (f : BitVec 3) (cnt : Nat), (f, cnt) ∈ ([(0, 8), (2, 16), (4, 32)] : List (BitVec 3 × Nat)) →
      CanIssue s e 4 { vwBack := (List.range cnt).map (a.toNat + ·) } → k.toNat % 64 + cnt ≤ 64 → a.toNat + cnt ≤ 32 →
      joinsBack (.drain e k f a 0 0) (.drainV a.toNat cnt (k.toNat % 64) (64 ≤ k.toNat)))
  )
  ∧
  (
  ∀ (s : State) (e : Nat), e < 192 → s.board.clocksStopped = false →
    let E := s.easel e
    let front (P : State → Prop) : Prop := CompletesWith (.canvasQueueExecute e false) s (fun t => OnlyEasel s t e ∧ P t)
    let back (P : State → Prop) : Prop := CompletesWith (.canvasQueueExecute e true) s (fun t => OnlyEasel s t e ∧ P t)
    (E.frontQ = [] → front (fun t => t.easel e = E)) ∧ (E.backQ = [] → back (fun t => t.easel e = E))
    ∧ (∀ o q, E.frontQ = .stroke o :: q → front (fun t => (t.easel e).frontQ = q ∧ (t.easel e).front = packCells (runStroke E.rdLs o E.front).1
        ∧ (t.easel e).cvCount = E.cvCount + BitVec.ofNat 64 o.k ∧ (t.easel e).cvFlags = E.cvFlags ||| (runStroke E.rdLs o E.front).2
        ∧ (t.easel e).back = E.back ∧ (t.easel e).backQ = E.backQ ∧ (t.easel e).v = E.v ∧ (t.easel e).ls = E.ls ∧ (t.easel e).s = E.s))
    ∧ (∀ q, E.frontQ = .swap :: q →
        ((∀ x ∈ E.backQ, 0 < x.1) → front (fun t => (t.easel e).frontQ = q ∧ (t.easel e).front = E.back ∧ (t.easel e).back = E.front
          ∧ (t.easel e).frontIx = !E.frontIx ∧ (t.easel e).backQ.map (·.2) = E.backQ.map (·.2) ∧ (t.easel e).ls = E.ls ∧ (t.easel e).v = E.v))
        ∧ ((∃ x ∈ E.backQ, x.1 = 0) → front (fun t => t.easel e = E)))
    ∧ (∀ k o q, E.backQ = (k + 1, o) :: q → back (fun t => t.easel e = E))
    ∧ (∀ o q, E.backQ = (0, o) :: q → back (fun t => (t.easel e).backQ = q ∧ (t.easel e).front = E.front ∧ (t.easel e).frontQ = E.frontQ
        ∧ (t.easel e).s = E.s ∧ (t.easel e).cvFlags = E.cvFlags
        ∧ (o = .zero → (t.easel e).back = [] ∧ (t.easel e).ls = E.ls ∧ (t.easel e).v = E.v)
        ∧ (∀ v, o = .rowv v → (t.easel e).back = packCells (fromRowV v) ∧ (t.easel e).ls = E.ls)
        ∧ (∀ v, o = .colv v → (t.easel e).back = packCells (fromColV v) ∧ (t.easel e).ls = E.ls)
        ∧ (∀ a tr, o = .loadLs a tr → (t.easel e).back = packCells (fromLs tr (E.rdLs a 16384)) ∧ (t.easel e).ls = E.ls)
        ∧ (∀ a n st tr, o = .drainV a n st tr → (t.easel e).back = E.back ∧ (t.easel e).ls = E.ls
          ∧ (∀ r, (r < a ∨ a + n ≤ r) → (t.easel e).vr r = E.vr r))
        ∧ (∀ a tr, o = .drainLs a tr → (t.easel e).back = E.back ∧ (t.easel e).v = E.v
          ∧ (∀ i, i < (toLs tr (cells E.back)).length → mread 0 (t.easel e).ls (E.lsBase + a + i) = (toLs tr (cells E.back)).getD i 0)
          ∧ (∀ x, (x < E.lsBase + a ∨ E.lsBase + a + (toLs tr (cells E.back)).length ≤ x) → mread 0 (t.easel e).ls x = mread 0 E.ls x))))
  )

/-- With the queue below four entries, VADD, VSUB, VMUL, VMIN, VMAX, VAND, VOR, VXOR, VSLL, VSRL, VSRA, VCMP on i32, VSEL, VBCAST,
VPUT, VPERM and VIOTA queue the write of their 64 lanes to v[A], and VGET and VISUM the write of their scalar to s[A], without
flags; pc advances by 4 and nothing else changes; with four entries queued the Easel stays. With the queue below four entries,
VFADD to VFABS, VCMP on f32, VCVT, VACT, VRS, VCORR, VSUM, VMAXR and VARGMAX queue the write of the lanes (or scalar) that the
lane operation gives on the operands at issue, together with the union of the flags of the lanes; pc advances by 4 and nothing
else changes. -/
def Obligations.PaletteLaneIssueResults : Prop :=
  (
  ∀ (s : State) (e : Nat) (a b c : RegF),
    let E := s.easel e
    let x := E.vr b.toNat
    let y := E.vr c.toNat
    let joins (i : Instr) (o : PalOp) : Prop :=
      (E.palQ.length < 4 → exec i s = .next (s.retire e 4 { E with palQ := E.palQ ++ [o] })) ∧ (4 ≤ E.palQ.length → exec i s = .next s)
    let vec (l : Lanes) : PalOp := .write [(a.toNat, l)] none 0
    let int (op : Int → Int → Int) : PalOp := vec (List.zipWith (fun p q => BitVec.ofInt 32 (op p.toInt q.toInt)) x y)
    let nat (op : Nat → Nat → Nat) : PalOp := vec (List.zipWith (fun p q => BitVec.ofNat 32 (op p.toNat q.toNat)) x y)
    let mask (op : Int → Int → Bool) : PalOp := vec (List.zipWith (fun p q => if op p.toInt q.toInt then 0xFFFFFFFF else 0) x y)
    (CanIssue s e 4 { vr := [b.toNat, c.toNat], vwPal := [a.toNat] } →
      joins (.vadd e a b c) (int (fun p q => p + q)) ∧ joins (.vsub e a b c) (int (fun p q => p - q)) ∧ joins (.vmul e a b c) (int (fun p q => p * q))
      ∧ joins (.vmin e a b c) (int min) ∧ joins (.vmax e a b c) (int max) ∧ joins (.vand e a b c) (nat (fun p q => p &&& q))
      ∧ joins (.vor e a b c) (nat (fun p q => p ||| q)) ∧ joins (.vxor e a b c) (nat (fun p q => p ^^^ q))
      ∧ joins (.vsll e a b c) (nat (fun p q => p * 2 ^ (q % 32))) ∧ joins (.vsrl e a b c) (nat (fun p q => p / 2 ^ (q % 32)))
      ∧ joins (.vsra e a b c) (vec (List.zipWith (fun p q => BitVec.ofInt 32 (p.toInt / 2 ^ (q.toNat % 32))) x y))
      ∧ joins (.vcmp e 0 0 a b c) (mask (fun p q => p = q)) ∧ joins (.vcmp e 0 1 a b c) (mask (fun p q => p ≠ q))
      ∧ joins (.vcmp e 0 2 a b c) (mask (fun p q => p < q)) ∧ joins (.vcmp e 0 3 a b c) (mask (fun p q => p ≤ q))
      ∧ joins (.vperm e 0 a b c) (vec (y.map (fun j => x.getD (j.toNat % 64) 0))))
    ∧ (∀ k : BitVec 7, k.toNat < 32 → CanIssue s e 4 { vr := [k.toNat, b.toNat, c.toNat], vwPal := [a.toNat] } →
      joins (.vsel e k a b c) (vec (List.zipWith (fun m p => if m = 0 then p.2 else p.1) (E.vr k.toNat) (x.zip y))))
    ∧ (CanIssue s e 4 { sr := [b.toNat], vwPal := [a.toNat] } →
      joins (.vbcast e 0 a b 0) (vec (List.replicate 64 (BitVec.ofNat 32 (E.sr b.toNat).toNat)))
      ∧ joins (.viota e 0 a b 0) (vec ((List.range 64).map (fun l => BitVec.ofNat 32 ((E.sr b.toNat).toNat + l)))))
    ∧ (∀ k : BitVec 7, k.toNat < 64 → CanIssue s e 4 { sr := [a.toNat], vr := [b.toNat] } →
      joins (.vget e k a b 0) (.write [] (some (a.toNat, BitVec.ofNat 64 (x.getD k.toNat 0).toNat)) 0)
      ∧ joins (.visum e 0 a b 0) (.write [] (some (a.toNat, BitVec.ofInt 64 ((x.map BitVec.toInt).sum.bmod (2 ^ 32)))) 0))
    ∧ (∀ k : BitVec 7, k.toNat < 64 → CanIssue s e 4 { sr := [b.toNat], vr := [a.toNat], vwPal := [a.toNat] } →
      joins (.vput e k a b 0) (vec ((E.vr a.toNat).set k.toNat (BitVec.ofNat 32 (E.sr b.toNat).toNat))))
  )
  ∧
  (
  ∀ (s : State) (e : Nat) (a b c : RegF),
    let E := s.easel e
    let x := E.vr b.toNat
    let y := E.vr c.toNat
    let joins (i : Instr) (o : PalOp) : Prop := E.palQ.length < 4 → exec i s = .next (s.retire e 4 { E with palQ := E.palQ ++ [o] })
    let flt (l : List FX) : PalOp := .write [(a.toNat, l.map (fun r => r.v))] none (l.foldl (fun f r => f ||| r.f) 0)
    let two (op : FX → FX → FX) : PalOp := flt (List.zipWith (fun p q => op (fx p) (fx q)) x y)
    let mask (op : BitVec 32 → BitVec 32 → Bool) : PalOp := .write [(a.toNat, List.zipWith (fun p q => if op p q then 0xFFFFFFFF else 0) x y)] none 0
    (CanIssue s e 4 { vr := [b.toNat, c.toNat], vwPal := [a.toNat] } →
      joins (.vfadd e 0 a b c) (two xadd) ∧ joins (.vfsub e 0 a b c) (two xsub) ∧ joins (.vfmul e 0 a b c) (two xmul)
      ∧ joins (.vfmin e 0 a b c) (two xmin) ∧ joins (.vfmax e 0 a b c) (two xmax) ∧ joins (.vfdiv e 0 a b c) (two xdiv)
      ∧ (c = 0 → joins (.vfsqrt e 0 a b 0) (flt (List.zipWith (fun p _ => xsqrt (fx p)) x y))
        ∧ joins (.vfabs e 0 a b 0) (flt (List.zipWith (fun p _ => ⟨if fIsNan p then fNan else fAbs p, 0⟩) x y)))
      ∧ joins (.vcmp e 1 0 a b c) (mask fEq) ∧ joins (.vcmp e 1 1 a b c) (mask (fun p q => !fEq p q))
      ∧ joins (.vcmp e 1 2 a b c) (mask fLt) ∧ joins (.vcmp e 1 3 a b c) (mask fLe))
    ∧ (∀ (k : BitVec 7) (f : BitVec 3), CanIssue s e 4 { vr := [b.toNat], vwPal := [a.toNat] } →
      (f ≠ 7 → joins (.vcvt e 0 f a b 0) (flt (x.map (cvtLane f.toNat))))
      ∧ (k.toNat < 8 → joins (.vact e k 0 a b 0) (flt (x.map (fun p => activate k.toNat (fx p))))))
    ∧ (∀ k : BitVec 7, k.toNat < 64 → CanIssue s e 4 { sr := [k.toNat % 32], vr := [b.toNat, c.toNat], vwPal := [a.toNat] } →
      joins (.vrs e k 0 a b c) (flt (List.zipWith (fun p q =>
        xmul (xmul (fx (if k.toNat < 32 then i32ToF p else p)) (fx ((E.sr (k.toNat % 32)).setWidth 32))) (fx q)) x y)))
    ∧ (∀ k : BitVec 7, k.toNat < 32 → CanIssue s e 4 { sr := [k.toNat], vr := [a.toNat, b.toNat, c.toNat], vwPal := [a.toNat] } →
      joins (.vcorr e k 0 a b c) (flt (List.zipWith (fun w pq =>
        xadd (fx w) (xmul (xmul (fx (i32ToF pq.1)) (fx ((E.sr k.toNat).setWidth 32))) (fx pq.2))) (E.vr a.toNat) (x.zip y))))
    ∧ (CanIssue s e 4 { sr := [a.toNat], vr := [b.toNat] } →
      joins (.vsum e 0 a b 0) (.write [] (some (a.toNat, BitVec.ofNat 64 (laneTree (x.map fx)).v.toNat)) (laneTree (x.map fx)).f)
      ∧ joins (.vmaxr e 0 a b 0) (.write [] (some (a.toNat, BitVec.ofNat 64 (x.tail.foldl fmax (fmax (x.headD 0) (x.headD 0))).toNat)) 0)
      ∧ joins (.vargmax e 0 a b 0) (.write [] (some (a.toNat, BitVec.ofNat 64 (((keySort (withIndex x)).headD (0, 0)).2).toNat)) 0))
  )

/-- VSORT and VMERGE queue the sorted pairs of their even register groups and VIOU the lanes' overlaps; a misaligned group is
EX_PALETTE_OPERAND with its register number. VLD and VST at a multiple of 64 inside the local store queue their access, and a
misaligned or out-of-range one is EX_PALETTE_RANGE. PQUANT, PSOFTMAX, PLNORM, PRMSNORM, PPOOL, PDWCONV, PGCONV and PEWISE whose
128-byte block lies in the local store and passes the parameter and range checks, with the queue below four entries and no
interlock, join the queue with the block as read, advance pc by 8 and change nothing else. A failed parameter check is
EX_PALETTE_PARAM, a failed range check EX_PALETTE_RANGE, each with the failed field as detail. -/
def Obligations.PaletteMemoryAndTensorIssueResults : Prop :=
  (
  ∀ (s : State) (e : Nat) (a b c : RegF) (k : BitVec 7) (f : BitVec 3),
    let E := s.easel e
    let joins (i : Instr) (o : PalOp) : Prop := E.palQ.length < 4 → exec i s = .next (s.retire e 4 { E with palQ := E.palQ ++ [o] })
    let pairs (r : Nat) := (E.vr r).zip (E.vr (r + 1))
    let x := (E.sr b.toNat).toNat
    let ldBytes := [256, 64, 64, 128, 128, 64, 64, 32].getD f.toNat 0
    let stBytes := [256, 64, 128].getD f.toNat 0
    (CanIssue s e 4 { vr := [a.toNat, a.toNat + 1], vwPal := [a.toNat, a.toNat + 1] } →
      (a.toNat % 2 = 0 → joins (.vsort e 0 a 0 0) (.write [(a.toNat, (keySort (pairs a.toNat)).map (fun p => p.1)),
        (a.toNat + 1, (keySort (pairs a.toNat)).map (fun p => p.2))] none 0))
      ∧ (a.toNat % 2 = 1 → exec (.vsort e 0 a 0 0) s = .next (s.easelFault e exPaletteOperand (wordR 0x33 0 0 0 0 a.toNat) 0 a.toNat)))
    ∧ (CanIssue s e 4 { vr := [a.toNat, a.toNat + 1, b.toNat, b.toNat + 1], vwPal := [a.toNat, a.toNat + 1, b.toNat, b.toNat + 1] } →
      a.toNat % 2 = 0 → b.toNat % 2 = 0 → a ≠ b →
      let m := keySort (pairs a.toNat ++ pairs b.toNat)
      joins (.vmerge e 0 a b 0) (.write [(a.toNat, (m.take 64).map (fun p => p.1)), (a.toNat + 1, (m.take 64).map (fun p => p.2)),
        (b.toNat, (m.drop 64).map (fun p => p.1)), (b.toNat + 1, (m.drop 64).map (fun p => p.2))] none 0))
    ∧ (CanIssue s e 4 { vr := [a.toNat, a.toNat + 1, b.toNat, b.toNat + 1], vwPal := [a.toNat, a.toNat + 1, b.toNat, b.toNat + 1] } →
      (a.toNat % 2 = 1 → exec (.vmerge e 0 a b 0) s = .next (s.easelFault e exPaletteOperand (wordR 0x33 0 1 0 b.toNat a.toNat) 0 a.toNat))
      ∧ (a.toNat % 2 = 0 → (b.toNat % 2 = 1 ∨ a = b) →
        exec (.vmerge e 0 a b 0) s = .next (s.easelFault e exPaletteOperand (wordR 0x33 0 1 0 b.toNat a.toNat) 0 b.toNat)))
    ∧ (CanIssue s e 4 { vr := (List.range 4).map (b.toNat + ·) ++ (List.range 4).map (c.toNat + ·), vwPal := [a.toNat] } → k.toNat < 64 →
      (b.toNat % 4 = 0 → c.toNat % 4 = 0 → ∃ l : List FX, l = (List.range 64).map (fun n => iou (laneBox E b.toNat n) (laneBox E c.toNat k.toNat))
        ∧ joins (.viou e k a b c) (.write [(a.toNat, l.map (fun r => r.v))] none (l.foldl (fun f r => f ||| r.f) 0)))
      ∧ (b.toNat % 4 ≠ 0 → exec (.viou e k a b c) s = .next (s.easelFault e exPaletteOperand (wordR 0x34 k.toNat 0 c.toNat b.toNat a.toNat) 0 b.toNat))
      ∧ (b.toNat % 4 = 0 → c.toNat % 4 ≠ 0 →
        exec (.viou e k a b c) s = .next (s.easelFault e exPaletteOperand (wordR 0x34 k.toNat 0 c.toNat b.toNat a.toNat) 0 c.toNat)))
    ∧ (CanIssue s e 4 { sr := [b.toNat], vwPal := [a.toNat] } →
      (x % 64 = 0 → x + ldBytes ≤ E.lsLimit → s.lsStall e x ldBytes false = false → joins (.vld e 0 f a b 0) (.load a.toNat f.toNat x))
      ∧ ((x % 64 ≠ 0 ∨ E.lsLimit < x + ldBytes) →
        exec (.vld e 0 f a b 0) s = .next (s.easelFault e exPaletteRange (wordR 0x2F 0 f.toNat 0 b.toNat a.toNat) x b.toNat)))
    ∧ (CanIssue s e 4 { sr := [b.toNat], vr := [a.toNat] } → f.toNat < 3 →
      (x % 64 = 0 → x + stBytes ≤ E.lsLimit → s.lsStall e x stBytes true = false → joins (.vst e 0 f a b 0) (.store (E.vr a.toNat) f.toNat x))
      ∧ ((x % 64 ≠ 0 ∨ E.lsLimit < x + stBytes) →
        exec (.vst e 0 f a b 0) s = .next (s.easelFault e exPaletteRange (wordR 0x30 0 f.toNat 0 b.toNat a.toNat) x b.toNat)))
  )
  ∧
  (
  ∀ (s : State) (e : Nat) (r : RegF) (form : Nat) (i : Instr), CanIssue s e 8 { sr := [r.toNat] } →
    (i, form) ∈ ([(.pquant e r 0, 0), (.psoftmax e r 0, 1), (.plnorm e r 0, 2), (.prmsnorm e r 0, 3), (.ppool e r 0, 4), (.pdwconv e r 0, 5),
      (.pgconv e r 0, 6), (.pewise e r 0, 7)] : List (Instr × Nat)) →
    let E := s.easel e
    let x := (E.sr r.toNat).toNat
    let b := mreadN 0 E.ls (E.lsBase + x) 128
    let p := decodePBlock b
    (E.lsLimit < x + 128 → exec i s = .next (s.easelFault e exPaletteRange (wordForm (0x20 + form) r 0) x 0xFFFF))
    ∧ (x + 128 ≤ E.lsLimit → s.lsStall e x 128 false = false →
    (pParamCheck form p = none → pRangeCheck form p E.lsLimit = none → E.palQ.length < 4 → (∀ q ∈ pInputs form p, s.lsStall e q.2.1 q.2.2 false = false) →
      (∀ q ∈ pOutputs form p, s.lsStall e q.2.1 q.2.2 true = false) →
      exec i s = .next (s.retire e 8 { E with palQ := E.palQ ++ [.tensor form b] }))
    ∧ (∀ d, pParamCheck form p = some d → exec i s = .next (s.easelFault e exPaletteParam (wordForm (0x20 + form) r 0) 0 d))
    ∧ (∀ d, pParamCheck form p = none → pRangeCheck form p E.lsLimit = some d → exec i s = .next (s.easelFault e exPaletteRange (wordForm (0x20 + form) r 0) 0 d)))
  )

/-- PALETTE_QUEUE_EXECUTE takes the oldest entry: a lane result writes its vector registers, its scalar register and its sticky flags;
a load writes v[A] with the 64 widened elements; a store writes its bytes in the local store; a tensor form writes its outputs and
flags. Nothing outside the Easel changes, and an empty queue changes nothing. -/
def Obligations.PaletteQueueResults : Prop :=
  ∀ (s : State) (e : Nat), e < 192 → s.board.clocksStopped = false →
    let E := s.easel e
    let runs (P : Easel → Prop) : Prop := CompletesWith (.paletteQueueExecute e) s (fun t => OnlyEasel s t e ∧ P (t.easel e))
    (E.palQ = [] → exec (.paletteQueueExecute e) s = .next s)
    ∧ (∀ vs sc fl q, E.palQ = .write vs sc fl :: q → runs (fun F => F.palQ = q ∧ F.plFlags = E.plFlags ||| fl ∧ F.ls = E.ls ∧ F.d = E.d ∧ F.p = E.p ∧ F.pc = E.pc
        ∧ (∀ r l, vs = [(r, l)] → l.length = 64 → F.vr r = l) ∧ (∀ r, (∀ w ∈ vs, w.1 ≠ r) → F.vr r = E.vr r)
        ∧ (∀ r v, sc = some (r, v) → r ≠ 0 → F.sr r = v) ∧ (∀ r, (∀ w, sc = some w → w.1 ≠ r) → F.sr r = E.sr r)))
    ∧ (∀ a f x q, E.palQ = .load a f x :: q → runs (fun F => F.palQ = q ∧ F.plFlags = E.plFlags ∧ F.ls = E.ls ∧ F.s = E.s
        ∧ F.vr a = (List.range 64).map (vldLane f (E.rdLs x (vldBytes f))) ∧ ∀ r, r ≠ a → F.vr r = E.vr r))
    ∧ (∀ v f x q, E.palQ = .store v f x :: q → runs (fun F => F.palQ = q ∧ F.plFlags = E.plFlags ∧ F.v = E.v ∧ F.s = E.s
        ∧ (∀ i, i < (vstData f v).length → mread 0 F.ls (E.lsBase + x + i) = (vstData f v).getD i 0)
        ∧ (∀ y, (y < E.lsBase + x ∨ E.lsBase + x + (vstData f v).length ≤ y) → mread 0 F.ls y = mread 0 E.ls y)))
    ∧ (∀ f b q, E.palQ = .tensor f b :: q → runs (fun F => F.palQ = q ∧ F.plFlags = E.plFlags ||| (runForm E.rdLs f b).2 ∧ F.v = E.v ∧ F.s = E.s
        ∧ (∀ y, mread 0 F.ls y = mread 0 (mwriteL 0 E.ls ((runForm E.rdLs f b).1.map (fun z => (E.lsBase + z.1, z.2)))) y)))

/-- A launch whose block lies at a multiple of 64 in the local store and passes every check, with fewer than 16 jobs in the cluster's
queue and fewer than 4 of this Easel, adds the job with its block and its flag (none for PLAUNCH) at the end of the cluster's
queue, advances pc and changes nothing else; PWAIT goes on when the Easel has no job left and waits otherwise. PRIMER_JOB_START
reads the activation codes of the oldest job; a code above 7 ends it with EX_PRIMER_PARAM, detail 64, at the launching Easel.
PRIMER_JOB_COMPLETE of a started job, with no bit errors injected, writes the job's output to device memory or the launching
Easel's local store, steps ECR_PRDONE, removes the job, and then writes its flag; every other Easel keeps its registers, canvases
and local store (a buffer the output releases may ring doorbells). -/
def Obligations.PrimerResults : Prop :=
  (
  ∀ (s : State) (e : Nat) (r rf rg : RegF),
    let E := s.easel e
    let x := (E.sr r.toNat).toNat
    let b := mreadN 0 E.ls (E.lsBase + x) 128
    let j := decodeJBlock b
    let q := s.primer (e / 8)
    let fl : Option (Nat × U32) := if rf = 0 then none else some ((E.sr rf.toNat).toNat, (E.sr rg.toNat).setWidth 32)
    let ready : Prop := x % 64 = 0 ∧ x + 128 ≤ E.lsLimit ∧ s.lsStall e x 128 false = false ∧ jParamCheck j = none ∧ jRangeCheck j E.lsLimit = none
      ∧ s.devCheck e (jInputs j ++ if j.dstSpace = 1 then [] else (jOutputs j).map (fun o => (o.2.1, o.2.2))) s.reachable = none
      ∧ q.length < 16 ∧ q.countP (fun y => y.easel = e) < 4 ∧ (j.dstSpace = 1 → ∀ o ∈ jOutputs j, s.lsStall e o.2.1 o.2.2 true = false)
    let launched (i : Instr) (len word : Nat) (f : Option (Nat × U32)) : Prop := CompletesWith i s (fun t =>
      t.easel e = { E with pc := E.pc + len } ∧ (∀ k, k ≠ e → t.easel k = s.easel k)
      ∧ t.primer (e / 8) = q ++ [{ easel := e, block := b, flag := f, part := s.workPart e, pc := E.pc, insn := BitVec.ofNat 64 word }]
      ∧ t.mem = s.mem ∧ t.parts = s.parts ∧ t.host = s.host)
    (CanIssue s e 4 { sr := [r.toNat] } → ready → launched (.plaunch e 0 0 0 r 0) 4 (wordR 0x3C 0 0 0 r.toNat 0) none)
    ∧ (CanIssue s e 8 { sr := [r.toNat, rf.toNat, rg.toNat] } → ready → s.flagCheck e fl = none → launched (.plaunchF e r rf rg 0) 8 (rg.toNat * 2 ^ 17 + rf.toNat * 2 ^ 12 + r.toNat * 2 ^ 7 + 0x61) fl)
    ∧ (CanIssue s e 4 {} → ((∀ y ∈ q, y.easel ≠ e) → exec (.pwait e 0 0 0 0 0) s = .next (s.retire e 4 E))
      ∧ ((∃ y ∈ q, y.easel = e) → exec (.pwait e 0 0 0 0 0) s = .next s))
  )
  ∧
  (
  ∀ (s : State) (c : Nat) (j : PrimerJob) (q : List PrimerJob), c < 24 → s.board.clocksStopped = false → s.primer c = j :: q →
    let b := decodeJBlock j.block
    let acts := jActs s.devN b
    (j.started = false → (∀ a ∈ acts, a ≤ 7) → exec (.primerJobStart c) s = .next (s.setPrimer c ({ j with started := true, acts := acts } :: q)))
    ∧ (j.started = false → (∃ a ∈ acts, 7 < a) → exec (.primerJobStart c) s = .next ((s.setPrimer c q).easelFaultAt j.easel j.pc exPrimerParam j.insn.toNat 0 64))
    ∧ (j.started = true → exec (.primerJobStart c) s = .next s) ∧ (j.started = false → exec (.primerJobComplete c) s = .next s)
    ∧ (j.started = true → s.mem.flips = [] →
      let ws := runJob s.devN b j.acts
      let E := s.easel j.easel
      let flagBytes : List (Nat × Byte) := match j.flag with
        | none => []
        | some (off, g) => (List.range 4).map (fun i => (galleryBase (dieOf j.easel) + off + 4 + i, BitVec.ofNat 8 (g.toNat / 256 ^ i)))
      CompletesWith (.primerJobComplete c) s (fun t => t.primer c = q ∧ (t.easel j.easel).prDone = E.prDone + 1
        ∧ (∀ a, t.dev a = mread 0 (mwriteL 0 (mwriteL 0 s.mem.dev (if b.dstSpace = 1 then [] else ws)) flagBytes) a)
        ∧ (∀ a, mread 0 (t.easel j.easel).ls a = mread 0 (mwriteL 0 E.ls (if b.dstSpace = 1 then ws.map (fun x => (E.lsBase + x.1, x.2)) else [])) a)
        ∧ ∀ k, (t.easel k).s = (s.easel k).s ∧ (t.easel k).p = (s.easel k).p ∧ (t.easel k).v = (s.easel k).v ∧ (t.easel k).d = (s.easel k).d
          ∧ (t.easel k).pc = (s.easel k).pc ∧ (t.easel k).front = (s.easel k).front ∧ (t.easel k).back = (s.easel k).back
          ∧ (k ≠ j.easel → (t.easel k).ls = (s.easel k).ls ∧ (t.easel k).prDone = (s.easel k).prDone)))
  )

/-- With BAR requests served and the part READY: an 8-byte read of an assigned register answers its value, least significant byte
first, and keeps the captures; a 4-byte read of a read-only register's low half answers it and captures the high half, and a
4-byte read of the high half answers the capture; an unassigned offset answers zeros; another shape is a Completer Abort, counted
once. MB_C2H and MB_FROMn_DATA are consuming reads. With BAR requests served and the part READY, a write to an offset that no
register has, or of another shape than a naturally aligned 4 or 8 bytes, is discarded and counted once; W1C writes to
GLB_COMMIT_BUSY and DB_HOSTn_PEND clear the bits written as 1; before BAR requests are served a write changes no register; before
ST20 a write is discarded and counted. -/
def Obligations.RegisterAccessResults : Prop :=
  (
  ∀ (s : State) (bar off : Nat), (bar = 0 ∨ bar = 2) → off % 8 = 0 → off + 8 ≤ s.barSize bar → HostOn s → s.gatedMbx bar off = false →
    let answers (i : Instr) (b : List Byte) (P : State → Prop) : Prop := CompletesWith i s (fun t => t.pcie.reply = .data b ∧ P t
      ∧ (∀ a, t.dev a = s.dev a) ∧ t.easels = s.easels ∧ t.parts = s.parts ∧ t.pcie.pba = s.pcie.pba)
    (∀ v ro, s.readReg bar off = some (v, ro) →
      answers (.registerReadCapture bar off 8) (leBytes 8 v) (fun t => t.pcie.captures = s.pcie.captures)
      ∧ (mbxData bar off = false →
        answers (.registerReadCapture bar off 4) (leBytes 4 (v % 2 ^ 32))
          (fun t => t.capture (captureKey bar off) = if ro then v / 2 ^ 32 % 2 ^ 32 else s.capture (captureKey bar off))
        ∧ answers (.registerReadCapture bar (off + 4) 4) (leBytes 4 (if ro then s.capture (captureKey bar off) else v / 2 ^ 32))
          (fun t => t.pcie.captures = s.pcie.captures)))
    ∧ (s.readReg bar off = none → answers (.registerReadCapture bar off 8) (List.replicate 8 0) (fun t => t = { s with pcie := { s.pcie with reply := t.pcie.reply } }))
    ∧ CompletesWith (.barReadShapeAbort bar off 2) s (fun t => t.pcie.reply = .completerAbort ∧ t.pcie.aborts = s.pcie.aborts + 1
        ∧ t.host = s.host ∧ t.easels = s.easels)
    ∧ answers .mbC2hRead (leBytes 8 (if s.host.c2h.full then s.host.c2h.val.toNat else 0))
        (fun t => t.host.c2h = { val := if s.host.c2h.full then 0 else s.host.c2h.val, full := false, overrun := s.host.c2h.overrun } ∧ t.host.h2c = s.host.h2c)
    ∧ (∀ e, e < 192 → answers (.mbFromDataRead e) (leBytes 8 (if (s.fromMbx e).mbx.full then (s.fromMbx e).mbx.val.toNat else 0))
        (fun t => (t.fromMbx e).mbx.full = false ∧ (t.fromMbx e).mbx.overrun = (s.fromMbx e).mbx.overrun ∧ (t.fromMbx e).signal = (s.fromMbx e).signal
          ∧ ∀ k, k ≠ e → t.fromMbx k = s.fromMbx k))
  )
  ∧
  (
  ∀ (s : State) (v : U64),
    (HostOn s →
      (∀ bar off size, (bar = 0 ∨ bar = 2) → off + size ≤ s.barSize bar → ¬ ((size = 4 ∨ size = 8) ∧ off % size = 0) →
        CompletesWith (.registerWrite bar off size v) s (fun t => t.pcie.discards = s.pcie.discards + 1 ∧ t.host = s.host ∧ t.easels = s.easels ∧ t.tb = s.tb))
      ∧ (∀ off, off % 8 = 0 → 0x70 ≤ off → off < 0x1000 →
        CompletesWith (.registerWrite 0 off 8 v) s (fun t => t.pcie.discards = s.pcie.discards + 1 ∧ t.host = s.host ∧ t.easels = s.easels ∧ t.tb = s.tb))
      ∧ exec (.registerWrite 0 0x28 8 v) s = .next { s with host := { s.host with busy := s.host.busy &&& ~~~(v.setWidth 7) } }
      ∧ (∀ n, n < 17 → exec (.registerWrite 0 (0x2000 + 0x10 * n) 8 v) s
          = .next (s.setDoorbell n { s.doorbell n with pend := (s.doorbell n).pend &&& ~~~(v.setWidth 32) })))
    ∧ (∀ bar off size, (bar = 0 ∨ bar = 2) → off + size ≤ s.barSize bar → s.barOn = false →
        CompletesWith (.registerWrite bar off size v) s (fun t => t.host = s.host ∧ t.easels = s.easels ∧ t.boot = s.boot ∧ t.tb = s.tb))
    ∧ (∀ off size, off + size ≤ 0x4000000 → (size = 4 ∨ size = 8) → off % size = 0 → s.barOn = true → s.boot.state = 0 →
        CompletesWith (.registerWrite 0 off size v) s (fun t => t.pcie.discards = s.pcie.discards + 1 ∧ { t with pcie := s.pcie } = s))
  )

/-- A write to MB_H2C or MB_EMBXn_DATA of a powered Easel stores the value and sets FULL when the mailbox is empty, and stores nothing
and sets OVERRUN when it is full; a write to a gated Easel's mailbox is discarded and counted. The echo takes the value of MB_H2C
and stores it into MB_C2H under the same rule, and sets device doorbell bit MAILBOX when it was stored. -/
def Obligations.MailboxStoreResults : Prop :=
  ∀ (s : State) (v : U64), HostOn s →
    let stored (m m' : Mbx) (v : U64) : Prop := m' = if m.full then { m with overrun := true } else { m with val := v, full := true }
    CompletesWith (.mbH2cWrite v) s (fun t => stored s.host.h2c t.host.h2c v ∧ t.host.c2h = s.host.c2h ∧ t.easels = s.easels ∧ t.mem = s.mem)
    ∧ (∀ e, e < 192 → (s.easel e).powered = true → (s.easel e).loan = none →
        CompletesWith (.mbEmbxDataWrite e v) s (fun t => stored (s.easel e).mbx (t.easel e).mbx v ∧ { t.easel e with mbx := (s.easel e).mbx } = s.easel e
          ∧ (∀ k, k ≠ e → t.easel k = s.easel k) ∧ t.host = s.host))
    ∧ (∀ e, e < 192 → (s.easel e).powered = false →
        CompletesWith (.mbEmbxDataWrite e v) s (fun t => t.pcie.discards = s.pcie.discards + 1 ∧ t.easels = s.easels ∧ t.host = s.host))
    ∧ (s.host.h2c.full = true → CompletesWith .curatorMailboxEcho s (fun t => t.host.h2c.full = false ∧ t.host.h2c.overrun = s.host.h2c.overrun
        ∧ stored s.host.c2h t.host.c2h s.host.h2c.val ∧ (s.host.c2h.full = false → (t.doorbell 16).pend.getLsbD 3 = true) ∧ t.easels = s.easels))
    ∧ (s.host.h2c.full = false → exec .curatorMailboxEcho s = .next s)

/-- With d = (t - A) mod 2^32 and N = 2^SQ_LOG2, a write of t to DB_SQn of a queue that is not DISABLED: d = 0 or d >= 2^31 is ignored
and counted; 1 <= d <= N makes t the tail when it is after it, in every state of the queue; N < d < 2^31 stops the queue with
reason TAIL_RANGE, and on a DRAINING queue is counted (log 20). A STOPPED queue stays STOPPED and no command is accepted. No other
queue changes. -/
def Obligations.DoorbellSqRule : Prop :=
  ∀ (s : State) (q : Nat) (t : U32), q < 64 → HostOn s → (s.queue q).state ≠ 0 →
    let Q := s.queue q
    let d := ((t.toNat : Int) - Q.accepted.toNat) % 2 ^ 32
    let N : Int := 2 ^ (Q.cfg.toNat / 2 ^ 6 % 32)
    let after : Prop := 1 ≤ ((t.toNat : Int) - Q.tail.toNat) % 2 ^ 32 ∧ ((t.toNat : Int) - Q.tail.toNat) % 2 ^ 32 < 2 ^ 31
    CompletesWith (.dbSqWrite q t) s (fun u => (∀ k, k ≠ q → u.queue k = s.queue k) ∧ u.easels = s.easels ∧ u.mem = s.mem
      ∧ ((d = 0 ∨ 2 ^ 31 ≤ d) → u.queue q = { Q with dbErr := Q.dbErr + 1 })
      ∧ (1 ≤ d → d ≤ N → d < 2 ^ 31 → (after → u.queue q = { Q with tail := t }) ∧ (¬ after → u.queue q = Q))
      ∧ (N < d → d < 2 ^ 31 → Q.state ≠ 3 → u.queue q = { Q with state := 2, reason := 2 } ∧ (u.doorbell 16).pend.getLsbD 0 = true)
      ∧ (N < d → d < 2 ^ 31 → Q.state = 3 → u.queue q = { Q with dbErr := Q.dbErr + 1 })
      ∧ ((u.queue q).accepted = Q.accepted ∧ (u.queue q).cmds = Q.cmds) ∧ (Q.state = 2 → (u.queue q).state = 2))

/-- RESUME written to HQ_Qn_CTL of a STOPPED queue makes it RUNNING with REASON NONE and leaves its numbers; of a queue that is not
STOPPED it changes nothing. When the tail is after A, the resumed queue's next fetch reads the slot of submission number A + 1
(with room for a completion and fewer than 4,096 open commands). -/
def Obligations.ResumeRule : Prop :=
  ∀ (s : State) (q : Nat), q < 64 → HostOn s →
    let Q := s.queue q
    let t := s.setQueue q { Q with state := 1, reason := 0 }
    (Q.state = 2 → exec (.resume q) s = .next t)
    ∧ (Q.state ≠ 2 → exec (.resume q) s = .next s)
    ∧ (Q.state = 2 → Q.fetching = false → 1 ≤ (Q.tail - Q.accepted).toNat → (Q.tail - Q.accepted).toNat < 2 ^ 31 →
        Q.cmds.length + (Q.written - Q.consumed).toNat < 2 ^ (Q.cfg.toNat / 2 ^ 11 % 32) → t.openCommands < 4096 →
        exec (.submissionFetch q) t = .next ((t.setQueue q { Q with state := 1, reason := 0, fetching := true }).addXfer (.fetch q)
          (Q.sqBase.toNat + 64 * ((Q.accepted + 1).toNat % 2 ^ (Q.cfg.toNat / 2 ^ 6 % 32))) 64))

/-- HQ_Qn_CQ_CONS takes a value at or after C and not after W, and ignores and counts any other; HQ_RINGn_CONS takes a value from the
previous one to p, and ignores and counts any other; ING_SPRX_CONS and ING_SPTX_PROD take a multiple of 8 below their ring's size,
and any other value changes nothing (R5, R504); ING_SPTX_PROD with no entry in transfer and one announced starts the read of that
entry's header. A write to DB_HOSTn_MASK sets MASK and VECTOR; the vector is raised when a pending bit's mask goes from 0 to 1,
and otherwise no vector is raised. Pending bits stay. -/
def Obligations.IndexAndMaskRules : Prop :=
  (
  ∀ s : State, HostOn s →
    (∀ q v, q < 64 → let Q := s.queue q
      let inside : Prop := ((v.toNat : Int) - Q.consumed.toNat) % 2 ^ 32 < 2 ^ 31
        ∧ ¬ (1 ≤ ((v.toNat : Int) - Q.written.toNat) % 2 ^ 32 ∧ ((v.toNat : Int) - Q.written.toNat) % 2 ^ 32 < 2 ^ 31)
      (inside → exec (.hqQnCqConsWrite q v) s = .next (s.setQueue q { Q with consumed := v }))
      ∧ (¬ inside → exec (.hqQnCqConsWrite q v) s = .next (s.setQueue q { Q with consErr := Q.consErr + 1 })))
    ∧ (∀ r v, r < 64 → let R := s.ring r
      (R.cons.toNat ≤ v.toNat → v.toNat ≤ R.prod.toNat → exec (.hqRingConsWrite r v) s = .next (s.setRing r { R with cons := v }))
      ∧ ((v.toNat < R.cons.toNat ∨ R.prod.toNat < v.toNat) → exec (.hqRingConsWrite r v) s = .next (s.setRing r { R with consErr := R.consErr + 1 })))
    ∧ (∀ v : U64, let c := s.host.live
      let rx : Prop := v.toNat % 8 = 0 ∧ v.toNat < 2 ^ c.sprxSize.toNat
      let tx : Prop := v.toNat % 8 = 0 ∧ v.toNat < 2 ^ c.sptxSize.toNat
      let t : State := { s with ing := { s.ing with sptxProd := v } }
      (rx → exec (.ingSprxConsWrite v) s = .next { s with ing := { s.ing with sprxCons := v } }) ∧ (¬ rx → exec (.ingSprxConsWrite v) s = .next s)
      ∧ (tx → (s.slowBusy = true ∨ v = s.ing.sptxCons) → exec (.ingSptxProdWrite v) s = .next t) ∧ (¬ tx → exec (.ingSptxProdWrite v) s = .next s)
      ∧ (tx → s.slowBusy = false → v ≠ s.ing.sptxCons → s.ing.sptxCons.toNat < 2 ^ c.sptxSize.toNat →
        exec (.ingSptxProdWrite v) s = .next (t.addXfer .slowHead (c.sptxBase.toNat + s.ing.sptxCons.toNat) 16)))
  )
  ∧
  (
  ∀ (s : State) (w : Nat) (v : U64), w < 17 → HostOn s →
    let d := s.doorbell w
    let m : U32 := v.setWidth 32
    let vec := v.toNat / 2 ^ 32 % 256
    CompletesWith (.dbHostMaskWrite w v) s (fun t => (t.doorbell w).mask = m ∧ (t.doorbell w).vector.toNat = vec ∧ (t.doorbell w).pend = d.pend
      ∧ (∀ k, k ≠ w → t.doorbell k = s.doorbell k)
      ∧ ((∃ i, i < 32 ∧ d.pend.getLsbD i = true ∧ m.getLsbD i = true ∧ d.mask.getLsbD i = false) → t.pcie.pba = s.pcie.pba ||| BitVec.ofNat 256 (2 ^ vec))
      ∧ ((∀ i, i < 32 → d.pend.getLsbD i = true → m.getLsbD i = true → d.mask.getLsbD i = true) → t.pcie.pba = s.pcie.pba) ∧ t.easels = s.easels)
  )

/-- MSIX_MESSAGE_SEND of a pending, unmasked vector with MSI-X enabled, the Function Mask 0 and requests allowed writes the entry's
data at the entry's address and clears the pending bit; when any of these fails it changes nothing. ASSERT_INTA makes INTA
asserted exactly when MSI-X is disabled, interrupts are not, the function is in D0 and some pending vector is not masked. -/
def Obligations.InterruptResults : Prop :=
  ∀ (s : State),
    (∀ v, v < 256 →
      let m := s.msixEntry v
      let may : Prop := s.busOn = true ∧ s.pcie.msixEnable = true ∧ s.pcie.msixMask = false ∧ m.masked = false ∧ s.pcie.pba.getLsbD v = true
      (may → CompletesWith (.msixMessageSend v) s (fun t => t.pcie.pba = s.pcie.pba &&& ~~~(BitVec.ofNat 256 (2 ^ v))
        ∧ (∀ i, i < 4 → (mread 0 t.pcie.hostMem (m.addr.toNat + i)).toNat = m.data.toNat / 256 ^ i % 256)
        ∧ (∀ a, (a < m.addr.toNat ∨ m.addr.toNat + 4 ≤ a) → mread 0 t.pcie.hostMem a = mread 0 s.pcie.hostMem a)
        ∧ t.host = s.host ∧ t.mem = s.mem ∧ t.easels = s.easels))
      ∧ (¬ may → exec (.msixMessageSend v) s = .next s))
    ∧ CompletesWith .assertInta s (fun t => t = { s with pcie := { s.pcie with intaAsserted := t.pcie.intaAsserted } }
      ∧ (t.pcie.intaAsserted = true ↔ s.pcie.msixEnable = false ∧ s.pcie.intxDisable = false ∧ s.pcie.d3hot = false
        ∧ ∃ v, v < 256 ∧ s.pcie.pba.getLsbD v = true ∧ (s.msixEntry v).masked = false))

/-- Each COMMIT command sets its group's COMMIT bit of GLB_COMMIT (for a queue, in its HQ_Qn_CTL) and changes nothing else. A write to
PWR_CTL goes to the staged copy while COMMIT reads 0; while COMMIT reads 1 it is not stored and sets the BUSY bit. The value in
force does not change. GROUP_APPLY of a group that was asked for, at its safe point: COMMIT is cleared; a staged copy with an
undefined or out-of-range value changes nothing in force, sets INVALID and sets device doorbell bit COMMIT_INVALID; a defined one
puts every field of the group in force. A group that was not asked for does not change. For a queue whose COMMIT reads 1 with no
fetch in progress: a defined group that turns ENABLE on for a DISABLED queue makes it RUNNING with A, W, C and its counters 0; one
that turns ENABLE off for a queue with nothing in flight makes it DISABLED and sets device doorbell bit QUEUE_DISABLED, and with
commands in flight makes it DRAINING; a change of base or size of a queue that is not DISABLED is refused and sets INVALID. -/
def Obligations.CommitGroupRules : Prop :=
  (
  ∀ s : State, HostOn s →
    (∀ i k, (i, k) ∈ ([(.commitIngPort 0, 0), (.commitIngPort 1, 1), (.commitIngSp, 2), (.commitTbSrc, 3), (.commitTbPhase, 4), (.commitGlbBar4, 5),
      (.commitPwr, 6)] : List (Instr × Nat)) →
      exec i s = .next { s with host := { s.host with commit := s.host.commit ||| BitVec.ofNat 7 (2 ^ k) } })
    ∧ (∀ q : Fin 64, exec (.commitQueue q) s = .next (s.setQueue q.val { s.queue q.val with commit := true }))
    ∧ (∀ v : U64, CompletesWith (.registerWrite 0 0x4000 8 v) s (fun t => t.host.live = s.host.live
      ∧ (s.host.commit.getLsbD 6 = false → t.host.staged = { s.host.staged with pwrCtl := v } ∧ t.host.busy = s.host.busy)
      ∧ (s.host.commit.getLsbD 6 = true → t.host.staged = s.host.staged ∧ t.host.busy = s.host.busy ||| 64)))
  )
  ∧
  (
  ∀ s : State,
    let c := s.host.staged
    (s.host.commit.getLsbD 5 = true →
      CompletesWith (.groupApply .glbBar4) s (fun t => t.host.commit.getLsbD 5 = false ∧ t.host.staged = c
        ∧ (c.bar4Map.toNat < 2 ^ 35 → c.bar4Map.toNat % 2 ^ 28 = 0 → t.host.live = { s.host.live with bar4Map := c.bar4Map } ∧ t.host.invalid = s.host.invalid)
        ∧ ((2 ^ 35 ≤ c.bar4Map.toNat ∨ c.bar4Map.toNat % 2 ^ 28 ≠ 0) → t.host.live = s.host.live ∧ t.host.invalid.getLsbD 5 = true
          ∧ (t.doorbell 16).pend.getLsbD 8 = true)))
    ∧ (s.host.commit.getLsbD 6 = true →
      let w := c.pwrCtl.toNat % 2 ^ 16
      CompletesWith (.groupApply .pwr) s (fun t => t.host.commit.getLsbD 6 = false ∧ t.host.staged = c
        ∧ (c.pwrCtl.toNat < 2 ^ 17 → (w = 0 ∨ 100 ≤ w ∧ w ≤ 1000) → t.host.live = { s.host.live with pwrCtl := c.pwrCtl } ∧ t.host.invalid = s.host.invalid)
        ∧ (¬ (c.pwrCtl.toNat < 2 ^ 17 ∧ (w = 0 ∨ 100 ≤ w ∧ w ≤ 1000)) → t.host.live = s.host.live ∧ t.host.invalid.getLsbD 6 = true
          ∧ (t.doorbell 16).pend.getLsbD 8 = true)))
    ∧ (∀ g, s.groupAsked g = false → exec (.groupApply g) s = .next s)
  )
  ∧
  (
  ∀ (s : State) (q : Fin 64),
    let Q := s.queue q.val
    let sq := Q.cfgS.toNat / 2 ^ 6 % 32
    let cq := Q.cfgS.toNat / 2 ^ 11 % 32
    let clean : Prop := Q.cfgS.toNat < 2 ^ 48 ∧ Q.cfgS.toNat / 2 % 32 = 0
    Q.commit = true → Q.fetching = false →
    (clean → Q.state = 0 → Q.cfg.getLsbD 0 = false → Q.cfgS.getLsbD 0 = true → 4 ≤ sq → sq ≤ 16 → 4 ≤ cq → cq ≤ 16 → Q.sqBaseS.toNat % 4096 = 0 →
      Q.cqBaseS.toNat % 4096 = 0 →
      CompletesWith (.groupApply (.queue q)) s (fun t => let R := t.queue q.val
        R.state = 1 ∧ R.reason = 0 ∧ R.accepted = 0 ∧ R.written = 0 ∧ R.consumed = 0 ∧ R.submitted = 0 ∧ R.done = 0 ∧ R.failed = 0 ∧ R.commit = false
        ∧ R.sqBase = Q.sqBaseS ∧ R.cqBase = Q.cqBaseS ∧ R.cfg = Q.cfgS ∧ (∀ k, k ≠ q.val → t.queue k = s.queue k)))
    ∧ (clean → Q.state = 1 → Q.cfg.getLsbD 0 = true → Q.cfgS.getLsbD 0 = false → Q.sqBaseS = Q.sqBase → Q.cqBaseS = Q.cqBase →
      Q.cfgS.toNat / 2 ^ 6 % 2 ^ 10 = Q.cfg.toNat / 2 ^ 6 % 2 ^ 10 →
      CompletesWith (.groupApply (.queue q)) s (fun t => let R := t.queue q.val
        R.commit = false ∧ R.cfg = Q.cfgS ∧ R.accepted = Q.accepted ∧ R.cmds = Q.cmds ∧ (Q.cmds = [] → R.state = 0 ∧ (t.doorbell 16).pend.getLsbD 1 = true)
        ∧ (Q.cmds ≠ [] → R.state = 3)))
    ∧ (Q.state ≠ 0 → (Q.sqBaseS ≠ Q.sqBase ∨ Q.cqBaseS ≠ Q.cqBase ∨ Q.cfgS.toNat / 2 ^ 6 % 2 ^ 10 ≠ Q.cfg.toNat / 2 ^ 6 % 2 ^ 10) →
      CompletesWith (.groupApply (.queue q)) s (fun t => t.queue q.val = { Q with commit := false, invalid := true } ∧ (t.doorbell 16).pend.getLsbD 8 = true))
  )

/-- For a RUNNING queue whose tail is after A, with room for a completion and fewer than 4,096 open commands, SUBMISSION_FETCH starts
the read of 64 bytes at slot (A + 1) mod N; with a free tag and no other read waiting its request is outstanding under that tag at
once. The completion of that read: an entry whose seq is A + 1 is accepted (A and the accepted counter step, the entry joins the
queue's commands), one with another seq stops the queue with reason GAP, and a failed read stops it with reason FETCH_ERROR; both
set device doorbell bit QUEUE_STOPPED, and nothing of a refused entry is acted on. The input block of a started command reaches
it; when its read fails or times out the command is answered CMD_HOST_READ, and a timeout is logged. No other queue changes. -/
def Obligations.FetchRule : Prop :=
  ∀ (s : State) (q : Nat), q < 64 → s.board.clocksStopped = false →
    let Q := s.queue q
    let others (t : State) : Prop := (∀ k, k ≠ q → t.queue k = s.queue k) ∧ t.easels = s.easels ∧ t.mem = s.mem
    let slot := Q.sqBase.toNat + 64 * ((Q.accepted + 1).toNat % 2 ^ (Q.cfg.toNat / 2 ^ 6 % 32))
    (Q.state = 1 → Q.fetching = false → 1 ≤ (Q.tail - Q.accepted).toNat → (Q.tail - Q.accepted).toNat < 2 ^ 31 →
      Q.cmds.length + (Q.written - Q.consumed).toNat < 2 ^ (Q.cfg.toNat / 2 ^ 11 % 32) → s.openCommands < 4096 →
      exec (.submissionFetch q) s = .next ((s.setQueue q { Q with fetching := true }).addXfer (.fetch q) slot 64)
      ∧ (∀ tag, s.busOn = true → s.freeTag true = some tag → (∀ x ∈ s.pcie.xfers, x.len ≤ x.issued) → Q.sqBase.toNat % 4096 = 0 →
          CompletesWith (.submissionFetch q) s (fun t => others t ∧ t.queue q = { Q with fetching := true }
            ∧ t.pcie.reads = s.pcie.reads ++ [{ tag := tag, xfer := s.pcie.nextXfer, addr := slot, off := 0, len := 64 }])))
    ∧ (∀ tag r x, s.pcie.reads.find? (fun r => r.tag = tag) = some r → s.pcie.xfers.find? (fun x => x.id = r.xfer) = some x →
        (x.owner = .fetch q → Q.state = 1 → x.len = 64 → x.got = [] → r.off = 0 → r.len = 64 →
          (∀ b : List Byte, b.length = 64 → CompletesWith (.hostReadCompletion tag (.data b)) s (fun t => others t
            ∧ if (decodeEntry b).seq = Q.accepted + 1
              then t.queue q = { Q with fetching := false, accepted := Q.accepted + 1, submitted := Q.submitted + 1, cmds := Q.cmds ++ [{ entry := decodeEntry b }] }
              else t.queue q = { Q with fetching := false, state := 2, reason := 1 } ∧ (t.doorbell 16).pend.getLsbD 0 = true))
          ∧ (∀ why, CompletesWith (.hostReadCompletion tag (.failed why)) s (fun t => others t
              ∧ t.queue q = { Q with fetching := false, state := 2, reason := 3 } ∧ (t.doorbell 16).pend.getLsbD 0 = true)))
        ∧ (∀ n, x.owner = .cmd q n →
            let answered (t : State) : Prop := others t
              ∧ t.queue q = { Q with cmds := updFirst (Cmd.reading n) (fun c => { c with waiting := false, answer := some (0x0E04, 0) }) Q.cmds }
            (∀ b : List Byte, x.got = [] → r.off = 0 → r.len = x.len → b.length = x.len →
              CompletesWith (.hostReadCompletion tag (.data b)) s (fun t => others t
                ∧ t.queue q = { Q with cmds := updFirst (Cmd.reading n) (fun c => { c with block := some (fieldBytes b 0 c.entry.len0.toNat) }) Q.cmds }))
            ∧ (∀ why, CompletesWith (.hostReadCompletion tag (.failed why)) s answered)
            ∧ (s.pcie.ctoDisable = false → CompletesWith (.completionTimeout tag) s (fun t => answered t
                ∧ t.pcie.aer = s.pcie.aer ++ [{ kind := .completionTimeout, read := true, bar := 0, off := tag, addr := r.addr, len := r.len }]))))

/-- The queue whose turn it is starts its next command: one that fails a check of R429 is answered with the first error, else its
input block is read. NOP answers 0. The completion of an answered command writes cseq, seq, tag, status, opcode, the accepted
number and the result at its slot and no other host byte, steps W and the success or error counter, takes the command out of
INFLIGHT, raises VECTOR when COAL_COUNT completions are unsignalled, and disables a draining queue that is empty; COAL_US raises
VECTOR for what is unsignalled. -/
def Obligations.CommandCompletionRule : Prop :=
  ∀ (s : State) (q : Nat), q < 64 →
    let Q := s.queue q
    let vec := Q.cfg.toNat / 2 ^ 40 % 256
    let others (t : State) : Prop := (∀ k, k ≠ q → t.queue k = s.queue k) ∧ t.easels = s.easels ∧ t.mem = s.mem
    (∀ c, s.nextQueue = some q → Q.nextCmd = some c →
      let first (c1 : Cmd) : Queue := { Q with cmds := updFirst (fun x => !x.started) (fun _ => c1) Q.cmds }
      (entryError c.entry ≠ 0 → CompletesWith (.commandStart q) s (fun t => others t ∧ t.host.lastQueue = q
        ∧ t.queue q = first { c with started := true, waiting := false, answer := some (BitVec.ofNat 16 (entryError c.entry), 0) }))
      ∧ (entryError c.entry = 0 → c.entry.len0 = 0 → CompletesWith (.commandStart q) s (fun t => others t ∧ t.host.lastQueue = q
        ∧ t.queue q = first { c with started := true, block := some [] }))
      ∧ (entryError c.entry = 0 → c.entry.len0 ≠ 0 →
        let u := s.setQueue q (first { c with started := true })
        exec (.commandStart q) s = .next (({ u with host := { u.host with lastQueue := q } } : State).addXfer (.cmd q c.entry.seq)
          c.entry.addr0.toNat c.entry.len0.toNat)))
    ∧ (∀ n e b, CmdReady s q n e b → e.opcode = 1 → CompletesWith (.nop q n) s (fun t => Answered s t q n 0 0 ∧ others t))
    ∧ (∀ n c st res, s.busOn = true → Q.cmds.find? (Cmd.answered n) = some c → c.answer = some (st, res) →
        let at0 := Q.cqBase.toNat + 32 * ((Q.written + 1).toNat % 2 ^ (Q.cfg.toNat / 2 ^ 11 % 32))
        let rest := eraseFirst (Cmd.answered n) Q.cmds
        CompletesWith (.commandComplete q n) s (fun t => others t
          ∧ (let m := t.pcie.hostMem
             mreadLE 0 m at0 4 = (Q.written + 1).toNat ∧ mreadLE 0 m (at0 + 4) 4 = n.toNat ∧ mreadLE 0 m (at0 + 8) 8 = c.entry.tag.toNat
              ∧ mreadLE 0 m (at0 + 16) 2 = st.toNat ∧ mreadLE 0 m (at0 + 18) 2 = c.entry.opcode.toNat
              ∧ mreadLE 0 m (at0 + 20) 4 = Q.accepted.toNat ∧ mreadLE 0 m (at0 + 24) 8 = res.toNat
              ∧ ∀ a, (a < at0 ∨ at0 + 32 ≤ a) → mread 0 m a = mread 0 s.pcie.hostMem a)
          ∧ (t.queue q).written = Q.written + 1 ∧ (t.queue q).cmds = rest ∧ rest.length + 1 = Q.cmds.length ∧ (t.queue q).accepted = Q.accepted
          ∧ (t.queue q).done = (if st = 0 then Q.done + 1 else Q.done) ∧ (t.queue q).failed = (if st = 0 then Q.failed else Q.failed + 1)
          ∧ (1 ≤ Q.cfg.toNat / 2 ^ 16 % 256 → Q.cfg.toNat / 2 ^ 16 % 256 ≤ Q.unsignalled + 1 → t.pcie.pba.getLsbD vec = true ∧ (t.queue q).unsignalled = 0)
          ∧ (Q.state = 3 → rest = [] → (t.queue q).state = 0 ∧ (t.doorbell 16).pend.getLsbD 1 = true)))
    ∧ (s.board.clocksStopped = false → Q.unsignalled ≠ 0 → Q.cfg.toNat / 2 ^ 24 % 2 ^ 16 ≠ 0 →
        CompletesWith (.cqCoalTimer q) s (fun t => others t ∧ t.queue q = { Q with unsignalled := 0 }
          ∧ t.pcie.pba = s.pcie.pba ||| BitVec.ofNat 256 (2 ^ vec)))

/-- At the device address that GLB_BAR4_MAP and the offset give, with no injected error: a read within 4,096 bytes and the rules of
R406 answers the bytes there, and a write within Max_Payload_Size stores its bytes there and nowhere else; an access outside the
rules answers Completer Abort or is discarded, counted once, with no byte changed. Before ST20 a read answers zeros and a write is
discarded and counted. A poisoned write is logged, counted and changes nothing else. -/
def Obligations.Bar4Results : Prop :=
  ∀ (s : State) (off : Nat) (b : List Byte), s.barOn = true → off + b.length ≤ 2 ^ (28 + s.pcie.bar4Size) →
    let w := 2 ^ (28 + s.pcie.bar4Size)
    let a := s.host.live.bar4Map.toNat / 2 ^ 28 % 2 ^ 7 * 2 ^ 28 / w * w + off
    let n := b.length
    (s.ready = true → n ≤ 4096 → s.bar4Ok a n = true → s.mem.flips = [] →
      CompletesWith (.bar4Read off n) s (fun t => t.pcie.reply = .data ((List.range n).map (fun i => s.dev (a + i)))
        ∧ (∀ x, t.dev x = s.dev x) ∧ t.easels = s.easels ∧ t.host = s.host ∧ t.pcie.aborts = s.pcie.aborts))
    ∧ (s.ready = true → (4096 < n ∨ s.bar4Ok a n = false) →
      CompletesWith (.bar4Read off n) s (fun t => t.pcie.reply = .completerAbort ∧ t.pcie.aborts = s.pcie.aborts + 1
        ∧ t.mem = s.mem ∧ t.easels = s.easels ∧ t.host = s.host))
    ∧ (s.ready = true → n ≤ 128 * 2 ^ s.pcie.maxPayload → s.bar4Ok a n = true → s.mem.flips = [] →
      CompletesWith (.bar4Write off b) s (fun t => (∀ i, i < n → t.dev (a + i) = b.getD i 0)
        ∧ (∀ x, (x < a ∨ a + n ≤ x) → t.dev x = s.dev x) ∧ t.easels = s.easels ∧ t.host = s.host ∧ t.pcie = s.pcie))
    ∧ (s.ready = true → (128 * 2 ^ s.pcie.maxPayload < n ∨ s.bar4Ok a n = false) →
      CompletesWith (.bar4Write off b) s (fun t => t.pcie.discards = s.pcie.discards + 1 ∧ t.mem = s.mem ∧ t.easels = s.easels ∧ t.host = s.host))
    ∧ (s.ready = false → CompletesWith (.bar4Read off n) s (fun t => t.pcie.reply = .data (List.replicate n 0) ∧ t.mem = s.mem)
      ∧ CompletesWith (.bar4Write off b) s (fun t => t.pcie.discards = s.pcie.discards + 1 ∧ { t with pcie := s.pcie } = s))
    ∧ (∀ bar, bar = 0 ∨ bar = 2 ∨ bar = 4 → 0 < n →
      CompletesWith (.poisonedTlpReceived bar off n) s (fun t => t.pcie.discards = s.pcie.discards + 1
        ∧ t.pcie.aer = s.pcie.aer ++ [{ kind := .poisonedTlp, read := false, bar := bar, off := off, addr := s.pcie.barBase bar + off, len := n }] ∧ t.mem = s.mem ∧ t.host = s.host ∧ t.easels = s.easels))

/-- A link that trains shows its speed and width, and a degraded one is recorded in the journal once the journal is open; a retrain
changes speed and width, counts, and loses nothing; a lane of a running 16.0 or 32.0 GT/s link answers a margin command. A MAC in
use of an enabled, licensed port gains or loses its link bit, with device doorbell bit LINK set; an enabled, licensed port without
a link whose training fails shows it and keeps the other port. -/
def Obligations.LinkResults : Prop :=
  ∀ (s : State), s.board.clocksStopped = false →
    (∀ speed width : BitVec 4, 1 ≤ speed.toNat → speed.toNat ≤ 5 → width.toNat ≤ 4 →
      (s.pcie.linkUp = false → s.board.porAsserted = false →
        CompletesWith (.pcieLinkUp speed width) s (fun t => t.pcie = { t.pcie with linkUp := true, speed := speed.toNat, width := width.toNat }
          ∧ t.mem = s.mem ∧ t.easels = s.easels ∧ (s.boot.journalOpen = false ∨ (speed.toNat = 5 ∧ width.toNat = 4) → t.boot = s.boot)
          ∧ (s.boot.journalOpen = true → (speed.toNat < 5 ∨ width.toNat < 4) →
            t.boot = (s.journal 7 ([BitVec.ofNat 8 speed.toNat, BitVec.ofNat 8 width.toNat] ++ List.replicate 6 0)).boot)))
      ∧ (s.pcie.linkUp = true → exec (.pcieLinkRetrain speed width) s = .next { s with pcie := { s.pcie with
          speed := speed.toNat, width := width.toNat, retrains := s.pcie.retrains + 1 } }))
    ∧ (∀ lane cmd, lane < 2 ^ s.pcie.width → lane < 16 → s.pcie.linkUp = true → 4 ≤ s.pcie.speed →
      CompletesWith (.laneMarginCommand lane cmd) s (fun t => (∃ x, tfind t.pcie.margin lane = some (cmd, x))
        ∧ (∀ k, k ≠ lane → tfind t.pcie.margin k = tfind s.pcie.margin k) ∧ t.mem = s.mem ∧ t.easels = s.easels ∧ t.host = s.host))
    ∧ (∀ mac, mac < 8 → let n := mac / 4
        let m : BitVec 4 := BitVec.ofNat 4 (2 ^ (mac % 4))
        (s.ready = true → s.portOn n = true → s.macInUse mac = true →
          CompletesWith (.ethPortLinkChange mac true) s (fun t => (t.port n).link = (s.port n).link ||| m ∧ (t.port n).trainFail = false
            ∧ (∀ k, k ≠ n → t.port k = s.port k) ∧ ((s.port n).link ||| m ≠ (s.port n).link → (t.doorbell 16).pend.getLsbD 2 = true) ∧ t.mem = s.mem))
        ∧ CompletesWith (.ethPortLinkChange mac false) s (fun t => (t.port n).link = (s.port n).link &&& ~~~m
            ∧ (∀ k, k ≠ n → t.port k = s.port k) ∧ ((s.port n).link &&& ~~~m ≠ (s.port n).link → (t.doorbell 16).pend.getLsbD 2 = true) ∧ t.mem = s.mem))
    ∧ (∀ n, n < 2 → s.trains n = true →
        CompletesWith (.ethPortTrainFail n) s (fun t => (t.port n).trainFail = true ∧ (t.port n).link = (s.port n).link
          ∧ (∀ k, k ≠ n → t.port k = s.port k) ∧ t.mem = s.mem))

/-- After ST20, FLR, PERST_N, a hot reset, the link going down and the return from D3hot delete every partition, sitter, atelier,
queue and ring, halt every Easel and drop all its work, drop every Primer and engine job and outstanding read, clear the demux
table, the slow-path indices and the pending vectors, set the host mailboxes and doorbells to their reset values, and return the
groups' memory to ACTIVE; the store time, the firmware, the licences and the port settings stay. A link that goes down reads as
down. During a start only the configuration space resets. Each resets for at most 10 ms (how long, and that it acts at once, is
the model's choice: log 112). -/
def Obligations.ResetCommandResults : Prop :=
  ∀ (s : State),
    let cleared (t : State) : Prop := t.parts = [] ∧ t.sitters = [] ∧ t.ateliers = [] ∧ t.disps = [] ∧ t.easels = [] ∧ t.primers = []
      ∧ (∀ q, t.queue q = {}) ∧ (∀ r, t.ring r = {}) ∧ (∀ w, t.doorbell w = {}) ∧ (∀ e, t.fromMbx e = {}) ∧ t.host.h2c = {} ∧ t.host.c2h = {}
      ∧ t.pcie.reads = [] ∧ t.pcie.pba = 0 ∧ t.pcie.memSpaceEn = false ∧ t.pcie.busMasterEn = false ∧ t.pcie.msixEnable = false ∧ t.pcie.d3hot = false
      ∧ t.ing.dmx = [] ∧ t.ing.sprxProd = 0 ∧ t.ing.sprxCons = 0 ∧ t.ing.sptxProd = 0 ∧ t.ing.sptxCons = 0
      ∧ t.host.live.bar4Map = 0 ∧ t.host.live.sprxBase = 0 ∧ (∀ x ∈ t.med.engines, x.2.job = none)
      ∧ t.sec.features = s.sec.features ∧ t.sec.accepted = s.sec.accepted ∧ t.boot.steps = s.boot.steps ∧ t.mem.dev = s.mem.dev
      ∧ t.tb.time = s.tb.time ∧ t.tb.state = s.tb.state ∧ t.pwr.ops = s.pwr.ops ∧ t.pcie.flrNs ≤ 10000000
    (s.ready = true → s.host.commit = 0 →
      CompletesWith .flr s cleared ∧ CompletesWith .perstNAssert s cleared ∧ CompletesWith .hotReset s cleared
      ∧ (s.pcie.d3hot = true → CompletesWith .d3hotToD0 s cleared)
      ∧ CompletesWith .linkDown s (fun t => cleared t ∧ t.pcie.linkUp = false))
    ∧ (s.boot.state = 0 → ∀ i ∈ ([.flr, .perstNAssert, .hotReset] : List Instr),
        CompletesWith i s (fun t => { t with pcie := s.pcie, free := s.free } = s ∧ t.pcie.memSpaceEn = false ∧ t.pcie.busMasterEn = false))

/-- ATL_SET of a descriptor that passes R29 defines its entry point and members and no other atelier; ATL_DELETE of a deletable one
frees it; an atelier below 31 is refused with ATL_ID. PART_CREATE of a configuration that passes makes an EMPTY partition of it,
with the leaves of its root powered; an existing number is refused with PART_EXISTS, an undefined value with PART_BAD. PART_TIMING
sets period, offset and lend lead of an EMPTY or READY partition, and is refused with PART_STATE when it runs. PART_DELETE of a
partition that does not run and has no sitter removes it and its dispatches; with sitters it is refused with PART_HAS_SITTERS.
Other partitions stay. -/
def Obligations.AtelierAndPartitionCommands : Prop :=
  ∀ (s : State) (q : Nat) (n : U32) (e : Entry) (b : List Byte), CmdReady s q n e b →
    let p := e.arg0.toNat % 16
    let id := e.arg0.toNat % 256
    (e.opcode = 0x10 → let d := fieldLE b 0 1
      (s.atelierError (decodeAtelier b) false = 0 → Answers (.atlSet q n) s q n 0 0 (fun t =>
        tfind t.ateliers d = some { entry := fieldLE b 4 4, loader := none
                                    members := (List.range (fieldLE b 2 1)).map (fun i => BitVec.ofNat 16 (fieldLE b (64 + 2 * i) 2)) }
        ∧ (∀ k, k ≠ d → tfind t.ateliers k = tfind s.ateliers k) ∧ t.parts = s.parts ∧ t.easels = s.easels ∧ t.mem = s.mem))
      ∧ (d < 31 → Refuses (.atlSet q n) s q n 0x0401))
    ∧ (e.opcode = 0x11 →
      (s.atelierDeleteError id = 0 → Answers (.atlDelete q n) s q n 0 0 (fun t =>
        tfind t.ateliers id = none ∧ (∀ k, k ≠ id → tfind t.ateliers k = tfind s.ateliers k) ∧ t.parts = s.parts ∧ t.easels = s.easels))
      ∧ (id < 31 → Refuses (.atlDelete q n) s q n 0x0401))
    ∧ (e.opcode = 0x20 → let c := fieldLE b 0 1
      (s.partCreateCode b = 0 → s.createWaits b = false → Answers (.partCreate q n) s q n 0 0 (fun t =>
        (∃ P, t.part? c = some P ∧ P.state = .empty ∧ P.root = BitVec.ofNat 16 (fieldLE b 4 2) ∧ P.period = fieldLE b 8 2 ∧ P.offset = fieldLE b 10 2
          ∧ P.maxSitters = fieldLE b 6 2 ∧ P.be = (fieldLE b 1 1 = 1 : Bool) ∧ P.pkg = none ∧ P.sitting = 0)
        ∧ (∀ k, k ≠ c → t.part? k = s.part? k) ∧ (∀ l ∈ s.expansion (fieldLE b 4 2), (t.easel l).powered = true) ∧ t.sitters = s.sitters))
      ∧ (cfgOk b = false → Refuses (.partCreate q n) s q n 0x0A11)
      ∧ (cfgOk b = true → (s.part? c).isSome = true → Refuses (.partCreate q n) s q n 0x0A12))
    ∧ (e.opcode = 0x22 → ∀ P, s.part? p = some P → let a := e.arg1.toNat
      timingOk P.be (a % 2 ^ 16) (a / 2 ^ 16 % 2 ^ 16) (a / 2 ^ 32 % 2 ^ 16) = true →
      (P.state = .empty ∨ P.state = .ready → Answers (.partTiming q n) s q n 0 0 (fun t =>
        t.part? p = some { P with period := a % 2 ^ 16, offset := a / 2 ^ 16 % 2 ^ 16, lendLead := a / 2 ^ 32 % 2 ^ 16 }
        ∧ (∀ k, k ≠ p → t.part? k = s.part? k) ∧ t.easels = s.easels ∧ t.mem = s.mem))
      ∧ (P.state = .running → Refuses (.partTiming q n) s q n 0x0A14))
    ∧ (e.opcode = 0x25 → ∀ P, s.part? p = some P → (P.state = .empty ∨ P.state = .ready ∨ P.state = .failed) →
      (∀ x, P.advance = some x → x.1 ≠ q ∨ x.2.1 ≠ n) →
      (s.sittersOf p = [] → Answers (.partDelete q n) s q n 0 0 (fun t =>
        t.part? p = none ∧ (∀ k, k ≠ p → (t.part? k).isSome = (s.part? k).isSome) ∧ (∀ d ∈ t.disps, d.part ≠ p)))
      ∧ (s.sittersOf p ≠ [] → Refuses (.partDelete q n) s q n 0x0A1B))

/-- With every group of the partition ACTIVE and no zeros awaited: PART_LOAD of a package that passes makes the partition READY with
that package and sitting number 0; a failing package is reported to the host with its code and changes no device byte and no
partition; a missing partition is PART_NOT_FOUND. PART_START of a READY partition whose package can run makes it RUNNING.
PART_STOP between sittings makes a RUNNING partition READY and ends its job, and during a sitting waits for it. WEIGHT_SWAP of a
section that passes waits in the partition for the next scan. PBQ_MARK replaces a queue's mark. -/
def Obligations.PackageCommands : Prop :=
  ∀ (s : State) (q : Nat) (n : U32) (e : Entry) (b : List Byte), CmdReady s q n e b → s.busOn = true → s.mem.zeroing = [] →
    let p := e.arg0.toNat % 16
    (e.opcode = 0x21 →
      (∀ P, s.part? p = some P → (P.state = .empty ∨ P.state = .ready ∨ P.state = .failed) → s.sleeping p = [] →
        (∀ s1, s.load p b e.len0.toNat = .ok s1 → Answers (.partLoad q n) s q n 0 0 (fun t =>
          (t.part p).state = .ready ∧ (t.part p).sitting = 0 ∧ (t.part p).restarts = 0 ∧ ∃ k, (t.part p).pkg = some k ∧ k.bytes = b))
        ∧ (∀ f, s.load p b e.len0.toNat = .error f → Answers (.partLoad q n) s q n f.code 0 (fun t =>
          t.parts = s.parts ∧ t.mem = s.mem ∧ t.easels = s.easels ∧ t.ateliers = s.ateliers
          ∧ mreadLE 0 t.pcie.hostMem e.addr1.toNat 2 = f.code % 2 ^ 16)))
      ∧ (s.part? p = none → Refuses (.partLoad q n) s q n 0x0A13))
    ∧ (e.opcode = 0x23 → ∀ P, s.part? p = some P →
      (P.state = .ready → s.packageUse p = false → s.sleeping p = [] → Answers (.partStart q n) s q n 0 0 (fun t =>
        t.part? p = some { P with state := .running, from_ := if P.replay then P.from_ else s.tb.time
                                  lcWeight := s.host.live.lcWeight s.tb.phase, beWeight := s.host.live.beWeight s.tb.phase }
        ∧ (∀ k, k ≠ p → t.part? k = s.part? k) ∧ t.mem = s.mem ∧ t.easels = s.easels))
      ∧ (P.state ≠ .ready → Refuses (.partStart q n) s q n 0x0A14)
      ∧ (P.state = .ready → s.packageUse p = true → Refuses (.partStart q n) s q n 0x0A1C))
    ∧ (e.opcode = 0x24 → ∀ P, s.part? p = some P →
      (P.state = .running → P.run = none → Answers (.partStop q n) s q n 0 0 (fun t => (t.part p).state = .ready ∧ (t.part p).job = none ∧ (t.part p).pkg = P.pkg))
      ∧ (P.state = .running → P.run.isSome = true → CompletesWith (.partStop q n) s (fun t =>
          t.part? p = some { P with stopping := some (q, n) } ∧ t.easels = s.easels ∧ t.mem = s.mem ∧ Waits t q n))
      ∧ (P.state ≠ .running → Refuses (.partStop q n) s q n 0x0A14))
    ∧ (e.opcode = 0x26 → ∀ P k, s.part? p = some P → P.pkg = some k → let ix := e.arg0.toNat / 2 ^ 16 % 2 ^ 16
      (P.state = .ready ∨ P.state = .running) → swapFail k ix b = none → Answers (.weightSwap q n) s q n 0 0 (fun t =>
        (∃ d k', t.part? p = some { P with pkg := some k', swaps := P.swaps ++ [(ix, b, d)] } ∧ k'.digest = d ∧ k'.regions = k.regions)
        ∧ (∀ j, j ≠ p → t.part? j = s.part? j) ∧ t.easels = s.easels))
    ∧ (e.opcode = 0x34 → ∀ f fq, s.framing p = some f → f.queues[e.arg0.toNat / 2 ^ 8 % 4]? = some fq → let m := e.arg0.toNat / 2 ^ 16 % 2 ^ 9
      (m ≤ fq.buffers → Answers (.pbqMark q n) s q n 0 0 (fun t =>
        tfind (t.part p).marks (e.arg0.toNat / 2 ^ 8 % 4) = some m ∧ (∀ k, k ≠ p → t.part? k = s.part? k) ∧ t.mem = s.mem))
      ∧ (fq.buffers < m → Refuses (.pbqMark q n) s q n 0x0801))

/-- A registration that passes makes the sitter JOINING with the fields of its entry, in a new epoch (its own in a replay partition),
which a live entry shows from its first frame record on (log 125). SIT_UPDATE replaces rings, thresholds and flags only.
SIT_DELETE frees the entry, which keeps its last epoch; a FREE sitter is SIT_NOT_FOUND. SIT_PARAMSETS replaces the out-of-band
set. INJECT of a block that passes completes one access unit, with result 1 when it finds the ring full; a block of the wrong
length is CMD_LENGTH. A refused command changes no sitter. -/
def Obligations.SitterCommands : Prop :=
  ∀ (s : State) (q : Nat) (n : U32) (e : Entry) (b : List Byte), CmdReady s q n e b →
    let k := e.arg0.toNat % 2048
    let T := s.sitter k
    let S := decodeSitter b
    (e.opcode = 0x30 →
      (∀ s1, s.register k b = .ok s1 → Answers (.sitRegister q n) s q n 0 0 (fun t => let N := t.sitter k
        N.state = 1 ∧ N.partition = fieldLE b 1 1 ∧ N.codec = fieldLE b 2 1 ∧ N.maxWidth = fieldLE b 4 2 ∧ N.resultRing = fieldLE b 11 1
        ∧ N.curEpoch = (if (s.part S.partition).replay then S.epoch else T.curEpoch + 1)
        ∧ N.curTrack = (if (s.part S.partition).replay then S.nextTrack else 1)
        ∧ N.epoch = (if (s.part S.partition).replay then S.epoch else T.epoch) ∧ N.frames = []
        ∧ (∀ j, j ≠ k → { t.sitter j with stillOff := (s.sitter j).stillOff } = s.sitter j)))
      ∧ (∀ c, s.register k b = .error c → s.mem.zeroing = [] → Refuses (.sitRegister q n) s q n c))
    ∧ (e.opcode = 0x31 →
      (s.sitterCode k b true = 0 → Answers (.sitUpdate q n) s q n 0 0 (fun t =>
        t.sitter k = { T with resultRing := S.resultRing, archiveRing := S.archiveRing, damageTh := S.damageTh, staleUs := S.staleUs, budgetUs := S.budgetUs
                              flags := S.flags }
        ∧ (∀ j, j ≠ k → t.sitter j = s.sitter j) ∧ t.mem = s.mem ∧ t.parts = s.parts))
      ∧ (s.sitterCode k b true ≠ 0 → Refuses (.sitUpdate q n) s q n (s.sitterCode k b true)))
    ∧ (e.opcode = 0x32 →
      (T.state ≠ 0 → Answers (.sitDelete q n) s q n 0 0 (fun t =>
        (t.sitter k).state = 0 ∧ (t.sitter k).epoch = T.curEpoch ∧ (t.sitter k).curEpoch = T.curEpoch ∧ (∀ j, j ≠ k → t.sitter j = s.sitter j) ∧ (∀ x ∈ t.ing.dmx, x.2.sitter ≠ k)))
      ∧ (T.state = 0 → Refuses (.sitDelete q n) s q n 0x0A02))
    ∧ (e.opcode = 0x33 →
      (T.state ≠ 0 → Answers (.sitParamsets q n) s q n 0 0 (fun t =>
        t.sitter k = { T with ing := { T.ing with params := b } } ∧ (∀ j, j ≠ k → t.sitter j = s.sitter j) ∧ t.mem = s.mem))
      ∧ (T.state = 0 → Refuses (.sitParamsets q n) s q n 0x0A02))
    ∧ (e.opcode = 0x44 → let m := fieldLE b 0 2
      (32 ≤ b.length → b.length = 32 + (fieldLE b 24 4 + 7) / 8 * 8 → s.injectError b = 0 → s.injectWaits b = false →
        CompletesWith (.inject q n) s (fun t => (t.sitter m).ing.nextIndex = (s.sitter m).ing.nextIndex + 1
          ∧ (t.sitter m).frames.length = (s.sitter m).frames.length + 1 ∧ (∀ j, j ≠ m → t.sitter j = s.sitter j)
          ∧ (Answered s t q n 0 0 ∨ Answered s t q n 0 1)))
      ∧ (b.length < 32 → Refuses (.inject q n) s q n 0x0E03))

/-- An interface or demux entry that passes its checks takes its place in the table and no other entry changes; CLEAR frees an entry;
the group memberships are those that the two tables call for, and joins and leaves are sent. A refused command changes nothing. -/
def Obligations.NetworkTableCommands : Prop :=
  ∀ (s : State) (q : Nat) (n : U32) (e : Entry) (b : List Byte), CmdReady s q n e b →
    let i := e.arg0.toNat % 32
    let j := e.arg0.toNat % 4096
    let joined (t : State) : Prop := t.ing.members = membersOf t.ing.ifaces t.ing.dmx ∧ t.sitters = s.sitters ∧ t.mem = s.mem ∧ t.easels = s.easels
    (e.opcode = 0x40 →
      (s.ifError i b = 0 → Answers (.ifSet q n) s q n 0 0 (fun t => tfind t.ing.ifaces i = some (decodeIface b)
        ∧ (∀ k, k ≠ i → tfind t.ing.ifaces k = tfind s.ing.ifaces k) ∧ t.ing.dmx = s.ing.dmx ∧ joined t))
      ∧ (s.ifError i b ≠ 0 → Refuses (.ifSet q n) s q n (s.ifError i b)))
    ∧ (e.opcode = 0x41 → Answers (.ifClear q n) s q n 0 0 (fun t => tfind t.ing.ifaces i = none
        ∧ (∀ k, k ≠ i → tfind t.ing.ifaces k = tfind s.ing.ifaces k) ∧ t.ing.dmx = s.ing.dmx ∧ joined t))
    ∧ (e.opcode = 0x42 →
      (s.dmxError j b = 0 → Answers (.dmxSet q n) s q n 0 0 (fun t => tfind t.ing.dmx j = some (decodeDmx b)
        ∧ (∀ k, k ≠ j → tfind t.ing.dmx k = tfind s.ing.dmx k) ∧ t.ing.ifaces = s.ing.ifaces ∧ joined t))
      ∧ (s.dmxError j b ≠ 0 → Refuses (.dmxSet q n) s q n (s.dmxError j b))
      ∧ (s.dmxError j b = 0 → fieldLE b 6 2 < 2048 ∧ (s.sitter (fieldLE b 6 2)).state ≠ 0))
    ∧ (e.opcode = 0x43 → Answers (.dmxClear q n) s q n 0 0 (fun t => tfind t.ing.dmx j = none
        ∧ (∀ k, k ≠ j → tfind t.ing.dmx k = tfind s.ing.dmx k) ∧ t.ing.ifaces = s.ing.ifaces ∧ joined t))

/-- SET_TIME sets store time while the timebase is FREE, and is TIM_NOT_FREE otherwise. REPLAY_SET_TIME sets the virtual time of a
replay partition without sitters. REPLAY_ADVANCE, with no INJECT in a queue, to a time at or after the virtual time with no
instant in between completes with the last sitting number and sets the virtual time; with an instant in between it waits; back in
time it is refused. REPLAY_SITTING runs only the next instant. RING_SET defines a ring with nothing written; RING_DELETE of a ring
that no sitter names frees it. ADAPT_SAMPLES that pass place the set; ADAPT_START that passes gives the partition its job with no
step done; ADAPT_ABORT ends it. -/
def Obligations.TimeReplayAndRingCommands : Prop :=
  ∀ (s : State) (q : Nat) (n : U32) (e : Entry) (b : List Byte), CmdReady s q n e b →
    let p := e.arg0.toNat % 16
    (e.opcode = 0x50 →
      (s.tb.state = 0 → Answers (.setTime q n) s q n 0 0 (fun t => t.tb.time = e.arg0 ∧ t.tb.state = 0 ∧ t.sitters = s.sitters ∧ t.mem = s.mem ∧ t.easels = s.easels))
      ∧ (s.tb.state ≠ 0 → Refuses (.setTime q n) s q n 0x0503))
    ∧ (∀ P, s.part? p = some P → P.replay = true →
      (e.opcode = 0x51 → P.advance = none →
        (s.sittersOf p = [] → Answers (.replaySetTime q n) s q n 0 0 (fun t => t.part? p = some { P with virtualTime := e.arg1, from_ := e.arg1 }
          ∧ (∀ k, k ≠ p → t.part? k = s.part? k) ∧ t.mem = s.mem ∧ t.tb = s.tb))
        ∧ (s.sittersOf p ≠ [] → Refuses (.replaySetTime q n) s q n 0x0A1B))
      ∧ (e.opcode = 0x52 →
        (P.virtualTime.toNat ≤ e.arg1.toNat → P.advance = none → e.arg1.toNat < P.nextInstant P.from_.toNat →
            (∀ Q ∈ s.host.queues, ∀ c ∈ Q.2.cmds, c.entry.opcode ≠ 0x44) →
          Answers (.replayAdvance q n) s q n 0 P.sitting.toNat (fun t => t.part? p = some { P with virtualTime := e.arg1 } ∧ t.mem = s.mem ∧ t.tb = s.tb))
        ∧ (P.virtualTime.toNat ≤ e.arg1.toNat → P.advance = none → P.nextInstant P.from_.toNat ≤ e.arg1.toNat →
          CompletesWith (.replayAdvance q n) s (fun t => t.part? p = some { P with advance := some (q, n, e.arg1) } ∧ Waits t q n))
        ∧ (e.arg1.toNat < P.virtualTime.toNat → Refuses (.replayAdvance q n) s q n 0x0504)))
    ∧ (e.opcode = 0x60 → let r := fieldLE b 0 1
      (ringFieldsOk b = true → (s.ring r).defined = false → Answers (.ringSet q n) s q n 0 0 (fun t =>
        (t.ring r).base.toNat = fieldLE b 8 8 ∧ (t.ring r).sizeLog2 = fieldLE b 2 1 ∧ (t.ring r).prod = 0 ∧ (t.ring r).cons = 0 ∧ (t.ring r).seq = 0
        ∧ (∀ k, k ≠ r → t.ring k = s.ring k) ∧ t.pcie = s.pcie))
      ∧ (ringFieldsOk b = false → Refuses (.ringSet q n) s q n 0x0B01)
      ∧ (ringFieldsOk b = true → (s.ring r).defined = true → Refuses (.ringSet q n) s q n 0x0B02))
    ∧ (e.opcode = 0x61 → let r := e.arg0.toNat % 64
      ((s.ring r).defined = true → s.ringNamed r = false → Answers (.ringDelete q n) s q n 0 0 (fun t => t.ring r = {} ∧ ∀ k, k ≠ r → t.ring k = s.ring k))
      ∧ ((s.ring r).defined = false → Refuses (.ringDelete q n) s q n 0x0B03)
      ∧ ((s.ring r).defined = true → s.ringNamed r = true → Refuses (.ringDelete q n) s q n 0x0B04))
    ∧ (e.opcode = 0x70 → ∀ samples, let a := e.arg2.toNat / 2 ^ 24 % 2 ^ 8
      let c := e.arg2.toNat % 2 ^ 17
      a ≤ 15 → 1 ≤ c → c ≤ 65536 → e.arg0.toNat % 64 = 0 → s.adaptable a = true → s.within a e.arg0.toNat e.arg1.toNat = true → (s.part a).job = none →
      (sampleBad b c samples = none → (placeSamples (samples.take c) (e.arg0.toNat + 32 * c)).2 ≤ e.arg0.toNat + e.arg1.toNat →
        Answers (.adaptSamples q n samples) s q n 0 0 (fun t => (t.part a).samples = some (e.arg0, e.arg1.toNat, (samples.take c).length)
          ∧ (t.part a).state = (s.part a).state ∧ (∀ k, k ≠ a → t.part? k = s.part? k) ∧ t.easels = s.easels))
      ∧ (∀ i, sampleBad b c samples = some i → Answers (.adaptSamples q n samples) s q n 0x0C05 i (fun t => { t with host := s.host } = s)))
    ∧ (e.opcode = 0x71 → s.mem.flips = [] → let a := fieldLE b 4 1
      (s.adaptStartCode a b = 0 → Answers (.adaptStart q n) s q n 0 0 (fun t => (∃ J, (t.part a).job = some J ∧ J.job.toNat = fieldLE b 0 4
          ∧ J.steps = fieldLE b 12 4 ∧ J.batch = fieldLE b 10 2 ∧ J.done = 0 ∧ J.lr.toNat = fieldLE b 64 4
          ∧ J.optimiser = fieldLE b 5 1) ∧ (∀ k, k ≠ a → t.part? k = s.part? k) ∧ (∀ x, t.dev x = s.dev x) ∧ t.easels = s.easels))
      ∧ (s.adaptStartCode a b ≠ 0 → Answers (.adaptStart q n) s q n (s.adaptStartCode a b) 0 (fun t => t.parts = s.parts ∧ (∀ x, t.dev x = s.dev x) ∧ t.easels = s.easels)))
    ∧ (e.opcode = 0x72 →
      (s.adaptable p = true → (s.part p).job.isSome = true → Answers (.adaptAbort q n) s q n 0 0 (fun t => (t.part p).job = none
          ∧ (t.part p).state = (s.part p).state ∧ (∀ k, k ≠ p → t.part? k = s.part? k) ∧ t.mem = s.mem))
      ∧ (s.adaptable p = false → Refuses (.adaptAbort q n) s q n 0x0C02)
      ∧ (s.adaptable p = true → (s.part p).job = none → Refuses (.adaptAbort q n) s q n 0x0C04))

/-- MEM_GROUP of groups that may move answers at once when every group has its state, and else asks for the moves and waits.
MEM_INJECT stores the word with its flips and logs one record of kind 5.  MEAS_EXTEND extends M6 and answers its count.
LIC_INSTALL with good signatures of a licence for this identity puts it in the lowest erased slot; LIC_REMOVE erases a slot; an
erased slot is SEC_SLOT_EMPTY. LIC_LIST, SEC_CERTS, MEAS_LOG and QUOTE write their bytes to the output buffer and change nothing
else in the device. -/
def Obligations.MemoryAndSecurityCommands : Prop :=
  ∀ (s : State) (q : Nat) (n : U32) (e : Entry) (b : List Byte), CmdReady s q n e b →
    let a := e.arg0.toNat
    let outOf (i : Instr) (o : List Byte) (res : Nat) : Prop := s.busOn = true → Answers i s q n 0 res (fun t =>
      (∀ j, j < o.length → mread 0 t.pcie.hostMem (e.addr1.toNat + j) = o.getD j 0)
      ∧ (∀ x, (x < e.addr1.toNat ∨ e.addr1.toNat + o.length ≤ x) → mread 0 t.pcie.hostMem x = mread 0 s.pcie.hostMem x)
      ∧ t.sec = s.sec ∧ t.mem = s.mem ∧ t.boot = s.boot)
    (e.opcode = 0x80 → s.memGroupError a = 0 → s.mem.moving = [] →
      ((∀ g, g < 16 → a / 2 ^ g % 2 = 1 → s.groupState g = a / 2 ^ 16 % 4) → Answers (.memGroup q n) s q n 0 0 (fun t => t.mem = s.mem))
      ∧ ((∃ g, g < 16 ∧ a / 2 ^ g % 2 = 1 ∧ s.groupState g ≠ a / 2 ^ 16 % 4) → CompletesWith (.memGroup q n) s (fun t =>
          (∀ g, g < 16 → a / 2 ^ g % 2 = 1 → s.groupState g ≠ a / 2 ^ 16 % 4 → tfind t.mem.moving g = some (a / 2 ^ 16 % 4)) ∧ t.mem.groups = s.mem.groups
          ∧ Waits t q n)))
    ∧ (e.opcode = 0x81 →
      (s.injectOk a (injectBits e.arg2.toNat).eraseDups = true → Answers (.memInject q n) s q n 0 0 (fun t =>
        (∀ i, i < 8 → (t.dev (a + i)).toNat = e.arg1.toNat / 256 ^ i % 256) ∧ (∀ x, (x < a ∨ a + 8 ≤ x) → t.dev x = s.dev x)
        ∧ tget [] t.mem.flips a = (injectBits e.arg2.toNat).eraseDups ∧ t.mem.errCount = s.mem.errCount + 1 ∧ (t.doorbell 16).pend.getLsbD 5 = true))
      ∧ (a % 8 ≠ 0 → Refuses (.memInject q n) s q n 0x0D04))
    ∧ (e.opcode = 0x93 → CompletesWith (.measExtend q n) s (fun t =>
        t.measReg 6 = shake256 (s.measReg 6 ++ [6, 9, 0xFF, 0xFF] ++ (List.range 32).map (fun i => b.getD i 0)) 64
        ∧ tget 0 t.sec.counts 6 = tget 0 s.sec.counts 6 + 1 ∧ (∀ k, k ≠ 6 → t.measReg k = s.measReg k)
        ∧ Answered s t q n 0 (tget 0 s.sec.counts 6 + 1).toNat))
    ∧ (e.opcode = 0x94 → licBlockForm b = true → licChain b = true →
      let lic := fieldBytes b certBytes licenceBytes
      (∀ i, s.erasedSlot = some i → fieldBytes lic 48 32 = s.identity → Answers (.licInstall q n true true) s q n 0 i (fun t =>
        ∀ j, j < licenceBytes → mread 0xFF t.boot.flash (slotAddr i + j) = lic.getD j 0))
      ∧ Refuses (.licInstall q n false true) s q n 0x0D82
      ∧ (fieldBytes lic 48 32 ≠ s.identity → Refuses (.licInstall q n true true) s q n 0x0D83))
    ∧ (e.opcode = 0x95 → let i := a % 16
      (s.slotErased i = false → Answers (.licRemove q n true) s q n 0 0 (fun t => t.slotErased i = true ∧ t.sec = s.sec ∧ t.mem = s.mem))
      ∧ (s.slotErased i = true → Refuses (.licRemove q n true) s q n 0x0D85))
    ∧ (e.opcode = 0x96 → outOf (.licList q n) ((List.range 16).flatMap (fun i => s.flashN (slotAddr i) licenceBytes)) 16)
    ∧ (e.opcode = 0x90 → outOf (.secCerts q n) (s.flashN 0x1101000 5317 ++ s.flashN 0x1103000 5349 ++ s.flashN 0x1000 5317) 15983)
    ∧ (e.opcode = 0x92 → let l := (s.sec.log.drop (a % 2 ^ 16)).take (e.len1.toNat / 56)
        outOf (.measLog q n) (l.flatMap measBytes) l.length)
    ∧ (e.opcode = 0x91 → outOf (.quote q n) (s.quote b) 0)

/-- POR_N low for 10 µs or more puts every register at its reset value, and less than 5 µs changes nothing (between the two, one of
these); flash and host memory stay. A loss of power keeps nothing but the flash outside the journal's last record. After POR_N
rises with the strap RECOVERY and no failing check the part is in recovery mode (the model's reading: ST01 and ST02 run first).
With any other strap the start ends in READY, NOT_READY or RECOVERY, and a READY part has step 20 and no powered Easel. A FULL
start in which every check passes, with a well-formed image in flash and dies and Easels as the device certificate (or a Kyosum
topology) states, ends in READY, with store time 0 (logs 113 and 130). -/
def Obligations.PowerAndStartResults : Prop :=
  ∀ (s : State),
    (let blank : State := { pending := s.pending, free := s.free
                            boot := { journalA := s.boot.journalA, journalB := s.boot.journalB, flash := s.boot.flash }
                            pcie := { hostMem := s.pcie.hostMem } };
      (∀ us, us < 5 → exec (.porNAssert us) s = .next s)
      ∧ (∀ us, 10 ≤ us → exec (.porNAssert us) s = .next blank)
      ∧ (∀ us, CompletesWith (.porNAssert us) s (fun t => { t with free := s.free } = s ∨ { t with free := s.free } = blank)))
    ∧ CompletesWith .powerLoss s (fun t => t.boot.flash = s.boot.flash ∧ t.pcie.hostMem = s.pcie.hostMem ∧ t.board = {} ∧ t.boot.state = 0
        ∧ t.easels = [] ∧ t.parts = [] ∧ t.sitters = [] ∧ t.mem = {} ∧ t.host = {} ∧ t.tb = {} ∧ t.pwr = {} ∧ t.sec = {})
    ∧ (∀ b : BootObs, (s.board.porAsserted = false → exec (.porNDeassert b) s = .next s)
      ∧ (s.board.porAsserted = true → s.boot.state = 0 →
        CompletesWith (.porNDeassert b) s (fun t => t.board.porAsserted = false ∧ t.board.outputsHighZ = false ∧ t.boot.straps = b.straps
          ∧ (b.straps = 1 → (∀ o ∈ b.steps, o.normal = 0) → t.boot.state = 3)
          ∧ (b.straps = 3 → t.boot.strapBad = true)
          ∧ (b.straps ≠ 1 → (t.boot.state = 1 ∨ t.boot.state = 2 ∨ t.boot.state = 3) ∧ (t.boot.state = 1 → t.boot.step = 20 ∧ t.easels = [])))))
    ∧ (∀ b : BootObs, b.straps = 2 → (∀ o ∈ b.steps, o.normal = 0 ∧ o.alt = 0) → b.lanes = []
        → s.flashFormat = 0 → imageCode s.flashN imageArea b.fwSigs = 0 →
        let T := (s.deviceCert b.certSigs (identityKeyOf b.puf)).getD kyosumTopology
        (∀ k, k < 8 → T.dieSet.getLsbD k = true → b.dies.getLsbD k = true)
        → (∀ k, k < 6 → T.easels.getD k 32 ≤ exposedOn b k)
        → (∀ e ∈ easelMapOf b, ∀ p, p < 8 → 400 ≤ agedMax (25 * (tget 0 b.maxima (8 * e.2 + p)).toNat))
        → s.board = {} → s.boot = { journalA := s.boot.journalA, journalB := s.boot.journalB, flash := s.boot.flash }
        → CompletesWith (.porNDeassert b) s (fun t => t.boot.state = 1 ∧ t.boot.step = 20 ∧ t.boot.kind = 2 ∧ t.tb.time = 0))

/-- In recovery mode with the operation in MB_H2C, VERIFY and RUN answer in MB_C2H the outcome of ST04's checks on the window's image
(whether its signatures verify is the command's operand), or status 2 for an image length that is out of range, and the command
leaves MB_H2C. A RUN that passes starts the part, which ends in READY, NOT_READY or RECOVERY, and marks the run. A WRITE that
passes programs the image into the flash: the bytes of the window, and erased bytes up to 16 MiB; other flash bytes stay. Another
mode or operation does nothing. -/
def Obligations.RecoveryResults : Prop :=
  ∀ (s : State) (sigs : FwSigs) (ok : Bool) (b : BootObs),
    let v := s.host.h2c.val.toNat
    let n := v / 2 ^ 32
    let code := s.windowCode n sigs
    let bad := n < 0x100000 ∨ 0x1000000 < n
    let here (op : Nat) : Prop := s.boot.state = 3 ∧ s.host.h2c.full = true ∧ v % 256 = op
    let tells (op st c : Nat) (t : State) : Prop := t.host.h2c.full = false ∧ (s.host.c2h.full = false → t.host.c2h.full = true
      ∧ t.host.c2h.val = BitVec.ofNat 64 (c * 0x10000 + st * 0x100 + op) ∧ (t.doorbell 16).pend.getLsbD 3 = true)
    (here 1 → CompletesWith (.recoveryVerify sigs) s (fun t => t.boot = s.boot ∧ t.sec = s.sec ∧ t.mem = s.mem
        ∧ (bad → tells 1 2 0 t) ∧ (¬bad → tells 1 (if code = 0 then 0 else 1) code t)))
    ∧ (here 2 → CompletesWith (.recoveryRun sigs b) s (fun t => (bad → tells 2 2 0 t ∧ t.boot = s.boot)
        ∧ (¬bad → code ≠ 0 → tells 2 1 code t ∧ t.boot = s.boot)
        ∧ (¬bad → code = 0 → tells 2 0 0 t ∧ t.sec.recoveryRun = true ∧ (t.boot.state = 1 ∨ t.boot.state = 2 ∨ t.boot.state = 3))))
    ∧ (here 3 → CompletesWith (.recoveryWrite sigs ok) s (fun t => { t.boot with flash := s.boot.flash } = s.boot
        ∧ (∀ a, 0x1000000 ≤ a → mread 0xFF t.boot.flash a = mread 0xFF s.boot.flash a)
        ∧ (bad → tells 3 2 0 t ∧ t.boot = s.boot) ∧ (¬bad → code ≠ 0 → tells 3 1 code t ∧ t.boot = s.boot)
        ∧ (¬bad → code = 0 → ok = false → tells 3 3 0 t)
        ∧ (¬bad → code = 0 → ok = true → tells 3 0 0 t
            ∧ ∀ a, a < 0x1000000 → mread 0xFF t.boot.flash a = if a < n then s.dev (hubBase + a) else 0xFF)))
    ∧ (s.boot.state ≠ 3 → exec (.recoveryVerify sigs) s = .next s ∧ exec (.recoveryRun sigs b) s = .next s
        ∧ exec (.recoveryWrite sigs ok) s = .next s)

/-- A Curator watchdog expiry leaves cause 2 of a device restart where none waits. A device restart with its cause removes every
partition, sitter, queue, ring and Easel state and runs the start steps from ST03: it ends in READY, NOT_READY or RECOVERY, with
its count stepped, and keeps the PCI Express configuration space and MSI-X table. A restart of a RESTARTING partition steps its
count and leaves it RUNNING when the digest of its package copy is right, READY when it was READY before or a stop waited, and
FAILED when the digest is wrong. A device restart that ends in READY leaves store time at 0 (log 113). -/
def Obligations.RestartResults : Prop :=
  ∀ (s : State), s.ready = true →
    CompletesWith .curatorWatchdogExpiry s (fun t => t.boot.devCause = (match s.boot.devCause with | none => some 2 | some c => some c)
        ∧ { t with boot := s.boot, host := s.host, pcie := s.pcie } = s)
    ∧ (∀ (cause : Byte) (b : BootObs), (s.boot.devCause = some cause ∨ cause = 4) →
        CompletesWith (.deviceRestart cause b) s (fun t => t.parts = [] ∧ t.sitters = [] ∧ t.disps = [] ∧ t.primers = [] ∧ t.ateliers = []
          ∧ (∀ q, t.queue q = {}) ∧ (∀ r, t.ring r = {}) ∧ t.boot.devRestarts = s.boot.devRestarts + 1 ∧ t.boot.devCause = none
          ∧ (t.boot.state = 1 ∨ t.boot.state = 2 ∨ t.boot.state = 3) ∧ (t.boot.state = 1 → t.easels = [] ∧ t.tb.time = 0)
          ∧ t.pcie.bars = s.pcie.bars ∧ t.pcie.memSpaceEn = s.pcie.memSpaceEn ∧ t.pcie.msix = s.pcie.msix ∧ t.pcie.linkUp = s.pcie.linkUp
          ∧ t.pcie.hostMem = s.pcie.hostMem))
    ∧ (∀ (p : Nat) (us : U32) (c : PartCause) (k : Pkg), p < 16 → (s.part p).state = .restarting → (s.part p).cause = some c
        → (s.part p).pkg = some k → s.boot.devCause = none →
        CompletesWith (.partitionRestart p us) s (fun t => (t.part p).restarts = (s.part p).restarts + 1 ∧ (t.part p).run = none
          ∧ (t.part p).stopping = none
          ∧ (((s.beginRestart p c).copyGood k).2 = true → (t.part p).cause = none
              ∧ (t.part p).state = (if c.idle = false ∧ (s.part p).stopping = none then .running else .ready))
          ∧ (((s.beginRestart p c).copyGood k).2 = false → (t.part p).state = .failed)))

/-- A measurement against the source (a PTM dialogue with the frequency error, or a PPS edge whose second a message gave, plus the
configured offset or delay) makes an ACQUIRING or HOLDOVER timebase LOCKED; store time becomes the source's time from ACQUIRING,
and from LOCKED or HOLDOVER when it is more than 1 ms away, else it does not step and a frequency correction within ±200 ppm takes
hold (which one is a free value: log 106). A PTP client that has lost its master, a third failed PTM dialogue in a row, a second
PPS edge without a message, or 1.5 s without an edge turns LOCKED into HOLDOVER. Store time itself keeps its value then. A valid
time-of-day line from 100 ms to 900 ms after the last edge gives the TAI second of the next edge; a line with status N, or outside
the window, gives none. PPS_OUT rises for 10 ms at a whole second of store time. The line sent names the second after the present
one, as valid in LOCKED and HOLDOVER. A PTP client that follows a master sends a Delay_Req from its interface. At a phase boundary
the phase in force is the last entry whose start is not after the time of day, the last of the table before the first start. -/
def Obligations.TimebaseResults : Prop :=
  (
  ∀ (s : State), s.ready = true → s.tb.state < 4 →
    let keeps (t : State) : Prop := t.easels = s.easels ∧ t.sitters = s.sitters ∧ t.mem = s.mem ∧ t.med = s.med ∧ t.pwr = s.pwr
    let lost (t : State) : Prop := t.tb.state = (if s.tb.state = 2 then 3 else s.tb.state) ∧ t.tb.time = s.tb.time
      ∧ (s.tb.state = 2 → t.tb.holdNs = 0 ∧ (t.doorbell 16).pend.getLsbD 7 = true) ∧ keeps t
    let stays (t : State) : Prop := t.tb.state = s.tb.state ∧ t.tb.time = s.tb.time ∧ keeps t
    let far (x : U64) : Prop := 1000000 < (Int.ofNat x.toNat - Int.ofNat s.tb.time.toNat).natAbs
    let toward (x : U64) (t : State) : Prop := t.tb.state = (if s.tb.state = 0 then 0 else 2) ∧ keeps t
      ∧ ((s.tb.state = 1 ∨ (s.tb.state ≠ 0 ∧ far x)) → t.tb.time = x ∧ ∀ p, (t.part p).replay = false → (s.part? p).isSome → (t.part p).from_ = x)
      ∧ ((s.tb.state = 0 ∨ (s.tb.state ≠ 1 ∧ ¬far x)) → t.tb.time = s.tb.time)
      ∧ ((s.tb.state = 2 ∨ s.tb.state = 3) → ¬far x → -200000 ≤ t.tb.corr ∧ t.tb.corr ≤ 200000)
    ((s.host.live.srcSel = 1 ∨ s.host.live.srcSel = 2) → (s.ptpLost = true → CompletesWith .ptpAnnounceTimeout s lost)
        ∧ (s.ptpLost = false → exec .ptpAnnounceTimeout s = .next s))
    ∧ (s.host.live.srcSel = 3 → (∀ (m : U64) (ferr : Int),
          CompletesWith (.ptmDialogue (some (m, ferr))) s (fun t => toward (m + s.host.live.ptmOffset) t ∧ t.tb.ferr = ferr ∧ t.tb.ptmFails = 0))
        ∧ CompletesWith (.ptmDialogue none) s (fun t => t.tb.ptmFails = s.tb.ptmFails + 1 ∧ (2 ≤ s.tb.ptmFails → lost t) ∧ (s.tb.ptmFails < 2 → stays t)))
    ∧ (s.host.live.srcSel = 4 →
        (∀ sec ferr, s.tb.todSecond = some sec → CompletesWith (.ppsInEdge ferr) s (fun t =>
          toward (BitVec.ofNat 64 (sec * 1000000000) + BitVec.ofInt 64 (s.host.live.ppsCfg.setWidth 32).toInt) t
            ∧ t.tb.ferr = ferr ∧ t.tb.todSecond = none ∧ t.tb.edgeAt = some s.clock ∧ t.tb.ppsMissed = 0))
        ∧ (∀ ferr, s.tb.todSecond = none → CompletesWith (.ppsInEdge ferr) s (fun t => t.tb.ppsMissed = s.tb.ppsMissed + 1
            ∧ (1 ≤ s.tb.ppsMissed → lost t) ∧ (s.tb.ppsMissed = 0 → stays t)))
        ∧ ((∀ t, s.tb.edgeAt = some t → t + 1500000000 ≤ s.clock) → CompletesWith .ppsEdgeTimeout s lost)
        ∧ (∀ t, s.tb.edgeAt = some t → s.clock < t + 1500000000 → exec .ppsEdgeTimeout s = .next s))
    ∧ (s.host.live.srcSel = 0 → exec .ptpAnnounceTimeout s = .next s ∧ (∀ r, exec (.ptmDialogue r) s = .next s) ∧ (∀ ferr, exec (.ppsInEdge ferr) s = .next s)
        ∧ exec .ppsEdgeTimeout s = .next s)
  )
  ∧
  (
  ∀ (s : State), s.ready = true →
    (∀ sec x, sec < 10 ^ 24 → s.tb.edgeAt = some x → x + 100000000 ≤ s.clock → s.clock ≤ x + 900000000 →
      exec (.todRxMessage (todLine sec true)) s = .next { s with tb := { s.tb with todSecond := some sec } }
      ∧ exec (.todRxMessage (todLine sec false)) s = .next s)
    ∧ (∀ line, (∀ x, s.tb.edgeAt = some x → s.clock < x + 100000000 ∨ x + 900000000 < s.clock) → exec (.todRxMessage line) s = .next s)
    ∧ CompletesWith .ppsOutEdge s (fun t => t.board.ppsHigh = 10000000 ∧ t.tb.state = s.tb.state ∧ t.mem = s.mem ∧ t.host = s.host
        ∧ (let n := s.tb.time.toNat; t.tb.time = if n % 1000000000 < 40 then s.tb.time else BitVec.ofNat 64 ((n / 1000000000 + 1) * 1000000000)))
    ∧ exec .todTxSend s = .next { s with tb := { s.tb with
        todTx := todLine (s.tb.time.toNat / 1000000000 + 1) (s.tb.state = 2 || s.tb.state = 3) } }
    ∧ (∀ k i, (s.host.live.srcSel = 1 ∨ s.host.live.srcSel = 2) → s.ptpMaster.isSome = true → s.ptpIface = some (k, i) →
        CompletesWith .ptpDelayReqSend s (fun t => t.tb.delayReqs = s.tb.delayReqs + 1 ∧ t.tb.time = s.tb.time ∧ { t with tb := s.tb, ing := s.ing } = s
          ∧ t.ing = { s.ing with sent := s.ing.sent ++ [.delayReq { iface := k, mac := i.mac, vlan := i.vlan, src := i.macAddr } s.tb.ptp.reqSeq] }
          ∧ t.tb.ptp.reqSeq = s.tb.ptp.reqSeq + 1 ∧ t.tb.ptp.req = some (s.tb.ptp.reqSeq, Int.ofNat s.tb.time.toNat)))
    ∧ (let c := s.host.live
       let n := c.phaseCount.toNat
       let day := ((Int.ofNat (s.tb.time.toNat / 1000000000) + (c.localOffset.setWidth 32).toInt) % 86400).toNat
       1 ≤ n → (∀ i j, i < j → j < n → c.startS i < c.startS j) →
        CompletesWith .phaseBoundary s (fun t => t.tb.phase < n ∧ { t with tb := s.tb } = s
          ∧ (day < c.startS 0 → t.tb.phase = n - 1)
          ∧ (c.startS 0 ≤ day → c.startS t.tb.phase ≤ day ∧ ∀ j, t.tb.phase < j → j < n → day < c.startS j)))
  )

/-- A MAC without link receives nothing. A received frame is counted; one with a bad FCS, of more than 9,216 bytes, without an
accepting interface, or with a bad checksum is counted so and goes no further. ARP requests and neighbour solicitations for an
address of an accepting interface are answered from that interface. An RTP packet that its demux entry takes and that continues
its stream leaves the reorder window at once and moves its head by one. When the gap at the head of the window times out, its
numbers are lost, and the head moves past the first stored packet. The second report of a membership change leaves once, in the
version of the queriers heard there. -/
def Obligations.FrameReceiveResults : Prop :=
  ∀ (s : State) (mac : Nat) (f : Frame), mac < 8 → s.ready = true →
    let count (t : State) (j : Nat) : BitVec 48 := tget 0 t.ing.macCnt (8 * mac + j)
    let same (t : State) : Prop := { t with ing := { t.ing with macCnt := s.ing.macCnt } } = s
    let base (t : State) : Prop := count t 0 = count s 0 + 1
    ((s.port (mac / 4)).link.getLsbD (mac % 4) = false → exec (.ethFrameReceive mac f) s = .next s)
    ∧ ((s.port (mac / 4)).link.getLsbD (mac % 4) = true →
        (f.fcsOk = false → CompletesWith (.ethFrameReceive mac f) s (fun t => base t ∧ count t 1 = count s 1 + 1 ∧ same t))
        ∧ (f.fcsOk = true → 9216 < f.length → CompletesWith (.ethFrameReceive mac f) s (fun t => base t ∧ count t 2 = count s 2 + 1 ∧ same t))
        ∧ (f.fcsOk = true → f.length ≤ 9216 → (∀ x ∈ s.ing.ifaces, x.2.mac ≠ mac ∨ x.2.vlan ≠ f.vlan) →
            CompletesWith (.ethFrameReceive mac f) s (fun t => base t ∧ count t 3 = count s 3 + 1 ∧ same t))
        ∧ (f.fcsOk = true → f.length ≤ 9216 → s.acceptors mac f ≠ [] → f.ipSumOk = false →
            CompletesWith (.ethFrameReceive mac f) s (fun t => base t ∧ count t 4 = count s 4 + 1 ∧ same t))
        ∧ (f.fcsOk = true → f.length ≤ 9216 → s.acceptors mac f ≠ [] → f.ipSumOk = true →
            let l := s.acceptors mac f
            let via (k : Nat) (i : Iface) : Via := { iface := k, mac := i.mac, vlan := i.vlan, src := i.macAddr }
            (∀ u, f.body = .udp u → u.sumOk = false →
              CompletesWith (.ethFrameReceive mac f) s (fun t => base t ∧ count t 4 = count s 4 + 1 ∧ same t))
            ∧ (∀ a, (∀ x ∈ l, x.2.arpCopy = false) → f.body = .arpRequest a → CompletesWith (.ethFrameReceive mac f) s (fun t => base t
                ∧ (∀ k i, l.find? (fun x => x.2.ipv4 = a && a ≠ 0) = some (k, i) → t.ing.sent = s.ing.sent ++ [.arpReply (via k i) f.src a])
                ∧ ((∀ x ∈ l, x.2.ipv4 ≠ a ∨ a = 0) → t.ing.sent = s.ing.sent)))
            ∧ (∀ a, (∀ x ∈ l, x.2.arpCopy = false) → f.body = .neighborSolicitation a → CompletesWith (.ethFrameReceive mac f) s (fun t => base t
                ∧ (∀ k i, l.find? (fun x => a ≠ 0 && (x.2.ipv6a = a || x.2.ipv6b = a)) = some (k, i) → t.ing.sent = s.ing.sent ++ [.ndAdvert (via k i) f.src a])
                ∧ ((∀ x ∈ l, a = 0 ∨ (x.2.ipv6a ≠ a ∧ x.2.ipv6b ≠ a)) → t.ing.sent = s.ing.sent)))
            ∧ (∀ (u : Udp) (p : RtpPkt) (j : Nat) (d : Dmx) (h : Int), f.body = .udp u → u.sumOk = true → parseRtp u.payload = some p
                → s.pick u = some (j, d) → d.takes mac f.vlan u = true → d.asRtcp u.payload = false → (s.sitter d.sitter).sourceHost = false
                → (s.sitter d.sitter).ing.head = some h → (s.sitter d.sitter).ing.window = []
                → extend 16 (s.sitter d.sitter).ing.hiSeq p.seq.toNat = h →
                CompletesWith (.ethFrameReceive mac f) s (fun t => base t ∧ (t.sitter d.sitter).ing.head = some (h + 1)
                  ∧ (t.sitter d.sitter).ing.window = [] ∧ tget 0 (t.sitter d.sitter).ing.cnt 0 = tget 0 (s.sitter d.sitter).ing.cnt 0 + 1))))
    ∧ (∀ (n : Nat) (w : WinPkt) (l : List WinPkt) (h : Int), n < 2048 → (s.sitter n).ing.window = w :: l → (s.sitter n).ing.head = some h → h ≤ w.ext →
        CompletesWith (.reorderGapTimeout n) s (fun t => (∃ k, (t.sitter n).ing.head = some k ∧ w.ext < k)
          ∧ tget 0 (t.sitter n).ing.cnt 4 = tget 0 (s.sitter n).ing.cnt 4 + BitVec.ofNat 48 (w.ext - h).toNat))
    ∧ (∀ (i : Nat) (g : BitVec 128), i < 32 → (i, g) ∈ s.ing.reports →
        CompletesWith (.mcastStateChangeReport i g) s (fun t => (i, g) ∉ t.ing.reports ∧ { t with ing := s.ing } = s
          ∧ (let v := s.hostVersion i (isV6 g)
             (∀ src, s.ing.members.find? (fun m => m.1 = i && m.2.1 = g) = some (i, g, src) →
                t.ing.sent = s.ing.sent ++ [.groupReport i v g (if fullVersion (isV6 g) v = true then src else [])])
             ∧ ((∀ m ∈ s.ing.members, m.1 ≠ i ∨ m.2.1 ≠ g) →
                t.ing.sent = s.ing.sent ++ (if isV6 g = false ∧ v = 1 then [] else [.groupLeave i v g])))))

/-- A free engine takes the sitter that is next: its unit leaves the queue; if nothing forbids decoding, the picture is on the engine
in the slot that was free, and else the unit is dropped and its ring space freed. A completed picture, with no word it reads in
error, frees the engine and the unit's ring space, is counted, writes its header into its slot where the bounds registers admit
it, and its frame waits for output, is ready, or is dropped. A media engine without work can be switched off, and one with work
cannot. -/
def Obligations.DecodeResults : Prop :=
  ∀ (s : State) (e : Nat) (p : PicDesc), e < 36 → s.ready = true →
    let E := tget {} s.med.engines e
    let jobOn (t : State) (k : Nat) : Option DecodeJob := (tget {} t.med.engines k).job
    (E.job ≠ none → exec (.decodeStart e p) s = .next s)
    ∧ (s.nextDecode (isJpegEngine e) = none → exec (.decodeStart e p) s = .next s)
    ∧ (∀ n a l slot, E.job = none → s.nextDecode (isJpegEngine e) = some n → (s.sitter n).ing.queue = a :: l → s.freeSlot n = some slot →
        CompletesWith (.decodeStart e p) s (fun t => (t.sitter n).ing.queue = l ∧ (∀ k, k ≠ e → jobOn t k = jobOn s k) ∧ (tget {} t.med.engines e).on = true
          ∧ ((s.openUnit n e p).skipReason n a p = 0 → (t.sitter n).engine = some e
              ∧ ∃ j, jobOn t e = some j ∧ j.sitter = n ∧ j.au = a ∧ j.pic = p ∧ j.slot = slot ∧ slot ∉ s.slotsUsed n)
          ∧ ((s.openUnit n e p).skipReason n a p ≠ 0 → jobOn t e = none ∧ (t.sitter n).ing.esUsed = (s.sitter n).ing.esUsed - a.bytes.length
              ∧ ∀ f ∈ (t.sitter n).frames, f.au = a.index → f.phase = .dropped ∨ f.phase = .reported)))
    ∧ (∀ us, E.job = none → exec (.decodeComplete e us) s = .next s)
    ∧ (∀ us j, E.job = some j → s.mem.flips = [] → CompletesWith (.decodeComplete e us) s (fun t =>
        let S := s.sitter j.sitter
        let T := t.sitter j.sitter
        let hdr := S.slotAt j.slot + S.statsOff
        tget {} t.med.engines e = { E with job := none, pictures := E.pictures + 1, busyUs := E.busyUs + BitVec.ofNat 48 us }
          ∧ T.engine = none ∧ T.ing.esUsed = S.ing.esUsed - j.au.bytes.length ∧ tget 0 T.decCnt 0 = tget 0 S.decCnt 0 + 1
          ∧ (∀ f ∈ T.frames, f.au = j.au.index → f.phase = .waiting ∨ f.phase = .ready ∨ f.phase = .dropped)
          ∧ (∀ k, k ≠ j.sitter → t.sitter k = s.sitter k)
          ∧ (S.still = false → (∀ i, i < 64 → S.inBounds (hdr + i) = true) → t.devLE (hdr + 32) 8 = j.au.capture.toNat ∧ t.devLE (hdr + 40) 8 = j.au.index.toNat
              ∧ t.devLE (hdr + 8) 1 = picTypeCode j.pic.type)))
    ∧ (∀ k, k < 32 → (jobOn s k = none → exec (.engineDomainGate .vde k) s = .next { s with med := { s.med with
            engines := tset {} s.med.engines k { tget {} s.med.engines k with on := false } } })
        ∧ (jobOn s k ≠ none → exec (.engineDomainGate .vde k) s = .next s))
    ∧ (∀ k, k < 4 → (jobOn s (32 + k) = none → CompletesWith (.engineDomainGate .jd k) s (fun t => (tget {} t.med.engines (32 + k)).on = false)))
    ∧ (∀ k, k < 8 → ((tget {} s.med.fus k).job = none → CompletesWith (.engineDomainGate .fu k) s (fun t => tget {} t.med.fus k = { job := none, on := false }))
        ∧ ((tget {} s.med.fus k).job ≠ none → exec (.engineDomainGate .fu k) s = .next s))
    ∧ (∀ k, k < 2 → ((tget {} s.med.mss k).job = none → CompletesWith (.engineDomainGate .ms k) s (fun t => tget {} t.med.mss k = { job := none, on := false })))

/-- A free framing unit takes the pending slot of the least class, deadline and place. A completed slot, with no word of its picture
in error, frees the unit and counts as done in its buffer; while the buffer is not complete its descriptor shows the slot's
status: discarded, stale, empty or filled. A list or flow request is taken from its ring once; a malformed one restarts a RUNNING
partition with cause 4; else a list queues one slot for each of its entries, and a flow request goes on the engine. A flow
completes by writing its field and then its flag. -/
def Obligations.FramingResults : Prop :=
  ∀ (s : State), s.ready = true →
    let jobOf (t : State) (k : Nat) : Option SlotJob := (tget {} t.med.fus k).job
    let flowOf (t : State) (k : Nat) : Option FlowJob := (tget {} t.med.mss k).job
    let faulted (t : State) (p : Nat) : Prop := (s.part p).state = .running → (t.part p).state = .restarting ∧ ∃ c, (t.part p).cause = some c ∧ c.cause = 4
    (∀ fu, fu < 8 → (jobOf s fu ≠ none → exec (.framingSlotStart fu) s = .next s) ∧ (s.med.slots = [] → exec (.framingSlotStart fu) s = .next s)
      ∧ (jobOf s fu = none → s.med.slots ≠ [] → CompletesWith (.framingSlotStart fu) s (fun t => ∃ j, j ∈ s.med.slots
          ∧ (∀ i ∈ s.med.slots, s.slotBefore i j = false) ∧ tget {} t.med.fus fu = { job := some j, on := true } ∧ t.med.slots = s.med.slots.erase j
          ∧ { t with med := s.med } = s)))
    ∧ (∀ fu j f fq, fu < 8 → jobOf s fu = some j → s.framing j.part = some f → f.queues[j.queue]? = some fq → s.mem.flips = [] →
        CompletesWith (.framingSlotComplete fu) s (fun t => jobOf t fu = none ∧ (∀ k, k ≠ fu → jobOf t k = jobOf s k)
          ∧ ((t.part j.part).buf j.queue j.buf).done = j.slot :: ((s.part j.part).buf j.queue j.buf).done
          ∧ (let now := if (s.part j.part).replay then j.instant else s.tb.time
             let stale : Bool := match j.staleUs with | some l => l * 1000 < now.toNat - j.capture.toNat | none => false
             let i := (s.part j.part).buf j.queue j.buf
             (∃ k, k < i.count ∧ k ≠ j.slot ∧ k ∉ i.done) → t.dev (fq.descAddr j.buf j.slot + 2)
               = if j.gone = true then 4 else if stale = true then 2 else if j.box = none then 3 else 1)))
    ∧ (∀ (p : Nat) (f : Framing), p < 16 → s.framing p = some f → (s.part p).serves = true → s.mem.flips = [] →
        let P := s.part p
        (f.cropEntries ≠ 0 → s.devLE f.cropProd 4 ≠ P.cropTaken.toNat →
          let a := s.devLE (f.cropRing + 8 * (P.cropTaken.toNat % f.cropEntries)) 8
          let n := s.devLE (a + 2) 2
          CompletesWith (.cropListTake p) s (fun t => (t.part p).cropTaken = P.cropTaken + 1
            ∧ (s.cropListBad p f a n = true → faulted t p ∧ t.med = s.med)
            ∧ (s.cropListBad p f a n = false → t.med.slots.length = s.med.slots.length + n ∧ (t.part p).state = P.state ∧ (t.part p).cause = P.cause)))
        ∧ (f.cropEntries ≠ 0 → s.devLE f.cropProd 4 = P.cropTaken.toNat → exec (.cropListTake p) s = .next s)
        ∧ (∀ ms, ms < 2 → flowOf s ms = none → f.flowEntries ≠ 0 → s.devLE f.flowProd 4 ≠ P.flowTaken.toNat →
          let a := s.devLE (f.flowRing + 8 * (P.flowTaken.toNat % f.flowEntries)) 8
          CompletesWith (.flowRequestTake ms p) s (fun t => (t.part p).flowTaken = P.flowTaken + 1
            ∧ (s.within p a 32 = false ∨ s.flowJob p f (s.devN a 32) = none → faulted t p ∧ flowOf t ms = none)
            ∧ (∀ j, s.within p a 32 = true → s.flowJob p f (s.devN a 32) = some j → flowOf t ms = some j ∧ (t.part p).state = P.state))))
    ∧ (∀ ms j, ms < 2 → flowOf s ms = some j → CompletesWith (.flowComplete ms) s (fun t => flowOf t ms = none
        ∧ (j.flag = none → t.devN j.dst.toNat j.field.length = j.field)
        ∧ (∀ a, j.flag = some a → t.devLE (a + 4) 4 = 1 + j.cur.toNat % 2 ^ 31)
        ∧ (∀ x, (x < j.dst.toNat ∨ j.dst.toNat + j.field.length ≤ x) → (∀ a, j.flag = some a → x < a + 4 ∨ a + 8 ≤ x) → t.dev x = s.dev x)))

/-- With no injected error: at the first instant from which a RUNNING live partition still runs, store time has come to it, the next
sitting can only be a later one, and the weights of the phase in force govern the partition. While a sitting is open this counts
as an overrun. Otherwise a partition without a job runs the sitting of the next number, which dispatches every stage with the work
list's address; one with a job runs its step when it has a free buffer, and counts the samples that wait when it has none. A
replay partition runs the next instant of its ADVANCE in virtual time. -/
def Obligations.SittingResults : Prop :=
  ∀ (s : State) (p : Nat) (t : U64) (P : Part) (k : Pkg), p < 16 → s.ready = true → s.part? p = some P → P.pkg = some k → s.mem.flips = [] →
    let ran (u : State) : Prop := (u.part p).sitting = P.sitting + 1 ∧ u.disps.length = s.disps.length + k.stages.length
      ∧ (∀ d ∈ u.disps.drop s.disps.length, d.issuer = .sitting p ∧ d.arg = BitVec.ofNat 64 k.workList ∧ d.running = [])
      ∧ (k.stages ≠ [] → ∃ r, (u.part p).run = some r ∧ r.number = P.sitting + 1 ∧ r.instant = t ∧ r.open_ = k.stages.map (·.unit))
    (P.replay = false → P.mayRun t = false → exec (.sittingInstant p t) s = .next s)
    ∧ (P.replay = false → P.mayRun t = true →
        CompletesWith (.sittingInstant p t) s (fun u => (u.part p).from_ = t + 1 ∧ u.tb.time = (if s.tb.time.toNat < t.toNat then t else s.tb.time)
          ∧ (u.part p).lcWeight = s.host.live.lcWeight s.tb.phase ∧ (u.part p).beWeight = s.host.live.beWeight s.tb.phase
          ∧ (P.run ≠ none → (u.part p).overrun = P.overrun + 1 ∧ (u.part p).sitting = P.sitting ∧ u.disps = s.disps ∧ u.mem = s.mem)
          ∧ (P.run = none → P.job = none → ran u)
          ∧ (∀ J f fq, P.run = none → P.job = some J → s.framing p = some f → f.queues[0]? = some fq →
              (J.done < J.steps → s.freeBuf fq = none → (u.part p).framingWait = P.framingWait + BitVec.ofNat 48 J.batch
                ∧ (u.part p).sitting = P.sitting ∧ u.disps = s.disps)
              ∧ (J.steps ≤ J.done ∨ s.freeBuf fq ≠ none → ran u))))
    ∧ (∀ q n last, P.replay = true → P.state = .running → P.run = none → P.job = none → P.advance = some (q, n, last) → t.toNat = P.nextInstant P.from_.toNat
        → t.toNat ≤ last.toNat → s.injectedDone p t = true → s.buffersReady p k t = true →
        CompletesWith (.replaySitting p t) s (fun u => ran u ∧ (u.part p).from_ = t + 1 ∧ u.tb.time = s.tb.time
          ∧ ((u.part p).virtualTime = t ∨ (u.part p).virtualTime = last)))
    ∧ (P.advance = none → exec (.replaySitting p t) s = .next s)

/-- The next entry of an emit ring is taken once. A well-formed block of an awaited frame reports it, or drops it as exceeding the
plan; one of a discarded frame is passed over; any other block restarts a RUNNING partition with cause 5. A sitter's first frame
leaves with its group once its outcome is known: the ring's positions and sequence move by the whole group with its pad and the
overflow notice due, or, where it does not fit or the bus is off, the group is lost whole. The interrupt timer signals records
that are unsignalled. -/
def Obligations.ResultPathResults : Prop :=
  ∀ (s : State), s.ready = true →
    (∀ (p : Nat) (k : Pkg) (a n : Nat), p < 16 → (s.part p).pkg = some k → k.emitRing = some (a, n) → (s.part p).serves = true → n ≠ 0
        → s.mem.flips = [] → n < 2 ^ 32 →
      let c := (s.part p).emitTaken.toNat % n
      let e := a + 64 + 16 * c
      let u := s.setEmit p k (((s.part p).emitTaken.toNat + 1) % n)
      let x := s.devLE e 8
      let len := s.devLE (e + 8) 4
      let b := u.devN x len
      let who := fieldLE b 0 2
      let au : U64 := BitVec.ofNat 64 (fieldLE b 32 8)
      let bad : Bool := s.devLE (e + 12) 4 ≠ 0 || !u.within p x len || blockBad b
      let mine (t : State) : Prop := (t.part p).emitTaken.toNat = ((s.part p).emitTaken.toNat + 1) % n
      (s.devLE a 4 % n = c → exec (.resultBlockTake p) s = .next s)
      ∧ (s.devLE a 4 % n ≠ c → CompletesWith (.resultBlockTake p) s (fun t => mine t
          ∧ (bad = true → (s.part p).state = .running → (t.part p).state = .restarting ∧ ∃ z, (t.part p).cause = some z ∧ z.cause = 5)
          ∧ (bad = false → u.awaited p b = true → (t.part p).state = (s.part p).state ∧ (∀ i, i ≠ who → t.sitter i = s.sitter i)
              ∧ ∀ f ∈ (t.sitter who).frames, f.au = au → (fieldLE b 2 1 = 0 → f.phase = .reported ∧ f.block = b)
                  ∧ (fieldLE b 2 1 = 1 → f.phase = .dropped ∨ f.phase = .reported))
          ∧ (bad = false → u.awaited p b = false → { sitter := who, au := au, sitting := BitVec.ofNat 64 (fieldLE b 40 8) } ∈ (s.part p).orphans →
              (t.part p).state = (s.part p).state ∧ t.sitters = s.sitters ∧ (t.part p).orphans.length + 1 = (s.part p).orphans.length)
          ∧ (bad = false → u.awaited p b = false → { sitter := who, au := au, sitting := BitVec.ofNat 64 (fieldLE b 40 8) } ∉ (s.part p).orphans →
              (s.part p).state = .running → (t.part p).state = .restarting ∧ ∃ z, (t.part p).cause = some z ∧ z.cause = 5))))
    ∧ (∀ (n : Nat) (f : FrameRec), n < 2048 → earliest (s.sitter n).frames = some f →
        (f.phase ≠ .dropped → f.phase ≠ .reported → exec (.resultGroupWrite n) s = .next s)
        ∧ (f.phase = .dropped ∨ f.phase = .reported →
          let r := (s.sitter n).resultRing
          let R := s.ring r
          let all := overflowNotice R s.tb.time ++ s.frameGroup n (s.sitter n) f
          let len := recordsLen all
          let pad := if R.tail < len then R.tail else 0
          CompletesWith (.resultGroupWrite n) s (fun t => (t.sitter n).frames = (s.sitter n).frames.filter (fun g => g.au ≠ f.au)
            ∧ (∀ k, k ≠ r → t.ring k = s.ring k) ∧ t.mem = s.mem ∧ t.parts = s.parts
            ∧ (R.sizeLog2 = 0 → t.ring r = R)
            ∧ (R.sizeLog2 ≠ 0 → s.busOn = true → pad + len ≤ R.free → (t.ring r).prod = R.prod + BitVec.ofNat 64 (pad + len)
                ∧ (t.ring r).seq = R.seq + BitVec.ofNat 64 all.length ∧ (t.ring r).lostGroups = 0)
            ∧ (R.sizeLog2 ≠ 0 → (s.busOn = false ∨ R.free < pad + len) → (t.ring r).prod = R.prod ∧ (t.ring r).seq = R.seq
                ∧ (t.ring r).lostGroups = R.lostGroups + 1 ∧ t.pcie = s.pcie))))
    ∧ (∀ r, r < 64 → ((s.ring r).unsigAny = true → (s.ring r).intrUs ≠ 0 →
          CompletesWith (.ringIntrTimer r) s (fun t => t.ring r = { s.ring r with unsignalled := 0, unsigAny := false }
            ∧ t.pcie.pba.getLsbD (s.ring r).vector.toNat = true ∧ t.mem = s.mem ∧ t.sitters = s.sitters))
        ∧ ((s.ring r).unsigAny = false → exec (.ringIntrTimer r) s = .next s))

/-- A lower of an operating point settles, and a raise does when the voltage read lies within 1 % of the new one; else the raise is
abandoned with REG_FAULT. A telemetry sample adds the sum of the regulators' powers and takes for each die the temperature of its
hottest sensor. A shift step runs at a multiple of 10 ms of store time and takes the occupancy of the interval that ends there:
under ALERT no point moves; a single die at 100 °C or above is lowered one point, with HOT set, when its neighbours allow it; with
nothing hot, skewed, frozen or out of band and no budget, the critical die is raised one point. A power alert puts every die at
OP0 and latches. A retrained link records a change of width, and one that is dead is a cause of a device restart. THERM_TRIP stops
every clock. -/
def Obligations.PowerEventResults : Prop :=
  ∀ (s : State),
    (∀ (c : OpChange) (mv : Nat), s.board.clocksStopped = false → s.pwr.change = some c → s.pwr.todo = [] →
        let near : Prop := 99 * opVolt c.to_ ≤ 100 * mv ∧ 100 * mv ≤ 101 * opVolt c.to_
        (s.op c.die < c.to_ → ¬ near → exec (.opChangeSettle mv) s = .next { s with pwr := { s.pwr with change := none, regFault := true } })
        ∧ ((c.to_ ≤ s.op c.die ∨ near) → CompletesWith (.opChangeSettle mv) s (fun t => t.op c.die = c.to_ ∧ t.pwr.change = none
            ∧ t.pwr.changes = s.pwr.changes + 1 ∧ (∀ d, d ≠ c.die → t.op d = s.op d) ∧ { t with pwr := s.pwr } = s)))
    ∧ (s.board.clocksStopped = false → s.boot.journalOpen = true →
        (∀ x : Telemetry, x.sensors.length = 8 → CompletesWith (.telemetrySample x) s (fun t =>
          { t with pwr := { t.pwr with samples := s.pwr.samples, temps := s.pwr.temps } } = s
          ∧ t.pwr.samples = (((x.pout.filter (fun y => 0x40 ≤ y.1.toNat && y.1.toNat ≤ 0x4D)).map (·.2)).sum :: s.pwr.samples).take 100
          ∧ (∀ i l v, i < 8 → x.sensors[i]? = some l → v ∈ l → (∀ w ∈ l, w ≤ v) → t.temp (dieOrder.getD i 0) = v)))
        ∧ (∀ f, exec (.pmAlert f) s = .next { s with pwr := { s.pwr with regFault := s.pwr.regFault || f } }))
    ∧ (s.ready = true → CompletesWith .shiftStep s (fun t =>
          let n := s.tb.time.toNat
          let at_ := if n % 10000000 < 40 then n else (n / 10000000 + 1) * 10000000
          let u := s.passTo at_
          let occ (d : Nat) : Nat × Nat := if (u.occNow d).2 = 0 then (0, 1) else u.occNow d
          t.pwr.occ = (List.range 6).map (fun d => (d, u.occNow d)) ∧ (∀ e, (t.easel e).spanCyc = 0 ∧ (t.easel e).busyCyc = 0)
          ∧ t.tb.time = BitVec.ofNat 64 at_
          ∧ (s.pwr.alert = true → t.pwr.ops = s.pwr.ops ∧ t.pwr.change = s.pwr.change ∧ t.pwr.todo = s.pwr.todo)
          ∧ (∀ d, s.pwr.alert = false → d < 8 → 100 ≤ s.temp d → (∀ x, x < 8 → x ≠ d → s.temp x < 100) → t.pwr.hot = true
              ∧ (∀ x, x ≠ d → t.planned x = s.planned x)
              ∧ (0 < s.planned d → s.moveOk d (s.planned d - 1) = true → t.planned d = s.planned d - 1))
          ∧ (∀ c, s.pwr.alert = false → (∀ x, x < 8 → s.temp x < 100) → (∀ x y, x < 8 → y < 8 → neighbours x y = true → s.temp x ≤ s.temp y + 30) → s.freeze = false
              → (∀ x, x < 8 → (s.band x).1 ≤ s.planned x ∧ s.planned x ≤ (s.band x).2) → s.budget = 0 → c < 6 → 85 * (occ c).2 ≤ 100 * (occ c).1
              → (∀ x, x < 6 → (occ x).1 * (occ c).2 ≤ (occ c).1 * (occ x).2) → (∀ x, x < c → (occ x).1 * (occ c).2 < (occ c).1 * (occ x).2)
              → s.planned c < 7 → s.planned c < (s.band c).2 → s.moveOk c (s.planned c + 1) = true → t.planned c = s.planned c + 1)))
    ∧ (s.board.porAsserted = false → CompletesWith (.pwrAlert true) s (fun t => t.pwr.alert = true ∧ t.pwr.alertPin = true ∧ (∀ d, t.op d = 0)
          ∧ t.pwr.change = none ∧ t.pwr.todo = [] ∧ t.pwr.alerts = (if s.pwr.alert = true then s.pwr.alerts else s.pwr.alerts + 1) ∧ { t with pwr := s.pwr } = s))
    ∧ exec (.pwrAlert false) s = .next { s with pwr := { s.pwr with alertPin := false } }
    ∧ (s.ready = false → s.pwr.alertPin = false → exec .alertAutoClear s = .next { s with pwr := { s.pwr with alert := false } })
    ∧ (s.ready = true ∨ s.pwr.alertPin = true → exec .alertAutoClear s = .next s)
    ∧ exec .thermTrip s = .next { s with board := { s.board with thermTrip := true, clocksStopped := true }
                                         pcie := { s.pcie with linkUp := false, speed := 0, width := 0 } }
    ∧ (∀ link a b, link < 19 → s.ready = true → CompletesWith (.stretcherLinkRetrain link a b) s (fun t =>
        (t.pwr.retrains = if link ∈ s.pwr.retrainDue then s.pwr.retrains + 1 else s.pwr.retrains) ∧ link ∉ t.pwr.retrainDue
          ∧ (a < 32 ∨ b < 32 → t.boot.half = s.boot.half ∧ t.boot.devCause ≠ none)
          ∧ (32 ≤ a → 32 ≤ b → t.boot.half.getLsbD link = (decide (a < 64) || decide (b < 64)) ∧ t.boot.devCause = s.boot.devCause
              ∧ ∀ k, k ≠ link → t.boot.half.getLsbD k = s.boot.half.getLsbD k)
          ∧ t.mem = s.mem ∧ t.easels = s.easels))

/-- A refresh closes its bank's row and counts; a re-track counts, and an access that fails even then is logged and counted as
uncorrectable; an idle row closes: no data changes. When no other word of memory holds flipped bits, the scrubber on its way to a
word of an ACTIVE group counts nothing if that word has none; one with one or two flipped bits is corrected in place, counted and
logged; one with three bits is counted as uncorrectable and logged. A group reaches its target state, and a RELEASED group's bytes
read zero; one back from RETAINED re-tracks both its channels and is the last of those the scrubber visits first. Freed memory
reads zero once it has been zeroed. -/
def Obligations.MemoryEventResults : Prop :=
  ∀ (s : State), s.board.clocksStopped = false →
    (∀ g c b, g < 16 → c < 2 → b < 16 → let k := 32 * g + 16 * c + b
        let B := tget {} s.mem.banks k
        let bank (v : Bank) : State := { s with mem := { s.mem with banks := tset {} s.mem.banks k v } }
        (s.groupState g = 0 → exec (.gddrRefresh g c b) s = .next (bank { B with openRow := none, refreshes := B.refreshes + 1 })
          ∧ CompletesWith (.gddrRetrack g c none) s (fun t => tget 0 t.mem.retracks (2 * g + c) = tget 0 s.mem.retracks (2 * g + c) + 1
            ∧ { t with mem := { t.mem with retracks := s.mem.retracks } } = s))
        ∧ (s.groupState g ≠ 0 → exec (.gddrRefresh g c b) s = .next s ∧ ∀ x, edcOk c x = true → exec (.gddrRetrack g c x) s = .next s)
        ∧ exec (.rowIdleClose g c b) s = .next (bank { B with openRow := none }))
    ∧ (∀ g c f, g < 16 → c < 2 → edcOk c (some f) = true → s.groupState g = 0 →
        let key := 0x100 * (if g < 4 then 6 else (g - 4) / 2) + 0x62
        CompletesWith (.gddrRetrack g c (some f)) s (fun t => tget 0 t.mem.retracks (2 * g + c) = tget 0 s.mem.retracks (2 * g + c) + 1
          ∧ t.mem.errCount = s.mem.errCount + 1 ∧ tget 0 t.mem.eccCnt key = tget 0 s.mem.eccCnt key + 1))
    ∧ (∀ g off bits, g < 16 → off < 0x60000000 → off % 8 = 0 → s.groupState g = 0 → s.boot.state = 1 → s.board.porAsserted = false
        → s.mem.scrubAt % 128 = 0 → (∀ x ∈ s.mem.scrubFirst, x.2 % 128 = 0) →
        let a := g * 0x80000000 + off
        s.mem.flips.length ≤ 1 → (∀ x ∈ s.mem.flips, x.1 = a) →
        let l := (tget [] s.mem.flips a ++ bits).eraseDups
        let cnt (t : State) (j : Nat) : BitVec 48 := tget 0 t.mem.eccCnt (0x100 * (if g < 4 then 6 else (g - 4) / 2) + 0x60 + j)
        let logged (t : State) : Prop := t.mem.errCount = s.mem.errCount + 1 ∧ (t.doorbell 16).pend.getLsbD 5 = true
        (l = [] → CompletesWith (.scrubRead .gddr6 a bits) s (fun t => t.mem.errCount = s.mem.errCount ∧ t.mem.eccCnt = s.mem.eccCnt
            ∧ (∀ x, t.dev x = s.dev x) ∧ t.parts = s.parts ∧ t.easels = s.easels))
        ∧ (l.length = 1 ∨ l.length = 2 → CompletesWith (.scrubRead .gddr6 a bits) s (fun t => cnt t (l.length - 1) = cnt s (l.length - 1) + 1
            ∧ logged t ∧ tget [] t.mem.flips a = [] ∧ (∀ x, t.dev x = s.dev x) ∧ t.parts = s.parts))
        ∧ (l.length = 3 → CompletesWith (.scrubRead .gddr6 a bits) s (fun t => cnt t 2 = cnt s 2 + 1 ∧ logged t
            ∧ ∀ x, (x < a ∨ a + 8 ≤ x) → t.dev x = s.dev x)))
    ∧ (∀ g x trained, g < 16 → tfind s.mem.moving g = some x → CompletesWith (.memGroupTransitionDone g trained) s (fun t =>
        t.groupState g = x ∧ (∀ k, k ≠ g → t.groupState k = s.groupState k) ∧ tfind t.mem.moving g = none
          ∧ (x = 0 → s.groupState g = 1 → (∀ c, c < 2 → tget 0 t.mem.retracks (2 * g + c) = tget 0 s.mem.retracks (2 * g + c) + 1)
              ∧ t.mem.scrubFirst.getLast? = some (g, g * 0x80000000))
          ∧ (∀ a, x = 2 → g * 0x80000000 ≤ a → a < (g + 1) * 0x80000000 → t.dev a = 0)
          ∧ (∀ a, (x ≠ 2 ∨ a < g * 0x80000000 ∨ (g + 1) * 0x80000000 ≤ a) → t.dev a = s.dev a)))
    ∧ (∀ g trained, g < 16 → tfind s.mem.moving g = none → exec (.memGroupTransitionDone g trained) s = .next s)
    ∧ CompletesWith .freedMemoryZeroed s (fun t => t.mem.zeroing = [] ∧ t.mem.zeroGal = [] ∧ { t with mem := s.mem } = s
        ∧ ∀ a, t.dev a = if (∃ r ∈ s.mem.zeroing, r.1 ≤ a ∧ a < r.1 + r.2) ∨ (∃ x ∈ s.mem.zeroGal, granuleAddr x ≤ a ∧ a < granuleAddr x + 0x10000)
            then 0 else s.dev a)

/-- The SMBus target answers each command code with its value: the start status, or the Curator's copy of temperature, power, die
temperatures, identity and power status; it refuses every write, and answers nothing while POR_N is low or the clocks have
stopped. The copy is refreshed from the live values. BYPASS and IDCODE select their registers, SAMPLE/PRELOAD loads the boundary
register, and EXTEST and HIGHZ act on the pins only while POR_N is low. -/
def Obligations.BoardPortResults : Prop :=
  ∀ (s : State),
    let tells (i : Instr) (b : Option (List Byte)) : Prop :=
      exec i s = .next { s with board := { s.board with sbAnswer := if s.board.porAsserted = false ∧ s.board.clocksStopped = false then b else none } }
    let jtag (i : Instr) (ir : Nat) (dr : U32) (pins : List Bool) : Prop :=
      exec i s = .next { s with board := { s.board with jtagIr := ir, jtagDr := dr, extestOn := decide (ir = 3) && s.board.porAsserted,
                                                         highzOn := decide (ir = 4) && s.board.porAsserted,
                                                         clkreqLow := !(decide (ir = 4) && s.board.porAsserted), boundary := pins } }
    tells .smbusReadStatus (some (leBytes 2 (s.boot.status % 65536)))
    ∧ tells .smbusReadTemperature (some [s.board.sbTemp])
    ∧ tells .smbusReadPower (some (leBytes 2 s.board.sbPower.toNat))
    ∧ (s.board.sbTemps.length = 8 → tells .smbusReadDieTemps (some s.board.sbTemps))
    ∧ (s.board.sbIdentity.length = 32 → tells .smbusReadIdentity (some s.board.sbIdentity))
    ∧ tells .smbusReadPwrStatus (some [s.board.sbPwrStatus])
    ∧ (∀ code, tells (.smbusWriteRefused code) none)
    ∧ (s.boot.journalOpen = true → s.board.porAsserted = false → s.board.clocksStopped = false →
        CompletesWith .smbusCopyRefresh s (fun t => t.board.sbTemps.length = 8 ∧ t.board.sbPower = BitVec.ofNat 16 (s.avgDw / 10)
          ∧ (∀ i, i < 8 → 0 ≤ s.temp (dieOrder.getD i 0) → s.temp (dieOrder.getD i 0) ≤ 255 →
              (t.board.sbTemps.getD i 0).toNat = (s.temp (dieOrder.getD i 0)).toNat)
          ∧ (∀ i, i < 8 → (t.board.sbTemps.getD i 0).toNat ≤ t.board.sbTemp.toNat)
          ∧ t.board.sbPwrStatus = BitVec.ofNat 8 s.pwrStatus ∧ t.board.sbIdentity = (if s.sec.idReady = true then digest s.sec.identityKey else [])
          ∧ { t with board := s.board } = s))
    ∧ jtag .bypass 0 0 s.board.boundary ∧ jtag .idcode 1 0x10880879 s.board.boundary
    ∧ (∀ pins, jtag (.samplePreload pins) 2 0 pins) ∧ jtag .extest 3 0 s.board.boundary ∧ jtag .highz 4 0 s.board.boundary

/-- For every instruction command, with every value of its fields: its word fits its length of 4 or 8 bytes, bit 0 of the word is 1
exactly for 8 bytes, and decoding the word on its Easel gives the command back. So no bit of an encoding is dropped and no two
instructions share a word. -/
def Obligations.CarukRoundTrip : Prop :=
  ∀ (c : Instr) (e n w : Nat), carukWord c = some (e, n, w) →
    decodeCaruk e w = some c ∧ w < 2 ^ (8 * n) ∧ (n = 4 ∨ n = 8) ∧ (n = 8 ↔ w % 2 = 1)

/-- One word for each of fourteen formats and families, its fields written bit by bit from the tables of the encodings, decodes to the
instruction that the tables give it; the word of the worked stroke is the manual's; a word with an undefined selector decodes to
nothing. -/
def Obligations.CarukWords : Prop :=
  let r (k : BitVec 7) (f : BitVec 3) (c b a : BitVec 5) (major : BitVec 6) : Nat := (k ++ f ++ c ++ b ++ a ++ major ++ 0#1).toNat
  let i (imm : BitVec 12) (f : BitVec 3) (b a : BitVec 5) (major : BitVec 6) : Nat := (imm ++ f ++ b ++ a ++ major ++ 0#1).toNat
  decodeCaruk 5 (r 0b0000000 0b001 0b00011 0b00010 0b00001 0b000000) = some (.sub 5 1 2 3)
  ∧ decodeCaruk 5 (r 0b0010110 0b000 0b00011 0b00010 0b00001 0b000000) = some (.sel 5 6 1 2 3)
  ∧ decodeCaruk 5 (r 0b0000001 0b010 0b00011 0b00010 0b00001 0b000100) = some (.cmp 5 2 1 1 2 3)
  ∧ decodeCaruk 5 (r 0b0000000 0b110 0b00011 0b00010 0b00001 0b000111) = some (.remu 5 0 1 2 3)
  ∧ decodeCaruk 5 (r 0b0000000 0b011 0b00011 0b00010 0b00000 0b010000) = some (.ring 5 0 0 2 3)
  ∧ decodeCaruk 5 (r 0b1000101 0b001 0b00000 0b00000 0b00100 0b100010) = some (.drain 5 0b1000101 1 4 0 0)
  ∧ decodeCaruk 5 (r 0b0000111 0b011 0b00000 0b00010 0b00001 0b101011) = some (.vput 5 7 1 2 0)
  ∧ decodeCaruk 5 (r 0b0000000 0b000 0b00000 0b00010 0b00000 0b111100) = some (.plaunch 5 0 0 0 2 0)
  ∧ decodeCaruk 5 (i 0b111111111111 0b000 0b00010 0b00001 0b000001) = some (.addi 5 1 2 0xFFF)
  ∧ decodeCaruk 5 (i 0b000000001000 0b011 0b00010 0b00001 0b001000) = some (.ldl 5 3 1 2 8)
  ∧ decodeCaruk 5 (i 0b000000100001 0b001 0b00010 0b00000 0b010010) = some (.ecrw 5 0 2 0x21)
  ∧ decodeCaruk 5 (i 0b000000000011 0b101 0b00010 0b00001 0b010011) = some (.dwr 5 1 2 3)
  ∧ decodeCaruk 5 ((0x0FFFF#20 ++ 0b01001#5 ++ 0b001100#6 ++ 0#1).toNat) = some (.br 5 9 0x0FFFF)
  ∧ decodeCaruk 5 0x000000200358B521 = some (.stroke 5 { rsv := 0, clr := 1, neg := 0, lt := 0, mode := 0, tf := 0, lf := 0, rp := 13, rk := 12, rt := 11, rl := 10 })
  ∧ decodeCaruk 5 (r 0b0000000 0b111 0b00011 0b00010 0b00001 0b000111) = none
  ∧ decodeCaruk 5 (r 0 0 0 0 0 0b111111) = none

/-- In every state whose memories (device memory, host memory, flash, and the local and instruction stores of every Easel) are in
canonical form, a step that answers a next state answers one whose memories are in canonical form: addresses strictly rising, and
no entry equal to what an unlisted address reads. -/
def Obligations.MemoryInvariant : Prop :=
  ∀ s t : State, MemInv s → step s = .next t → MemInv t

/-- After reset the part is STARTING with POR_N asserted, its outputs in high impedance, no link, no memory space, no bus master and
no interrupt; the timebase is FREE at store time 0 with SRC_SEL 0, one phase and the reset values of its settings; every queue is
DISABLED, every ring undefined, every mailbox empty, every doorbell word 0; no partition, sitter, software atelier or dispatch
exists; every Easel is off; every memory group is ACTIVE with no byte listed; every die is at OP0; the measurement registers are
zero. The memories have their canonical form. (Registers whose reset value is the model's choice are named in the assumption log,
not here.) -/
def Obligations.ResetValues : Prop :=
  let s := State.reset
  MemInv s ∧ s.pending = [] ∧ s.boot.state = 0 ∧ s.board.porAsserted = true ∧ s.board.outputsHighZ = true ∧ s.pcie.linkUp = false
    ∧ s.pcie.memSpaceEn = false ∧ s.pcie.busMasterEn = false ∧ s.pcie.msixEnable = false ∧ s.pcie.intaAsserted = false ∧ s.pcie.pba = 0
    ∧ s.tb.state = 0 ∧ s.tb.time = 0 ∧ s.host.live = s.host.staged ∧ s.host.live.srcSel = 0 ∧ s.host.live.ptpCfg = 0x3000
    ∧ s.host.live.ptmInterval = 10 ∧ s.host.live.phaseCount = 1 ∧ s.host.live.spRate = 10000 ∧ s.host.live.phaseLo 0 = 0xFFFFFFFF00000000
    ∧ s.host.live.phaseHi 0 = 0x0000FFFFFFFFFFFF ∧ s.host.commit = 0 ∧ s.host.h2c = {} ∧ s.host.c2h = {}
    ∧ (∀ q, (s.queue q).state = 0) ∧ (∀ r, (s.ring r).defined = false) ∧ (∀ w, s.doorbell w = { pend := 0, mask := 0, vector := 0 })
    ∧ s.parts = [] ∧ s.sitters = [] ∧ s.ateliers = [] ∧ s.disps = [] ∧ (∀ e, (s.easel e).powered = false ∧ (s.easel e).running = false)
    ∧ (∀ g, s.groupState g = 0) ∧ (∀ a, s.dev a = 0) ∧ (∀ d, s.op d = 0) ∧ s.pwr.alert = false ∧ s.sec.m = [] ∧ s.sec.log = []

/-- Every well-formed command, in every state, answers a next state, provided that an access to a base address register lies inside it
as the part has it configured. No command is refused, and a command that ends in a fault names a unit that the part does not have. -/
def Obligations.EveryCommandCompletes : Prop :=
  (∀ (c : Instr) (s : State), c.wf = true →
    (match c with
      | .registerWrite bar off size _ => bar = 7 ∨ off + size ≤ s.barSize bar
      | .registerReadCapture bar off size => bar = 7 ∨ off + size ≤ s.barSize bar
      | .bar4Read off n => off + n ≤ s.barSize 4
      | .bar4Write off b => off + b.length ≤ s.barSize 4
      | _ => True) → Completes c s)
  ∧ (∀ (c : Instr) (s : State) (r : Refusal), exec c s ≠ .refused r)
end

