-- ==== Sys2Proof/Laws/Table.lean ====
section
/-!
SUPPORT. What the operations on tables and byte memories do: a read after a write, and the canonical form that every write keeps.
-/
namespace Sys2Proof.Machine

variable {α : Type}

@[simp] theorem tget_nil (d : α) (k : Nat) : tget d ([] : Tbl α) k = d := rfl

@[simp] theorem tget_terase_self (d : α) (t : Tbl α) (k : Nat) : tget d (terase t k) k = d := by
  induction t with
  | nil => rfl
  | cons x t ih => obtain ⟨j, v⟩ := x; by_cases h : j = k <;> simp [terase, tget, h, ih]

theorem tget_terase_ne (d : α) (t : Tbl α) {k i : Nat} (h : i ≠ k) : tget d (terase t k) i = tget d t i := by
  induction t with
  | nil => rfl
  | cons x t ih =>
    obtain ⟨j, v⟩ := x
    by_cases hj : j = k
    · subst hj; simp [terase, tget, ih, Ne.symm h]
    · simp [terase, tget, hj, ih]

@[simp] theorem tget_tinsert_self (d : α) (t : Tbl α) (k : Nat) (v : α) : tget d (tinsert t k v) k = v := by
  induction t with
  | nil => simp [tinsert, tget]
  | cons x t ih =>
    obtain ⟨j, w⟩ := x
    simp only [tinsert]
    split
    · simp [tget]
    · split
      · simp [tget]
      · next h => simp [tget, Ne.symm h, ih]

theorem tget_tinsert_ne (d : α) (t : Tbl α) {k i : Nat} (v : α) (h : i ≠ k) : tget d (tinsert t k v) i = tget d t i := by
  induction t with
  | nil => simp [tinsert, tget, Ne.symm h]
  | cons x t ih =>
    obtain ⟨j, w⟩ := x
    simp only [tinsert]
    split
    · simp [tget, Ne.symm h]
    · split
      · next hk => subst hk; simp [tget, Ne.symm h]
      · simp [tget, ih]

@[simp] theorem tfind_tinsert_self (t : Tbl α) (k : Nat) (v : α) : tfind (tinsert t k v) k = some v := by
  induction t with
  | nil => simp [tinsert, tfind]
  | cons x t ih =>
    obtain ⟨j, w⟩ := x
    simp only [tinsert]
    split
    · simp [tfind]
    · split
      · simp [tfind]
      · next h => simp [tfind, Ne.symm h, ih]

theorem tfind_tinsert_ne (t : Tbl α) {k i : Nat} (v : α) (h : i ≠ k) : tfind (tinsert t k v) i = tfind t i := by
  induction t with
  | nil => simp [tinsert, tfind, Ne.symm h]
  | cons x t ih =>
    obtain ⟨j, w⟩ := x
    simp only [tinsert]
    split
    · simp [tfind, Ne.symm h]
    · split
      · next hk => subst hk; simp [tfind, Ne.symm h]
      · simp [tfind, ih]

@[simp] theorem tget_tset_self [DecidableEq α] (d : α) (t : Tbl α) (k : Nat) (v : α) : tget d (tset d t k v) k = v := by
  unfold tset; split
  · next h => simp [h]
  · simp

theorem tget_tset_ne [DecidableEq α] (d : α) (t : Tbl α) {k i : Nat} (v : α) (h : i ≠ k) : tget d (tset d t k v) i = tget d t i := by
  unfold tset; split
  · exact tget_terase_ne d t h
  · exact tget_tinsert_ne d t v h

/-! ### The canonical form -/

theorem tsorted_cons [DecidableEq α] (d : α) (j : Nat) (v : α) (t : Tbl α) :
    tsorted d ((j, v) :: t) = true ↔ v ≠ d ∧ (∀ x ∈ t, j < x.1) ∧ tsorted d t = true := by
  simp [tsorted, and_assoc]

theorem mem_tinsert {t : Tbl α} {k : Nat} {v : α} {x : Nat × α} (h : x ∈ tinsert t k v) : x = (k, v) ∨ x ∈ t := by
  induction t with
  | nil => simp only [tinsert, List.mem_singleton] at h; exact .inl h
  | cons y t ih =>
    obtain ⟨j, w⟩ := y
    simp only [tinsert] at h
    split at h
    · exact List.mem_cons.mp h
    · split at h
      · exact (List.mem_cons.mp h).imp_right (List.mem_cons_of_mem _)
      · rcases List.mem_cons.mp h with rfl | h
        · exact .inr (List.mem_cons_self ..)
        · exact (ih h).imp_right (List.mem_cons_of_mem _)

theorem mem_terase {t : Tbl α} {k : Nat} {x : Nat × α} (h : x ∈ terase t k) : x ∈ t := by
  induction t with
  | nil => exact h
  | cons y t ih =>
    obtain ⟨j, w⟩ := y
    simp only [terase] at h
    split at h
    · exact List.mem_cons_of_mem _ (ih h)
    · rcases List.mem_cons.mp h with rfl | h
      · exact List.mem_cons_self ..
      · exact List.mem_cons_of_mem _ (ih h)

theorem tsorted_tinsert [DecidableEq α] {d : α} {t : Tbl α} {k : Nat} {v : α} (hv : v ≠ d) (h : tsorted d t = true) :
    tsorted d (tinsert t k v) = true := by
  induction t with
  | nil => simp [tinsert, tsorted, hv]
  | cons x t ih =>
    obtain ⟨j, w⟩ := x
    obtain ⟨hw, ha, ht⟩ := (tsorted_cons ..).mp h
    simp only [tinsert]
    split
    · next hk =>
      refine (tsorted_cons ..).mpr ⟨hv, fun x hx => ?_, h⟩
      rcases List.mem_cons.mp hx with rfl | hx
      · exact hk
      · exact Nat.lt_trans hk (ha x hx)
    · split
      · next hk => subst hk; exact (tsorted_cons ..).mpr ⟨hv, ha, ht⟩
      · next h1 h2 =>
        refine (tsorted_cons ..).mpr ⟨hw, fun x hx => ?_, ih ht⟩
        rcases mem_tinsert hx with rfl | hx
        · show j < k; omega
        · exact ha x hx

theorem tsorted_terase [DecidableEq α] {d : α} {t : Tbl α} {k : Nat} (h : tsorted d t = true) : tsorted d (terase t k) = true := by
  induction t with
  | nil => rfl
  | cons x t ih =>
    obtain ⟨j, w⟩ := x
    obtain ⟨hw, ha, ht⟩ := (tsorted_cons ..).mp h
    simp only [terase]
    split
    · exact ih ht
    · exact (tsorted_cons ..).mpr ⟨hw, fun x hx => ha x (mem_terase hx), ih ht⟩

theorem tsorted_tset [DecidableEq α] {d : α} {t : Tbl α} {k : Nat} {v : α} (h : tsorted d t = true) : tsorted d (tset d t k v) = true := by
  unfold tset; split
  · exact tsorted_terase h
  · next hv => exact tsorted_tinsert hv h

theorem tsorted_filter [DecidableEq α] {d : α} {t : Tbl α} (p : Nat × α → Bool) (h : tsorted d t = true) :
    tsorted d (t.filter p) = true := by
  induction t with
  | nil => rfl
  | cons x t ih =>
    obtain ⟨j, w⟩ := x
    obtain ⟨hw, ha, ht⟩ := (tsorted_cons ..).mp h
    simp only [List.filter_cons]
    split
    · exact (tsorted_cons ..).mpr ⟨hw, fun x hx => ha x (List.mem_filter.mp hx).1, ih ht⟩
    · exact ih ht

/-! ### Byte memories -/

variable {d : Byte} {c : Cells}

/-- A byte reads what was written to it. -/
@[simp] theorem mread_mwrite_self (d : Byte) (c : Cells) (a : Nat) (b : Byte) : mread d (mwrite d c a b) a = b := tget_tset_self ..

/-- A write leaves every other byte. -/
theorem mread_mwrite_ne {a x : Nat} (b : Byte) (h : x ≠ a) : mread d (mwrite d c a b) x = mread d c x := tget_tset_ne _ _ _ h

theorem wf_mwrite {a : Nat} {b : Byte} (h : Memory.wf d c = true) : Memory.wf d (mwrite d c a b) = true := tsorted_tset h

theorem wf_mwriteN {l : List Byte} : ∀ {c : Cells} {a : Nat}, Memory.wf d c = true → Memory.wf d (mwriteN d c a l) = true := by
  induction l with
  | nil => exact fun h => h
  | cons b l ih => exact fun h => ih (wf_mwrite h)

theorem wf_mwriteL {l : List (Nat × Byte)} : ∀ {c : Cells}, Memory.wf d c = true → Memory.wf d (mwriteL d c l) = true := by
  induction l with
  | nil => exact fun h => h
  | cons x l ih => exact fun h => ih (wf_mwrite h)

theorem wf_mclear {a n : Nat} (h : Memory.wf d c = true) : Memory.wf d (mclear c a n) = true := tsorted_filter _ h

@[simp] theorem wf_nil (d : Byte) : Memory.wf d [] = true := rfl

/-- A block write leaves every byte outside the block. -/
theorem mread_mwriteN_out {l : List Byte} : ∀ {c : Cells} {a x : Nat}, (x < a ∨ a + l.length ≤ x) → mread d (mwriteN d c a l) x = mread d c x := by
  induction l with
  | nil => exact fun _ => rfl
  | cons b l ih =>
    intro c a x h
    simp only [List.length_cons] at h
    rw [mwriteN, ih (by omega), mread_mwrite_ne _ (by omega)]

/-- A byte inside the block reads the byte written there. -/
theorem mread_mwriteN_in {l : List Byte} : ∀ {c : Cells} {a i : Nat} (h : i < l.length), mread d (mwriteN d c a l) (a + i) = l[i] := by
  induction l with
  | nil => intro c a i h; simp at h
  | cons b l ih =>
    intro c a i h
    cases i with
    | zero => rw [mwriteN, mread_mwriteN_out (by omega)]; simp
    | succ i =>
      have := ih (c := mwrite d c a b) (a := a + 1) (i := i) (by simpa using h)
      rw [mwriteN, show a + (i + 1) = a + 1 + i by omega, this]; simp

/-- Writing bytes at listed addresses leaves every byte that is not listed. -/
theorem mread_mwriteL_out {l : List (Nat × Byte)} : ∀ {c : Cells} {x : Nat}, (∀ y ∈ l, y.1 ≠ x) → mread d (mwriteL d c l) x = mread d c x := by
  induction l with
  | nil => exact fun _ => rfl
  | cons y l ih =>
    intro c x h
    rw [mwriteL, ih (fun z hz => h z (List.mem_cons_of_mem _ hz)), mread_mwrite_ne _ (h y (List.mem_cons_self ..)).symm]

/-- Clearing leaves every byte outside the range. -/
theorem mread_mclear_out {a n x : Nat} (h : x < a ∨ a + n ≤ x) : mread d (mclear c a n) x = mread d c x := by
  unfold mread mclear
  induction c with
  | nil => rfl
  | cons y c ih =>
    obtain ⟨j, v⟩ := y
    simp only [List.filter_cons]
    split
    · simp only [tget, ih]
    · next hj =>
      have : j ≠ x := by rintro rfl; simp at hj; omega
      simp [tget, this, ih]

/-- A cleared byte reads the unlisted value. -/
theorem mread_mclear_in {a n x : Nat} (h : a ≤ x ∧ x < a + n) : mread d (mclear c a n) x = d := by
  unfold mread mclear
  induction c with
  | nil => rfl
  | cons y c ih =>
    obtain ⟨j, v⟩ := y
    simp only [List.filter_cons]
    split
    · next hj =>
      have : j ≠ x := by rintro rfl; simp at hj; omega
      simp [tget, this, ih]
    · exact ih

end Sys2Proof.Machine
end

