-- ==== Sys2Proof/Laws/State.lean ====
section
/-!
SUPPORT. What each update of the state leaves: one lemma for each field of State and each update, and the reads after a write of the
records of units and registers.
-/
namespace Sys2Proof.Machine

@[simp] theorem State.setEasel_pending (s : State) (e : Nat) (E : Easel) : (s.setEasel e E).pending = s.pending := rfl
@[simp] theorem State.setEasel_free (s : State) (e : Nat) (E : Easel) : (s.setEasel e E).free = s.free := rfl
@[simp] theorem State.setEasel_clock (s : State) (e : Nat) (E : Easel) : (s.setEasel e E).clock = s.clock := rfl
@[simp] theorem State.setEasel_boot (s : State) (e : Nat) (E : Easel) : (s.setEasel e E).boot = s.boot := rfl
@[simp] theorem State.setEasel_board (s : State) (e : Nat) (E : Easel) : (s.setEasel e E).board = s.board := rfl
@[simp] theorem State.setEasel_pcie (s : State) (e : Nat) (E : Easel) : (s.setEasel e E).pcie = s.pcie := rfl
@[simp] theorem State.setEasel_host (s : State) (e : Nat) (E : Easel) : (s.setEasel e E).host = s.host := rfl
@[simp] theorem State.setEasel_tb (s : State) (e : Nat) (E : Easel) : (s.setEasel e E).tb = s.tb := rfl
@[simp] theorem State.setEasel_ing (s : State) (e : Nat) (E : Easel) : (s.setEasel e E).ing = s.ing := rfl
@[simp] theorem State.setEasel_sitters (s : State) (e : Nat) (E : Easel) : (s.setEasel e E).sitters = s.sitters := rfl
@[simp] theorem State.setEasel_med (s : State) (e : Nat) (E : Easel) : (s.setEasel e E).med = s.med := rfl
@[simp] theorem State.setEasel_ateliers (s : State) (e : Nat) (E : Easel) : (s.setEasel e E).ateliers = s.ateliers := rfl
@[simp] theorem State.setEasel_parts (s : State) (e : Nat) (E : Easel) : (s.setEasel e E).parts = s.parts := rfl
@[simp] theorem State.setEasel_disps (s : State) (e : Nat) (E : Easel) : (s.setEasel e E).disps = s.disps := rfl
@[simp] theorem State.setEasel_primers (s : State) (e : Nat) (E : Easel) : (s.setEasel e E).primers = s.primers := rfl
@[simp] theorem State.setEasel_lastLoan (s : State) (e : Nat) (E : Easel) : (s.setEasel e E).lastLoan = s.lastLoan := rfl
@[simp] theorem State.setEasel_mem (s : State) (e : Nat) (E : Easel) : (s.setEasel e E).mem = s.mem := rfl
@[simp] theorem State.setEasel_pwr (s : State) (e : Nat) (E : Easel) : (s.setEasel e E).pwr = s.pwr := rfl
@[simp] theorem State.setEasel_sec (s : State) (e : Nat) (E : Easel) : (s.setEasel e E).sec = s.sec := rfl

@[simp] theorem State.setPart_pending (s : State) (p : Nat) (P : Part) : (s.setPart p P).pending = s.pending := rfl
@[simp] theorem State.setPart_free (s : State) (p : Nat) (P : Part) : (s.setPart p P).free = s.free := rfl
@[simp] theorem State.setPart_clock (s : State) (p : Nat) (P : Part) : (s.setPart p P).clock = s.clock := rfl
@[simp] theorem State.setPart_boot (s : State) (p : Nat) (P : Part) : (s.setPart p P).boot = s.boot := rfl
@[simp] theorem State.setPart_board (s : State) (p : Nat) (P : Part) : (s.setPart p P).board = s.board := rfl
@[simp] theorem State.setPart_pcie (s : State) (p : Nat) (P : Part) : (s.setPart p P).pcie = s.pcie := rfl
@[simp] theorem State.setPart_host (s : State) (p : Nat) (P : Part) : (s.setPart p P).host = s.host := rfl
@[simp] theorem State.setPart_tb (s : State) (p : Nat) (P : Part) : (s.setPart p P).tb = s.tb := rfl
@[simp] theorem State.setPart_ing (s : State) (p : Nat) (P : Part) : (s.setPart p P).ing = s.ing := rfl
@[simp] theorem State.setPart_sitters (s : State) (p : Nat) (P : Part) : (s.setPart p P).sitters = s.sitters := rfl
@[simp] theorem State.setPart_med (s : State) (p : Nat) (P : Part) : (s.setPart p P).med = s.med := rfl
@[simp] theorem State.setPart_ateliers (s : State) (p : Nat) (P : Part) : (s.setPart p P).ateliers = s.ateliers := rfl
@[simp] theorem State.setPart_disps (s : State) (p : Nat) (P : Part) : (s.setPart p P).disps = s.disps := rfl
@[simp] theorem State.setPart_easels (s : State) (p : Nat) (P : Part) : (s.setPart p P).easels = s.easels := rfl
@[simp] theorem State.setPart_primers (s : State) (p : Nat) (P : Part) : (s.setPart p P).primers = s.primers := rfl
@[simp] theorem State.setPart_lastLoan (s : State) (p : Nat) (P : Part) : (s.setPart p P).lastLoan = s.lastLoan := rfl
@[simp] theorem State.setPart_mem (s : State) (p : Nat) (P : Part) : (s.setPart p P).mem = s.mem := rfl
@[simp] theorem State.setPart_pwr (s : State) (p : Nat) (P : Part) : (s.setPart p P).pwr = s.pwr := rfl
@[simp] theorem State.setPart_sec (s : State) (p : Nat) (P : Part) : (s.setPart p P).sec = s.sec := rfl

@[simp] theorem State.setSitter_pending (s : State) (n : Nat) (S : Sitter) : (s.setSitter n S).pending = s.pending := rfl
@[simp] theorem State.setSitter_free (s : State) (n : Nat) (S : Sitter) : (s.setSitter n S).free = s.free := rfl
@[simp] theorem State.setSitter_clock (s : State) (n : Nat) (S : Sitter) : (s.setSitter n S).clock = s.clock := rfl
@[simp] theorem State.setSitter_boot (s : State) (n : Nat) (S : Sitter) : (s.setSitter n S).boot = s.boot := rfl
@[simp] theorem State.setSitter_board (s : State) (n : Nat) (S : Sitter) : (s.setSitter n S).board = s.board := rfl
@[simp] theorem State.setSitter_pcie (s : State) (n : Nat) (S : Sitter) : (s.setSitter n S).pcie = s.pcie := rfl
@[simp] theorem State.setSitter_host (s : State) (n : Nat) (S : Sitter) : (s.setSitter n S).host = s.host := rfl
@[simp] theorem State.setSitter_tb (s : State) (n : Nat) (S : Sitter) : (s.setSitter n S).tb = s.tb := rfl
@[simp] theorem State.setSitter_ing (s : State) (n : Nat) (S : Sitter) : (s.setSitter n S).ing = s.ing := rfl
@[simp] theorem State.setSitter_med (s : State) (n : Nat) (S : Sitter) : (s.setSitter n S).med = s.med := rfl
@[simp] theorem State.setSitter_ateliers (s : State) (n : Nat) (S : Sitter) : (s.setSitter n S).ateliers = s.ateliers := rfl
@[simp] theorem State.setSitter_parts (s : State) (n : Nat) (S : Sitter) : (s.setSitter n S).parts = s.parts := rfl
@[simp] theorem State.setSitter_disps (s : State) (n : Nat) (S : Sitter) : (s.setSitter n S).disps = s.disps := rfl
@[simp] theorem State.setSitter_easels (s : State) (n : Nat) (S : Sitter) : (s.setSitter n S).easels = s.easels := rfl
@[simp] theorem State.setSitter_primers (s : State) (n : Nat) (S : Sitter) : (s.setSitter n S).primers = s.primers := rfl
@[simp] theorem State.setSitter_lastLoan (s : State) (n : Nat) (S : Sitter) : (s.setSitter n S).lastLoan = s.lastLoan := rfl
@[simp] theorem State.setSitter_mem (s : State) (n : Nat) (S : Sitter) : (s.setSitter n S).mem = s.mem := rfl
@[simp] theorem State.setSitter_pwr (s : State) (n : Nat) (S : Sitter) : (s.setSitter n S).pwr = s.pwr := rfl
@[simp] theorem State.setSitter_sec (s : State) (n : Nat) (S : Sitter) : (s.setSitter n S).sec = s.sec := rfl

@[simp] theorem State.setQueue_pending (s : State) (q : Nat) (Q : Queue) : (s.setQueue q Q).pending = s.pending := rfl
@[simp] theorem State.setQueue_free (s : State) (q : Nat) (Q : Queue) : (s.setQueue q Q).free = s.free := rfl
@[simp] theorem State.setQueue_clock (s : State) (q : Nat) (Q : Queue) : (s.setQueue q Q).clock = s.clock := rfl
@[simp] theorem State.setQueue_boot (s : State) (q : Nat) (Q : Queue) : (s.setQueue q Q).boot = s.boot := rfl
@[simp] theorem State.setQueue_board (s : State) (q : Nat) (Q : Queue) : (s.setQueue q Q).board = s.board := rfl
@[simp] theorem State.setQueue_pcie (s : State) (q : Nat) (Q : Queue) : (s.setQueue q Q).pcie = s.pcie := rfl
@[simp] theorem State.setQueue_tb (s : State) (q : Nat) (Q : Queue) : (s.setQueue q Q).tb = s.tb := rfl
@[simp] theorem State.setQueue_ing (s : State) (q : Nat) (Q : Queue) : (s.setQueue q Q).ing = s.ing := rfl
@[simp] theorem State.setQueue_sitters (s : State) (q : Nat) (Q : Queue) : (s.setQueue q Q).sitters = s.sitters := rfl
@[simp] theorem State.setQueue_med (s : State) (q : Nat) (Q : Queue) : (s.setQueue q Q).med = s.med := rfl
@[simp] theorem State.setQueue_ateliers (s : State) (q : Nat) (Q : Queue) : (s.setQueue q Q).ateliers = s.ateliers := rfl
@[simp] theorem State.setQueue_parts (s : State) (q : Nat) (Q : Queue) : (s.setQueue q Q).parts = s.parts := rfl
@[simp] theorem State.setQueue_disps (s : State) (q : Nat) (Q : Queue) : (s.setQueue q Q).disps = s.disps := rfl
@[simp] theorem State.setQueue_easels (s : State) (q : Nat) (Q : Queue) : (s.setQueue q Q).easels = s.easels := rfl
@[simp] theorem State.setQueue_primers (s : State) (q : Nat) (Q : Queue) : (s.setQueue q Q).primers = s.primers := rfl
@[simp] theorem State.setQueue_lastLoan (s : State) (q : Nat) (Q : Queue) : (s.setQueue q Q).lastLoan = s.lastLoan := rfl
@[simp] theorem State.setQueue_mem (s : State) (q : Nat) (Q : Queue) : (s.setQueue q Q).mem = s.mem := rfl
@[simp] theorem State.setQueue_pwr (s : State) (q : Nat) (Q : Queue) : (s.setQueue q Q).pwr = s.pwr := rfl
@[simp] theorem State.setQueue_sec (s : State) (q : Nat) (Q : Queue) : (s.setQueue q Q).sec = s.sec := rfl

@[simp] theorem State.setRing_pending (s : State) (r : Nat) (R : Ring) : (s.setRing r R).pending = s.pending := rfl
@[simp] theorem State.setRing_free (s : State) (r : Nat) (R : Ring) : (s.setRing r R).free = s.free := rfl
@[simp] theorem State.setRing_clock (s : State) (r : Nat) (R : Ring) : (s.setRing r R).clock = s.clock := rfl
@[simp] theorem State.setRing_boot (s : State) (r : Nat) (R : Ring) : (s.setRing r R).boot = s.boot := rfl
@[simp] theorem State.setRing_board (s : State) (r : Nat) (R : Ring) : (s.setRing r R).board = s.board := rfl
@[simp] theorem State.setRing_pcie (s : State) (r : Nat) (R : Ring) : (s.setRing r R).pcie = s.pcie := rfl
@[simp] theorem State.setRing_tb (s : State) (r : Nat) (R : Ring) : (s.setRing r R).tb = s.tb := rfl
@[simp] theorem State.setRing_ing (s : State) (r : Nat) (R : Ring) : (s.setRing r R).ing = s.ing := rfl
@[simp] theorem State.setRing_sitters (s : State) (r : Nat) (R : Ring) : (s.setRing r R).sitters = s.sitters := rfl
@[simp] theorem State.setRing_med (s : State) (r : Nat) (R : Ring) : (s.setRing r R).med = s.med := rfl
@[simp] theorem State.setRing_ateliers (s : State) (r : Nat) (R : Ring) : (s.setRing r R).ateliers = s.ateliers := rfl
@[simp] theorem State.setRing_parts (s : State) (r : Nat) (R : Ring) : (s.setRing r R).parts = s.parts := rfl
@[simp] theorem State.setRing_disps (s : State) (r : Nat) (R : Ring) : (s.setRing r R).disps = s.disps := rfl
@[simp] theorem State.setRing_easels (s : State) (r : Nat) (R : Ring) : (s.setRing r R).easels = s.easels := rfl
@[simp] theorem State.setRing_primers (s : State) (r : Nat) (R : Ring) : (s.setRing r R).primers = s.primers := rfl
@[simp] theorem State.setRing_lastLoan (s : State) (r : Nat) (R : Ring) : (s.setRing r R).lastLoan = s.lastLoan := rfl
@[simp] theorem State.setRing_mem (s : State) (r : Nat) (R : Ring) : (s.setRing r R).mem = s.mem := rfl
@[simp] theorem State.setRing_pwr (s : State) (r : Nat) (R : Ring) : (s.setRing r R).pwr = s.pwr := rfl
@[simp] theorem State.setRing_sec (s : State) (r : Nat) (R : Ring) : (s.setRing r R).sec = s.sec := rfl

@[simp] theorem State.setPrimer_pending (s : State) (c : Nat) (l : List PrimerJob) : (s.setPrimer c l).pending = s.pending := rfl
@[simp] theorem State.setPrimer_free (s : State) (c : Nat) (l : List PrimerJob) : (s.setPrimer c l).free = s.free := rfl
@[simp] theorem State.setPrimer_clock (s : State) (c : Nat) (l : List PrimerJob) : (s.setPrimer c l).clock = s.clock := rfl
@[simp] theorem State.setPrimer_boot (s : State) (c : Nat) (l : List PrimerJob) : (s.setPrimer c l).boot = s.boot := rfl
@[simp] theorem State.setPrimer_board (s : State) (c : Nat) (l : List PrimerJob) : (s.setPrimer c l).board = s.board := rfl
@[simp] theorem State.setPrimer_pcie (s : State) (c : Nat) (l : List PrimerJob) : (s.setPrimer c l).pcie = s.pcie := rfl
@[simp] theorem State.setPrimer_host (s : State) (c : Nat) (l : List PrimerJob) : (s.setPrimer c l).host = s.host := rfl
@[simp] theorem State.setPrimer_tb (s : State) (c : Nat) (l : List PrimerJob) : (s.setPrimer c l).tb = s.tb := rfl
@[simp] theorem State.setPrimer_ing (s : State) (c : Nat) (l : List PrimerJob) : (s.setPrimer c l).ing = s.ing := rfl
@[simp] theorem State.setPrimer_sitters (s : State) (c : Nat) (l : List PrimerJob) : (s.setPrimer c l).sitters = s.sitters := rfl
@[simp] theorem State.setPrimer_med (s : State) (c : Nat) (l : List PrimerJob) : (s.setPrimer c l).med = s.med := rfl
@[simp] theorem State.setPrimer_ateliers (s : State) (c : Nat) (l : List PrimerJob) : (s.setPrimer c l).ateliers = s.ateliers := rfl
@[simp] theorem State.setPrimer_parts (s : State) (c : Nat) (l : List PrimerJob) : (s.setPrimer c l).parts = s.parts := rfl
@[simp] theorem State.setPrimer_disps (s : State) (c : Nat) (l : List PrimerJob) : (s.setPrimer c l).disps = s.disps := rfl
@[simp] theorem State.setPrimer_easels (s : State) (c : Nat) (l : List PrimerJob) : (s.setPrimer c l).easels = s.easels := rfl
@[simp] theorem State.setPrimer_lastLoan (s : State) (c : Nat) (l : List PrimerJob) : (s.setPrimer c l).lastLoan = s.lastLoan := rfl
@[simp] theorem State.setPrimer_mem (s : State) (c : Nat) (l : List PrimerJob) : (s.setPrimer c l).mem = s.mem := rfl
@[simp] theorem State.setPrimer_pwr (s : State) (c : Nat) (l : List PrimerJob) : (s.setPrimer c l).pwr = s.pwr := rfl
@[simp] theorem State.setPrimer_sec (s : State) (c : Nat) (l : List PrimerJob) : (s.setPrimer c l).sec = s.sec := rfl

@[simp] theorem State.setDev_pending (s : State) (l : List (Nat × Byte)) : (s.setDev l).pending = s.pending := rfl
@[simp] theorem State.setDev_free (s : State) (l : List (Nat × Byte)) : (s.setDev l).free = s.free := rfl
@[simp] theorem State.setDev_clock (s : State) (l : List (Nat × Byte)) : (s.setDev l).clock = s.clock := rfl
@[simp] theorem State.setDev_boot (s : State) (l : List (Nat × Byte)) : (s.setDev l).boot = s.boot := rfl
@[simp] theorem State.setDev_board (s : State) (l : List (Nat × Byte)) : (s.setDev l).board = s.board := rfl
@[simp] theorem State.setDev_pcie (s : State) (l : List (Nat × Byte)) : (s.setDev l).pcie = s.pcie := rfl
@[simp] theorem State.setDev_host (s : State) (l : List (Nat × Byte)) : (s.setDev l).host = s.host := rfl
@[simp] theorem State.setDev_tb (s : State) (l : List (Nat × Byte)) : (s.setDev l).tb = s.tb := rfl
@[simp] theorem State.setDev_ing (s : State) (l : List (Nat × Byte)) : (s.setDev l).ing = s.ing := rfl
@[simp] theorem State.setDev_sitters (s : State) (l : List (Nat × Byte)) : (s.setDev l).sitters = s.sitters := rfl
@[simp] theorem State.setDev_med (s : State) (l : List (Nat × Byte)) : (s.setDev l).med = s.med := rfl
@[simp] theorem State.setDev_ateliers (s : State) (l : List (Nat × Byte)) : (s.setDev l).ateliers = s.ateliers := rfl
@[simp] theorem State.setDev_parts (s : State) (l : List (Nat × Byte)) : (s.setDev l).parts = s.parts := rfl
@[simp] theorem State.setDev_disps (s : State) (l : List (Nat × Byte)) : (s.setDev l).disps = s.disps := rfl
@[simp] theorem State.setDev_easels (s : State) (l : List (Nat × Byte)) : (s.setDev l).easels = s.easels := rfl
@[simp] theorem State.setDev_primers (s : State) (l : List (Nat × Byte)) : (s.setDev l).primers = s.primers := rfl
@[simp] theorem State.setDev_lastLoan (s : State) (l : List (Nat × Byte)) : (s.setDev l).lastLoan = s.lastLoan := rfl
@[simp] theorem State.setDev_pwr (s : State) (l : List (Nat × Byte)) : (s.setDev l).pwr = s.pwr := rfl
@[simp] theorem State.setDev_sec (s : State) (l : List (Nat × Byte)) : (s.setDev l).sec = s.sec := rfl

@[simp] theorem State.setDevN_pending (s : State) (a : Nat) (b : List Byte) : (s.setDevN a b).pending = s.pending := rfl
@[simp] theorem State.setDevN_free (s : State) (a : Nat) (b : List Byte) : (s.setDevN a b).free = s.free := rfl
@[simp] theorem State.setDevN_clock (s : State) (a : Nat) (b : List Byte) : (s.setDevN a b).clock = s.clock := rfl
@[simp] theorem State.setDevN_boot (s : State) (a : Nat) (b : List Byte) : (s.setDevN a b).boot = s.boot := rfl
@[simp] theorem State.setDevN_board (s : State) (a : Nat) (b : List Byte) : (s.setDevN a b).board = s.board := rfl
@[simp] theorem State.setDevN_pcie (s : State) (a : Nat) (b : List Byte) : (s.setDevN a b).pcie = s.pcie := rfl
@[simp] theorem State.setDevN_host (s : State) (a : Nat) (b : List Byte) : (s.setDevN a b).host = s.host := rfl
@[simp] theorem State.setDevN_tb (s : State) (a : Nat) (b : List Byte) : (s.setDevN a b).tb = s.tb := rfl
@[simp] theorem State.setDevN_ing (s : State) (a : Nat) (b : List Byte) : (s.setDevN a b).ing = s.ing := rfl
@[simp] theorem State.setDevN_sitters (s : State) (a : Nat) (b : List Byte) : (s.setDevN a b).sitters = s.sitters := rfl
@[simp] theorem State.setDevN_med (s : State) (a : Nat) (b : List Byte) : (s.setDevN a b).med = s.med := rfl
@[simp] theorem State.setDevN_ateliers (s : State) (a : Nat) (b : List Byte) : (s.setDevN a b).ateliers = s.ateliers := rfl
@[simp] theorem State.setDevN_parts (s : State) (a : Nat) (b : List Byte) : (s.setDevN a b).parts = s.parts := rfl
@[simp] theorem State.setDevN_disps (s : State) (a : Nat) (b : List Byte) : (s.setDevN a b).disps = s.disps := rfl
@[simp] theorem State.setDevN_easels (s : State) (a : Nat) (b : List Byte) : (s.setDevN a b).easels = s.easels := rfl
@[simp] theorem State.setDevN_primers (s : State) (a : Nat) (b : List Byte) : (s.setDevN a b).primers = s.primers := rfl
@[simp] theorem State.setDevN_lastLoan (s : State) (a : Nat) (b : List Byte) : (s.setDevN a b).lastLoan = s.lastLoan := rfl
@[simp] theorem State.setDevN_pwr (s : State) (a : Nat) (b : List Byte) : (s.setDevN a b).pwr = s.pwr := rfl
@[simp] theorem State.setDevN_sec (s : State) (a : Nat) (b : List Byte) : (s.setDevN a b).sec = s.sec := rfl

@[simp] theorem State.clearDev_pending (s : State) (a n : Nat) : (s.clearDev a n).pending = s.pending := rfl
@[simp] theorem State.clearDev_free (s : State) (a n : Nat) : (s.clearDev a n).free = s.free := rfl
@[simp] theorem State.clearDev_clock (s : State) (a n : Nat) : (s.clearDev a n).clock = s.clock := rfl
@[simp] theorem State.clearDev_boot (s : State) (a n : Nat) : (s.clearDev a n).boot = s.boot := rfl
@[simp] theorem State.clearDev_board (s : State) (a n : Nat) : (s.clearDev a n).board = s.board := rfl
@[simp] theorem State.clearDev_pcie (s : State) (a n : Nat) : (s.clearDev a n).pcie = s.pcie := rfl
@[simp] theorem State.clearDev_host (s : State) (a n : Nat) : (s.clearDev a n).host = s.host := rfl
@[simp] theorem State.clearDev_tb (s : State) (a n : Nat) : (s.clearDev a n).tb = s.tb := rfl
@[simp] theorem State.clearDev_ing (s : State) (a n : Nat) : (s.clearDev a n).ing = s.ing := rfl
@[simp] theorem State.clearDev_sitters (s : State) (a n : Nat) : (s.clearDev a n).sitters = s.sitters := rfl
@[simp] theorem State.clearDev_med (s : State) (a n : Nat) : (s.clearDev a n).med = s.med := rfl
@[simp] theorem State.clearDev_ateliers (s : State) (a n : Nat) : (s.clearDev a n).ateliers = s.ateliers := rfl
@[simp] theorem State.clearDev_parts (s : State) (a n : Nat) : (s.clearDev a n).parts = s.parts := rfl
@[simp] theorem State.clearDev_disps (s : State) (a n : Nat) : (s.clearDev a n).disps = s.disps := rfl
@[simp] theorem State.clearDev_easels (s : State) (a n : Nat) : (s.clearDev a n).easels = s.easels := rfl
@[simp] theorem State.clearDev_primers (s : State) (a n : Nat) : (s.clearDev a n).primers = s.primers := rfl
@[simp] theorem State.clearDev_lastLoan (s : State) (a n : Nat) : (s.clearDev a n).lastLoan = s.lastLoan := rfl
@[simp] theorem State.clearDev_pwr (s : State) (a n : Nat) : (s.clearDev a n).pwr = s.pwr := rfl
@[simp] theorem State.clearDev_sec (s : State) (a n : Nat) : (s.clearDev a n).sec = s.sec := rfl

@[simp] theorem State.setDoorbell_pending (s : State) (w : Nat) (d : Doorbell) : (s.setDoorbell w d).pending = s.pending := rfl
@[simp] theorem State.setDoorbell_free (s : State) (w : Nat) (d : Doorbell) : (s.setDoorbell w d).free = s.free := rfl
@[simp] theorem State.setDoorbell_clock (s : State) (w : Nat) (d : Doorbell) : (s.setDoorbell w d).clock = s.clock := rfl
@[simp] theorem State.setDoorbell_boot (s : State) (w : Nat) (d : Doorbell) : (s.setDoorbell w d).boot = s.boot := rfl
@[simp] theorem State.setDoorbell_board (s : State) (w : Nat) (d : Doorbell) : (s.setDoorbell w d).board = s.board := rfl
@[simp] theorem State.setDoorbell_pcie (s : State) (w : Nat) (d : Doorbell) : (s.setDoorbell w d).pcie = s.pcie := rfl
@[simp] theorem State.setDoorbell_tb (s : State) (w : Nat) (d : Doorbell) : (s.setDoorbell w d).tb = s.tb := rfl
@[simp] theorem State.setDoorbell_ing (s : State) (w : Nat) (d : Doorbell) : (s.setDoorbell w d).ing = s.ing := rfl
@[simp] theorem State.setDoorbell_sitters (s : State) (w : Nat) (d : Doorbell) : (s.setDoorbell w d).sitters = s.sitters := rfl
@[simp] theorem State.setDoorbell_med (s : State) (w : Nat) (d : Doorbell) : (s.setDoorbell w d).med = s.med := rfl
@[simp] theorem State.setDoorbell_ateliers (s : State) (w : Nat) (d : Doorbell) : (s.setDoorbell w d).ateliers = s.ateliers := rfl
@[simp] theorem State.setDoorbell_parts (s : State) (w : Nat) (d : Doorbell) : (s.setDoorbell w d).parts = s.parts := rfl
@[simp] theorem State.setDoorbell_disps (s : State) (w : Nat) (d : Doorbell) : (s.setDoorbell w d).disps = s.disps := rfl
@[simp] theorem State.setDoorbell_easels (s : State) (w : Nat) (d : Doorbell) : (s.setDoorbell w d).easels = s.easels := rfl
@[simp] theorem State.setDoorbell_primers (s : State) (w : Nat) (d : Doorbell) : (s.setDoorbell w d).primers = s.primers := rfl
@[simp] theorem State.setDoorbell_lastLoan (s : State) (w : Nat) (d : Doorbell) : (s.setDoorbell w d).lastLoan = s.lastLoan := rfl
@[simp] theorem State.setDoorbell_mem (s : State) (w : Nat) (d : Doorbell) : (s.setDoorbell w d).mem = s.mem := rfl
@[simp] theorem State.setDoorbell_pwr (s : State) (w : Nat) (d : Doorbell) : (s.setDoorbell w d).pwr = s.pwr := rfl
@[simp] theorem State.setDoorbell_sec (s : State) (w : Nat) (d : Doorbell) : (s.setDoorbell w d).sec = s.sec := rfl

@[simp] theorem State.raise_pending (s : State) (v : Nat) : (s.raise v).pending = s.pending := rfl
@[simp] theorem State.raise_free (s : State) (v : Nat) : (s.raise v).free = s.free := rfl
@[simp] theorem State.raise_clock (s : State) (v : Nat) : (s.raise v).clock = s.clock := rfl
@[simp] theorem State.raise_boot (s : State) (v : Nat) : (s.raise v).boot = s.boot := rfl
@[simp] theorem State.raise_board (s : State) (v : Nat) : (s.raise v).board = s.board := rfl
@[simp] theorem State.raise_host (s : State) (v : Nat) : (s.raise v).host = s.host := rfl
@[simp] theorem State.raise_tb (s : State) (v : Nat) : (s.raise v).tb = s.tb := rfl
@[simp] theorem State.raise_ing (s : State) (v : Nat) : (s.raise v).ing = s.ing := rfl
@[simp] theorem State.raise_sitters (s : State) (v : Nat) : (s.raise v).sitters = s.sitters := rfl
@[simp] theorem State.raise_med (s : State) (v : Nat) : (s.raise v).med = s.med := rfl
@[simp] theorem State.raise_ateliers (s : State) (v : Nat) : (s.raise v).ateliers = s.ateliers := rfl
@[simp] theorem State.raise_parts (s : State) (v : Nat) : (s.raise v).parts = s.parts := rfl
@[simp] theorem State.raise_disps (s : State) (v : Nat) : (s.raise v).disps = s.disps := rfl
@[simp] theorem State.raise_easels (s : State) (v : Nat) : (s.raise v).easels = s.easels := rfl
@[simp] theorem State.raise_primers (s : State) (v : Nat) : (s.raise v).primers = s.primers := rfl
@[simp] theorem State.raise_lastLoan (s : State) (v : Nat) : (s.raise v).lastLoan = s.lastLoan := rfl
@[simp] theorem State.raise_mem (s : State) (v : Nat) : (s.raise v).mem = s.mem := rfl
@[simp] theorem State.raise_pwr (s : State) (v : Nat) : (s.raise v).pwr = s.pwr := rfl
@[simp] theorem State.raise_sec (s : State) (v : Nat) : (s.raise v).sec = s.sec := rfl

@[simp] theorem State.countError_pending (s : State) (die array c : Nat) : (s.countError die array c).pending = s.pending := rfl
@[simp] theorem State.countError_free (s : State) (die array c : Nat) : (s.countError die array c).free = s.free := rfl
@[simp] theorem State.countError_clock (s : State) (die array c : Nat) : (s.countError die array c).clock = s.clock := rfl
@[simp] theorem State.countError_boot (s : State) (die array c : Nat) : (s.countError die array c).boot = s.boot := rfl
@[simp] theorem State.countError_board (s : State) (die array c : Nat) : (s.countError die array c).board = s.board := rfl
@[simp] theorem State.countError_pcie (s : State) (die array c : Nat) : (s.countError die array c).pcie = s.pcie := rfl
@[simp] theorem State.countError_host (s : State) (die array c : Nat) : (s.countError die array c).host = s.host := rfl
@[simp] theorem State.countError_tb (s : State) (die array c : Nat) : (s.countError die array c).tb = s.tb := rfl
@[simp] theorem State.countError_ing (s : State) (die array c : Nat) : (s.countError die array c).ing = s.ing := rfl
@[simp] theorem State.countError_sitters (s : State) (die array c : Nat) : (s.countError die array c).sitters = s.sitters := rfl
@[simp] theorem State.countError_med (s : State) (die array c : Nat) : (s.countError die array c).med = s.med := rfl
@[simp] theorem State.countError_ateliers (s : State) (die array c : Nat) : (s.countError die array c).ateliers = s.ateliers := rfl
@[simp] theorem State.countError_parts (s : State) (die array c : Nat) : (s.countError die array c).parts = s.parts := rfl
@[simp] theorem State.countError_disps (s : State) (die array c : Nat) : (s.countError die array c).disps = s.disps := rfl
@[simp] theorem State.countError_easels (s : State) (die array c : Nat) : (s.countError die array c).easels = s.easels := rfl
@[simp] theorem State.countError_primers (s : State) (die array c : Nat) : (s.countError die array c).primers = s.primers := rfl
@[simp] theorem State.countError_lastLoan (s : State) (die array c : Nat) : (s.countError die array c).lastLoan = s.lastLoan := rfl
@[simp] theorem State.countError_pwr (s : State) (die array c : Nat) : (s.countError die array c).pwr = s.pwr := rfl
@[simp] theorem State.countError_sec (s : State) (die array c : Nat) : (s.countError die array c).sec = s.sec := rfl

@[simp] theorem State.dropDisps_pending (s : State) (gone : Disp → Bool) : (s.dropDisps gone).pending = s.pending := rfl
@[simp] theorem State.dropDisps_free (s : State) (gone : Disp → Bool) : (s.dropDisps gone).free = s.free := rfl
@[simp] theorem State.dropDisps_clock (s : State) (gone : Disp → Bool) : (s.dropDisps gone).clock = s.clock := rfl
@[simp] theorem State.dropDisps_boot (s : State) (gone : Disp → Bool) : (s.dropDisps gone).boot = s.boot := rfl
@[simp] theorem State.dropDisps_board (s : State) (gone : Disp → Bool) : (s.dropDisps gone).board = s.board := rfl
@[simp] theorem State.dropDisps_pcie (s : State) (gone : Disp → Bool) : (s.dropDisps gone).pcie = s.pcie := rfl
@[simp] theorem State.dropDisps_host (s : State) (gone : Disp → Bool) : (s.dropDisps gone).host = s.host := rfl
@[simp] theorem State.dropDisps_tb (s : State) (gone : Disp → Bool) : (s.dropDisps gone).tb = s.tb := rfl
@[simp] theorem State.dropDisps_ing (s : State) (gone : Disp → Bool) : (s.dropDisps gone).ing = s.ing := rfl
@[simp] theorem State.dropDisps_sitters (s : State) (gone : Disp → Bool) : (s.dropDisps gone).sitters = s.sitters := rfl
@[simp] theorem State.dropDisps_med (s : State) (gone : Disp → Bool) : (s.dropDisps gone).med = s.med := rfl
@[simp] theorem State.dropDisps_ateliers (s : State) (gone : Disp → Bool) : (s.dropDisps gone).ateliers = s.ateliers := rfl
@[simp] theorem State.dropDisps_parts (s : State) (gone : Disp → Bool) : (s.dropDisps gone).parts = s.parts := rfl
@[simp] theorem State.dropDisps_easels (s : State) (gone : Disp → Bool) : (s.dropDisps gone).easels = s.easels := rfl
@[simp] theorem State.dropDisps_primers (s : State) (gone : Disp → Bool) : (s.dropDisps gone).primers = s.primers := rfl
@[simp] theorem State.dropDisps_lastLoan (s : State) (gone : Disp → Bool) : (s.dropDisps gone).lastLoan = s.lastLoan := rfl
@[simp] theorem State.dropDisps_mem (s : State) (gone : Disp → Bool) : (s.dropDisps gone).mem = s.mem := rfl
@[simp] theorem State.dropDisps_pwr (s : State) (gone : Disp → Bool) : (s.dropDisps gone).pwr = s.pwr := rfl
@[simp] theorem State.dropDisps_sec (s : State) (gone : Disp → Bool) : (s.dropDisps gone).sec = s.sec := rfl

@[simp] theorem State.pass_pending (s : State) (ns : Nat) : (s.pass ns).pending = s.pending := rfl
@[simp] theorem State.pass_free (s : State) (ns : Nat) : (s.pass ns).free = s.free := rfl
@[simp] theorem State.pass_boot (s : State) (ns : Nat) : (s.pass ns).boot = s.boot := rfl
@[simp] theorem State.pass_host (s : State) (ns : Nat) : (s.pass ns).host = s.host := rfl
@[simp] theorem State.pass_ing (s : State) (ns : Nat) : (s.pass ns).ing = s.ing := rfl
@[simp] theorem State.pass_sitters (s : State) (ns : Nat) : (s.pass ns).sitters = s.sitters := rfl
@[simp] theorem State.pass_med (s : State) (ns : Nat) : (s.pass ns).med = s.med := rfl
@[simp] theorem State.pass_ateliers (s : State) (ns : Nat) : (s.pass ns).ateliers = s.ateliers := rfl
@[simp] theorem State.pass_parts (s : State) (ns : Nat) : (s.pass ns).parts = s.parts := rfl
@[simp] theorem State.pass_disps (s : State) (ns : Nat) : (s.pass ns).disps = s.disps := rfl
@[simp] theorem State.pass_primers (s : State) (ns : Nat) : (s.pass ns).primers = s.primers := rfl
@[simp] theorem State.pass_lastLoan (s : State) (ns : Nat) : (s.pass ns).lastLoan = s.lastLoan := rfl
@[simp] theorem State.pass_mem (s : State) (ns : Nat) : (s.pass ns).mem = s.mem := rfl
@[simp] theorem State.pass_pwr (s : State) (ns : Nat) : (s.pass ns).pwr = s.pwr := rfl
@[simp] theorem State.pass_sec (s : State) (ns : Nat) : (s.pass ns).sec = s.sec := rfl

@[simp] theorem State.retire_pending (s : State) (e len : Nat) (E : Easel) : (s.retire e len E).pending = s.pending := rfl
@[simp] theorem State.retire_free (s : State) (e len : Nat) (E : Easel) : (s.retire e len E).free = s.free := rfl
@[simp] theorem State.retire_clock (s : State) (e len : Nat) (E : Easel) : (s.retire e len E).clock = s.clock := rfl
@[simp] theorem State.retire_boot (s : State) (e len : Nat) (E : Easel) : (s.retire e len E).boot = s.boot := rfl
@[simp] theorem State.retire_board (s : State) (e len : Nat) (E : Easel) : (s.retire e len E).board = s.board := rfl
@[simp] theorem State.retire_pcie (s : State) (e len : Nat) (E : Easel) : (s.retire e len E).pcie = s.pcie := rfl
@[simp] theorem State.retire_host (s : State) (e len : Nat) (E : Easel) : (s.retire e len E).host = s.host := rfl
@[simp] theorem State.retire_tb (s : State) (e len : Nat) (E : Easel) : (s.retire e len E).tb = s.tb := rfl
@[simp] theorem State.retire_ing (s : State) (e len : Nat) (E : Easel) : (s.retire e len E).ing = s.ing := rfl
@[simp] theorem State.retire_sitters (s : State) (e len : Nat) (E : Easel) : (s.retire e len E).sitters = s.sitters := rfl
@[simp] theorem State.retire_med (s : State) (e len : Nat) (E : Easel) : (s.retire e len E).med = s.med := rfl
@[simp] theorem State.retire_ateliers (s : State) (e len : Nat) (E : Easel) : (s.retire e len E).ateliers = s.ateliers := rfl
@[simp] theorem State.retire_parts (s : State) (e len : Nat) (E : Easel) : (s.retire e len E).parts = s.parts := rfl
@[simp] theorem State.retire_disps (s : State) (e len : Nat) (E : Easel) : (s.retire e len E).disps = s.disps := rfl
@[simp] theorem State.retire_primers (s : State) (e len : Nat) (E : Easel) : (s.retire e len E).primers = s.primers := rfl
@[simp] theorem State.retire_lastLoan (s : State) (e len : Nat) (E : Easel) : (s.retire e len E).lastLoan = s.lastLoan := rfl
@[simp] theorem State.retire_mem (s : State) (e len : Nat) (E : Easel) : (s.retire e len E).mem = s.mem := rfl
@[simp] theorem State.retire_pwr (s : State) (e len : Nat) (E : Easel) : (s.retire e len E).pwr = s.pwr := rfl
@[simp] theorem State.retire_sec (s : State) (e len : Nat) (E : Easel) : (s.retire e len E).sec = s.sec := rfl

@[simp] theorem State.pending_easel (s : State) (l : List Instr) (e : Nat) : ({ s with pending := l } : State).easel e = s.easel e := rfl
@[simp] theorem State.easel_setEasel_self (s : State) (e : Nat) (E : Easel) : (s.setEasel e E).easel e = E := tget_tset_self ..
theorem State.easel_setEasel_ne (s : State) {e k : Nat} (E : Easel) (h : k ≠ e) : (s.setEasel e E).easel k = s.easel k := tget_tset_ne _ _ _ h
@[simp] theorem State.part?_setPart_self (s : State) (p : Nat) (P : Part) : (s.setPart p P).part? p = some P := tfind_tinsert_self ..
theorem State.part?_setPart_ne (s : State) {p k : Nat} (P : Part) (h : k ≠ p) : (s.setPart p P).part? k = s.part? k := tfind_tinsert_ne _ _ h
@[simp] theorem State.sitter_setSitter_self (s : State) (n : Nat) (S : Sitter) : (s.setSitter n S).sitter n = S := tget_tset_self ..
theorem State.sitter_setSitter_ne (s : State) {n k : Nat} (S : Sitter) (h : k ≠ n) : (s.setSitter n S).sitter k = s.sitter k := tget_tset_ne _ _ _ h
@[simp] theorem State.queue_setQueue_self (s : State) (q : Nat) (Q : Queue) : (s.setQueue q Q).queue q = Q := tget_tset_self ..
theorem State.queue_setQueue_ne (s : State) {q k : Nat} (Q : Queue) (h : k ≠ q) : (s.setQueue q Q).queue k = s.queue k := tget_tset_ne _ _ _ h
@[simp] theorem State.ring_setRing_self (s : State) (r : Nat) (R : Ring) : (s.setRing r R).ring r = R := tget_tset_self ..
theorem State.ring_setRing_ne (s : State) {r k : Nat} (R : Ring) (h : k ≠ r) : (s.setRing r R).ring k = s.ring k := tget_tset_ne _ _ _ h
@[simp] theorem State.primer_setPrimer_self (s : State) (c : Nat) (l : List PrimerJob) : (s.setPrimer c l).primer c = l := tget_tset_self ..
@[simp] theorem State.doorbell_setDoorbell_self (s : State) (w : Nat) (d : Doorbell) : (s.setDoorbell w d).doorbell w = d := tget_tset_self ..
@[simp] theorem State.easel_retire_self (s : State) (e len : Nat) (E : Easel) : (s.retire e len E).easel e = { E with pc := E.pc + len } :=
  tget_tset_self ..
theorem State.easel_retire_ne (s : State) {e k : Nat} (len : Nat) (E : Easel) (h : k ≠ e) : (s.retire e len E).easel k = s.easel k :=
  tget_tset_ne _ _ _ h

/-! ### Registers (R150) -/

@[simp] theorem Easel.sr_zero (E : Easel) : E.sr 0 = 0 := rfl
@[simp] theorem Easel.setSr_zero (E : Easel) (v : U64) : E.setSr 0 v = E := rfl
theorem Easel.sr_setSr_self (E : Easel) {r : Nat} (v : U64) (h : r ≠ 0) : (E.setSr r v).sr r = v := by simp [Easel.setSr, Easel.sr, h]
theorem Easel.sr_setSr_ne (E : Easel) {r i : Nat} (v : U64) (h : i ≠ r) : (E.setSr r v).sr i = E.sr i := by
  by_cases hr : r = 0
  · simp [Easel.setSr, hr]
  · simp [Easel.setSr, Easel.sr, hr, tget_tset_ne _ _ _ h]
@[simp] theorem Easel.dr_setDr_self (E : Easel) (n : Nat) (v : BitVec 256) : (E.setDr n v).dr n = v := tget_tset_self ..
theorem Easel.dr_setDr_ne (E : Easel) {n i : Nat} (v : BitVec 256) (h : i ≠ n) : (E.setDr n v).dr i = E.dr i := tget_tset_ne _ _ _ h
@[simp] theorem Easel.pr_zero (E : Easel) : E.pr 0 = true := rfl
@[simp] theorem Easel.setSr_powered (E : Easel) (r : Nat) (v : U64) : (E.setSr r v).powered = E.powered := by unfold Easel.setSr; split <;> rfl
@[simp] theorem Easel.setSr_running (E : Easel) (r : Nat) (v : U64) : (E.setSr r v).running = E.running := by unfold Easel.setSr; split <;> rfl
@[simp] theorem Easel.setSr_stall (E : Easel) (r : Nat) (v : U64) : (E.setSr r v).stall = E.stall := by unfold Easel.setSr; split <;> rfl
@[simp] theorem Easel.setSr_pc (E : Easel) (r : Nat) (v : U64) : (E.setSr r v).pc = E.pc := by unfold Easel.setSr; split <;> rfl
@[simp] theorem Easel.setSr_p (E : Easel) (r : Nat) (v : U64) : (E.setSr r v).p = E.p := by unfold Easel.setSr; split <;> rfl
@[simp] theorem Easel.setSr_v (E : Easel) (r : Nat) (v : U64) : (E.setSr r v).v = E.v := by unfold Easel.setSr; split <;> rfl
@[simp] theorem Easel.setSr_d (E : Easel) (r : Nat) (v : U64) : (E.setSr r v).d = E.d := by unfold Easel.setSr; split <;> rfl
@[simp] theorem Easel.setSr_front (E : Easel) (r : Nat) (v : U64) : (E.setSr r v).front = E.front := by unfold Easel.setSr; split <;> rfl
@[simp] theorem Easel.setSr_back (E : Easel) (r : Nat) (v : U64) : (E.setSr r v).back = E.back := by unfold Easel.setSr; split <;> rfl
@[simp] theorem Easel.setSr_frontIx (E : Easel) (r : Nat) (v : U64) : (E.setSr r v).frontIx = E.frontIx := by unfold Easel.setSr; split <;> rfl
@[simp] theorem Easel.setSr_cvFlags (E : Easel) (r : Nat) (v : U64) : (E.setSr r v).cvFlags = E.cvFlags := by unfold Easel.setSr; split <;> rfl
@[simp] theorem Easel.setSr_cvCount (E : Easel) (r : Nat) (v : U64) : (E.setSr r v).cvCount = E.cvCount := by unfold Easel.setSr; split <;> rfl
@[simp] theorem Easel.setSr_plFlags (E : Easel) (r : Nat) (v : U64) : (E.setSr r v).plFlags = E.plFlags := by unfold Easel.setSr; split <;> rfl
@[simp] theorem Easel.setSr_prDone (E : Easel) (r : Nat) (v : U64) : (E.setSr r v).prDone = E.prDone := by unfold Easel.setSr; split <;> rfl
@[simp] theorem Easel.setSr_disp (E : Easel) (r : Nat) (v : U64) : (E.setSr r v).disp = E.disp := by unfold Easel.setSr; split <;> rfl
@[simp] theorem Easel.setSr_db (E : Easel) (r : Nat) (v : U64) : (E.setSr r v).db = E.db := by unfold Easel.setSr; split <;> rfl
@[simp] theorem Easel.setSr_dbMask (E : Easel) (r : Nat) (v : U64) : (E.setSr r v).dbMask = E.dbMask := by unfold Easel.setSr; split <;> rfl
@[simp] theorem Easel.setSr_mbx (E : Easel) (r : Nat) (v : U64) : (E.setSr r v).mbx = E.mbx := by unfold Easel.setSr; split <;> rfl
@[simp] theorem Easel.setSr_wdog (E : Easel) (r : Nat) (v : U64) : (E.setSr r v).wdog = E.wdog := by unfold Easel.setSr; split <;> rfl
@[simp] theorem Easel.setSr_wdogNs (E : Easel) (r : Nat) (v : U64) : (E.setSr r v).wdogNs = E.wdogNs := by unfold Easel.setSr; split <;> rfl
@[simp] theorem Easel.setSr_cycles (E : Easel) (r : Nat) (v : U64) : (E.setSr r v).cycles = E.cycles := by unfold Easel.setSr; split <;> rfl
@[simp] theorem Easel.setSr_spanCyc (E : Easel) (r : Nat) (v : U64) : (E.setSr r v).spanCyc = E.spanCyc := by unfold Easel.setSr; split <;> rfl
@[simp] theorem Easel.setSr_busyCyc (E : Easel) (r : Nat) (v : U64) : (E.setSr r v).busyCyc = E.busyCyc := by unfold Easel.setSr; split <;> rfl
@[simp] theorem Easel.setSr_lend (E : Easel) (r : Nat) (v : U64) : (E.setSr r v).lend = E.lend := by unfold Easel.setSr; split <;> rfl
@[simp] theorem Easel.setSr_user (E : Easel) (r : Nat) (v : U64) : (E.setSr r v).user = E.user := by unfold Easel.setSr; split <;> rfl
@[simp] theorem Easel.setSr_ls (E : Easel) (r : Nat) (v : U64) : (E.setSr r v).ls = E.ls := by unfold Easel.setSr; split <;> rfl
@[simp] theorem Easel.setSr_is (E : Easel) (r : Nat) (v : U64) : (E.setSr r v).is = E.is := by unfold Easel.setSr; split <;> rfl
@[simp] theorem Easel.setSr_tracks (E : Easel) (r : Nat) (v : U64) : (E.setSr r v).tracks = E.tracks := by unfold Easel.setSr; split <;> rfl
@[simp] theorem Easel.setSr_frontQ (E : Easel) (r : Nat) (v : U64) : (E.setSr r v).frontQ = E.frontQ := by unfold Easel.setSr; split <;> rfl
@[simp] theorem Easel.setSr_backQ (E : Easel) (r : Nat) (v : U64) : (E.setSr r v).backQ = E.backQ := by unfold Easel.setSr; split <;> rfl
@[simp] theorem Easel.setSr_palQ (E : Easel) (r : Nat) (v : U64) : (E.setSr r v).palQ = E.palQ := by unfold Easel.setSr; split <;> rfl
@[simp] theorem Easel.setSr_loan (E : Easel) (r : Nat) (v : U64) : (E.setSr r v).loan = E.loan := by unfold Easel.setSr; split <;> rfl
@[simp] theorem Easel.setSr_lastPart (E : Easel) (r : Nat) (v : U64) : (E.setSr r v).lastPart = E.lastPart := by unfold Easel.setSr; split <;> rfl
@[simp] theorem Easel.setSr_loanNs (E : Easel) (r : Nat) (v : U64) : (E.setSr r v).loanNs = E.loanNs := by unfold Easel.setSr; split <;> rfl
@[simp] theorem Easel.setPr_powered (E : Easel) (r : Nat) (v : Bool) : (E.setPr r v).powered = E.powered := by unfold Easel.setPr; split <;> rfl
@[simp] theorem Easel.setPr_running (E : Easel) (r : Nat) (v : Bool) : (E.setPr r v).running = E.running := by unfold Easel.setPr; split <;> rfl
@[simp] theorem Easel.setPr_stall (E : Easel) (r : Nat) (v : Bool) : (E.setPr r v).stall = E.stall := by unfold Easel.setPr; split <;> rfl
@[simp] theorem Easel.setPr_pc (E : Easel) (r : Nat) (v : Bool) : (E.setPr r v).pc = E.pc := by unfold Easel.setPr; split <;> rfl
@[simp] theorem Easel.setPr_s (E : Easel) (r : Nat) (v : Bool) : (E.setPr r v).s = E.s := by unfold Easel.setPr; split <;> rfl
@[simp] theorem Easel.setPr_v (E : Easel) (r : Nat) (v : Bool) : (E.setPr r v).v = E.v := by unfold Easel.setPr; split <;> rfl
@[simp] theorem Easel.setPr_d (E : Easel) (r : Nat) (v : Bool) : (E.setPr r v).d = E.d := by unfold Easel.setPr; split <;> rfl
@[simp] theorem Easel.setPr_front (E : Easel) (r : Nat) (v : Bool) : (E.setPr r v).front = E.front := by unfold Easel.setPr; split <;> rfl
@[simp] theorem Easel.setPr_back (E : Easel) (r : Nat) (v : Bool) : (E.setPr r v).back = E.back := by unfold Easel.setPr; split <;> rfl
@[simp] theorem Easel.setPr_frontIx (E : Easel) (r : Nat) (v : Bool) : (E.setPr r v).frontIx = E.frontIx := by unfold Easel.setPr; split <;> rfl
@[simp] theorem Easel.setPr_cvFlags (E : Easel) (r : Nat) (v : Bool) : (E.setPr r v).cvFlags = E.cvFlags := by unfold Easel.setPr; split <;> rfl
@[simp] theorem Easel.setPr_cvCount (E : Easel) (r : Nat) (v : Bool) : (E.setPr r v).cvCount = E.cvCount := by unfold Easel.setPr; split <;> rfl
@[simp] theorem Easel.setPr_plFlags (E : Easel) (r : Nat) (v : Bool) : (E.setPr r v).plFlags = E.plFlags := by unfold Easel.setPr; split <;> rfl
@[simp] theorem Easel.setPr_prDone (E : Easel) (r : Nat) (v : Bool) : (E.setPr r v).prDone = E.prDone := by unfold Easel.setPr; split <;> rfl
@[simp] theorem Easel.setPr_disp (E : Easel) (r : Nat) (v : Bool) : (E.setPr r v).disp = E.disp := by unfold Easel.setPr; split <;> rfl
@[simp] theorem Easel.setPr_db (E : Easel) (r : Nat) (v : Bool) : (E.setPr r v).db = E.db := by unfold Easel.setPr; split <;> rfl
@[simp] theorem Easel.setPr_dbMask (E : Easel) (r : Nat) (v : Bool) : (E.setPr r v).dbMask = E.dbMask := by unfold Easel.setPr; split <;> rfl
@[simp] theorem Easel.setPr_mbx (E : Easel) (r : Nat) (v : Bool) : (E.setPr r v).mbx = E.mbx := by unfold Easel.setPr; split <;> rfl
@[simp] theorem Easel.setPr_wdog (E : Easel) (r : Nat) (v : Bool) : (E.setPr r v).wdog = E.wdog := by unfold Easel.setPr; split <;> rfl
@[simp] theorem Easel.setPr_wdogNs (E : Easel) (r : Nat) (v : Bool) : (E.setPr r v).wdogNs = E.wdogNs := by unfold Easel.setPr; split <;> rfl
@[simp] theorem Easel.setPr_cycles (E : Easel) (r : Nat) (v : Bool) : (E.setPr r v).cycles = E.cycles := by unfold Easel.setPr; split <;> rfl
@[simp] theorem Easel.setPr_spanCyc (E : Easel) (r : Nat) (v : Bool) : (E.setPr r v).spanCyc = E.spanCyc := by unfold Easel.setPr; split <;> rfl
@[simp] theorem Easel.setPr_busyCyc (E : Easel) (r : Nat) (v : Bool) : (E.setPr r v).busyCyc = E.busyCyc := by unfold Easel.setPr; split <;> rfl
@[simp] theorem Easel.setPr_lend (E : Easel) (r : Nat) (v : Bool) : (E.setPr r v).lend = E.lend := by unfold Easel.setPr; split <;> rfl
@[simp] theorem Easel.setPr_user (E : Easel) (r : Nat) (v : Bool) : (E.setPr r v).user = E.user := by unfold Easel.setPr; split <;> rfl
@[simp] theorem Easel.setPr_ls (E : Easel) (r : Nat) (v : Bool) : (E.setPr r v).ls = E.ls := by unfold Easel.setPr; split <;> rfl
@[simp] theorem Easel.setPr_is (E : Easel) (r : Nat) (v : Bool) : (E.setPr r v).is = E.is := by unfold Easel.setPr; split <;> rfl
@[simp] theorem Easel.setPr_tracks (E : Easel) (r : Nat) (v : Bool) : (E.setPr r v).tracks = E.tracks := by unfold Easel.setPr; split <;> rfl
@[simp] theorem Easel.setPr_frontQ (E : Easel) (r : Nat) (v : Bool) : (E.setPr r v).frontQ = E.frontQ := by unfold Easel.setPr; split <;> rfl
@[simp] theorem Easel.setPr_backQ (E : Easel) (r : Nat) (v : Bool) : (E.setPr r v).backQ = E.backQ := by unfold Easel.setPr; split <;> rfl
@[simp] theorem Easel.setPr_palQ (E : Easel) (r : Nat) (v : Bool) : (E.setPr r v).palQ = E.palQ := by unfold Easel.setPr; split <;> rfl
@[simp] theorem Easel.setPr_loan (E : Easel) (r : Nat) (v : Bool) : (E.setPr r v).loan = E.loan := by unfold Easel.setPr; split <;> rfl
@[simp] theorem Easel.setPr_lastPart (E : Easel) (r : Nat) (v : Bool) : (E.setPr r v).lastPart = E.lastPart := by unfold Easel.setPr; split <;> rfl
@[simp] theorem Easel.setPr_loanNs (E : Easel) (r : Nat) (v : Bool) : (E.setPr r v).loanNs = E.loanNs := by unfold Easel.setPr; split <;> rfl
@[simp] theorem Easel.setDr_powered (E : Easel) (r : Nat) (v : BitVec 256) : (E.setDr r v).powered = E.powered := rfl
@[simp] theorem Easel.setDr_running (E : Easel) (r : Nat) (v : BitVec 256) : (E.setDr r v).running = E.running := rfl
@[simp] theorem Easel.setDr_stall (E : Easel) (r : Nat) (v : BitVec 256) : (E.setDr r v).stall = E.stall := rfl
@[simp] theorem Easel.setDr_pc (E : Easel) (r : Nat) (v : BitVec 256) : (E.setDr r v).pc = E.pc := rfl
@[simp] theorem Easel.setDr_s (E : Easel) (r : Nat) (v : BitVec 256) : (E.setDr r v).s = E.s := rfl
@[simp] theorem Easel.setDr_p (E : Easel) (r : Nat) (v : BitVec 256) : (E.setDr r v).p = E.p := rfl
@[simp] theorem Easel.setDr_v (E : Easel) (r : Nat) (v : BitVec 256) : (E.setDr r v).v = E.v := rfl
@[simp] theorem Easel.setDr_front (E : Easel) (r : Nat) (v : BitVec 256) : (E.setDr r v).front = E.front := rfl
@[simp] theorem Easel.setDr_back (E : Easel) (r : Nat) (v : BitVec 256) : (E.setDr r v).back = E.back := rfl
@[simp] theorem Easel.setDr_frontIx (E : Easel) (r : Nat) (v : BitVec 256) : (E.setDr r v).frontIx = E.frontIx := rfl
@[simp] theorem Easel.setDr_cvFlags (E : Easel) (r : Nat) (v : BitVec 256) : (E.setDr r v).cvFlags = E.cvFlags := rfl
@[simp] theorem Easel.setDr_cvCount (E : Easel) (r : Nat) (v : BitVec 256) : (E.setDr r v).cvCount = E.cvCount := rfl
@[simp] theorem Easel.setDr_plFlags (E : Easel) (r : Nat) (v : BitVec 256) : (E.setDr r v).plFlags = E.plFlags := rfl
@[simp] theorem Easel.setDr_prDone (E : Easel) (r : Nat) (v : BitVec 256) : (E.setDr r v).prDone = E.prDone := rfl
@[simp] theorem Easel.setDr_disp (E : Easel) (r : Nat) (v : BitVec 256) : (E.setDr r v).disp = E.disp := rfl
@[simp] theorem Easel.setDr_db (E : Easel) (r : Nat) (v : BitVec 256) : (E.setDr r v).db = E.db := rfl
@[simp] theorem Easel.setDr_dbMask (E : Easel) (r : Nat) (v : BitVec 256) : (E.setDr r v).dbMask = E.dbMask := rfl
@[simp] theorem Easel.setDr_mbx (E : Easel) (r : Nat) (v : BitVec 256) : (E.setDr r v).mbx = E.mbx := rfl
@[simp] theorem Easel.setDr_wdog (E : Easel) (r : Nat) (v : BitVec 256) : (E.setDr r v).wdog = E.wdog := rfl
@[simp] theorem Easel.setDr_wdogNs (E : Easel) (r : Nat) (v : BitVec 256) : (E.setDr r v).wdogNs = E.wdogNs := rfl
@[simp] theorem Easel.setDr_cycles (E : Easel) (r : Nat) (v : BitVec 256) : (E.setDr r v).cycles = E.cycles := rfl
@[simp] theorem Easel.setDr_spanCyc (E : Easel) (r : Nat) (v : BitVec 256) : (E.setDr r v).spanCyc = E.spanCyc := rfl
@[simp] theorem Easel.setDr_busyCyc (E : Easel) (r : Nat) (v : BitVec 256) : (E.setDr r v).busyCyc = E.busyCyc := rfl
@[simp] theorem Easel.setDr_lend (E : Easel) (r : Nat) (v : BitVec 256) : (E.setDr r v).lend = E.lend := rfl
@[simp] theorem Easel.setDr_user (E : Easel) (r : Nat) (v : BitVec 256) : (E.setDr r v).user = E.user := rfl
@[simp] theorem Easel.setDr_ls (E : Easel) (r : Nat) (v : BitVec 256) : (E.setDr r v).ls = E.ls := rfl
@[simp] theorem Easel.setDr_is (E : Easel) (r : Nat) (v : BitVec 256) : (E.setDr r v).is = E.is := rfl
@[simp] theorem Easel.setDr_tracks (E : Easel) (r : Nat) (v : BitVec 256) : (E.setDr r v).tracks = E.tracks := rfl
@[simp] theorem Easel.setDr_frontQ (E : Easel) (r : Nat) (v : BitVec 256) : (E.setDr r v).frontQ = E.frontQ := rfl
@[simp] theorem Easel.setDr_backQ (E : Easel) (r : Nat) (v : BitVec 256) : (E.setDr r v).backQ = E.backQ := rfl
@[simp] theorem Easel.setDr_palQ (E : Easel) (r : Nat) (v : BitVec 256) : (E.setDr r v).palQ = E.palQ := rfl
@[simp] theorem Easel.setDr_loan (E : Easel) (r : Nat) (v : BitVec 256) : (E.setDr r v).loan = E.loan := rfl
@[simp] theorem Easel.setDr_lastPart (E : Easel) (r : Nat) (v : BitVec 256) : (E.setDr r v).lastPart = E.lastPart := rfl
@[simp] theorem Easel.setDr_loanNs (E : Easel) (r : Nat) (v : BitVec 256) : (E.setDr r v).loanNs = E.loanNs := rfl
@[simp] theorem Easel.setVr_powered (E : Easel) (r : Nat) (l : Lanes) : (E.setVr r l).powered = E.powered := rfl
@[simp] theorem Easel.setVr_running (E : Easel) (r : Nat) (l : Lanes) : (E.setVr r l).running = E.running := rfl
@[simp] theorem Easel.setVr_stall (E : Easel) (r : Nat) (l : Lanes) : (E.setVr r l).stall = E.stall := rfl
@[simp] theorem Easel.setVr_pc (E : Easel) (r : Nat) (l : Lanes) : (E.setVr r l).pc = E.pc := rfl
@[simp] theorem Easel.setVr_s (E : Easel) (r : Nat) (l : Lanes) : (E.setVr r l).s = E.s := rfl
@[simp] theorem Easel.setVr_p (E : Easel) (r : Nat) (l : Lanes) : (E.setVr r l).p = E.p := rfl
@[simp] theorem Easel.setVr_d (E : Easel) (r : Nat) (l : Lanes) : (E.setVr r l).d = E.d := rfl
@[simp] theorem Easel.setVr_front (E : Easel) (r : Nat) (l : Lanes) : (E.setVr r l).front = E.front := rfl
@[simp] theorem Easel.setVr_back (E : Easel) (r : Nat) (l : Lanes) : (E.setVr r l).back = E.back := rfl
@[simp] theorem Easel.setVr_frontIx (E : Easel) (r : Nat) (l : Lanes) : (E.setVr r l).frontIx = E.frontIx := rfl
@[simp] theorem Easel.setVr_cvFlags (E : Easel) (r : Nat) (l : Lanes) : (E.setVr r l).cvFlags = E.cvFlags := rfl
@[simp] theorem Easel.setVr_cvCount (E : Easel) (r : Nat) (l : Lanes) : (E.setVr r l).cvCount = E.cvCount := rfl
@[simp] theorem Easel.setVr_plFlags (E : Easel) (r : Nat) (l : Lanes) : (E.setVr r l).plFlags = E.plFlags := rfl
@[simp] theorem Easel.setVr_prDone (E : Easel) (r : Nat) (l : Lanes) : (E.setVr r l).prDone = E.prDone := rfl
@[simp] theorem Easel.setVr_disp (E : Easel) (r : Nat) (l : Lanes) : (E.setVr r l).disp = E.disp := rfl
@[simp] theorem Easel.setVr_db (E : Easel) (r : Nat) (l : Lanes) : (E.setVr r l).db = E.db := rfl
@[simp] theorem Easel.setVr_dbMask (E : Easel) (r : Nat) (l : Lanes) : (E.setVr r l).dbMask = E.dbMask := rfl
@[simp] theorem Easel.setVr_mbx (E : Easel) (r : Nat) (l : Lanes) : (E.setVr r l).mbx = E.mbx := rfl
@[simp] theorem Easel.setVr_wdog (E : Easel) (r : Nat) (l : Lanes) : (E.setVr r l).wdog = E.wdog := rfl
@[simp] theorem Easel.setVr_wdogNs (E : Easel) (r : Nat) (l : Lanes) : (E.setVr r l).wdogNs = E.wdogNs := rfl
@[simp] theorem Easel.setVr_cycles (E : Easel) (r : Nat) (l : Lanes) : (E.setVr r l).cycles = E.cycles := rfl
@[simp] theorem Easel.setVr_spanCyc (E : Easel) (r : Nat) (l : Lanes) : (E.setVr r l).spanCyc = E.spanCyc := rfl
@[simp] theorem Easel.setVr_busyCyc (E : Easel) (r : Nat) (l : Lanes) : (E.setVr r l).busyCyc = E.busyCyc := rfl
@[simp] theorem Easel.setVr_lend (E : Easel) (r : Nat) (l : Lanes) : (E.setVr r l).lend = E.lend := rfl
@[simp] theorem Easel.setVr_user (E : Easel) (r : Nat) (l : Lanes) : (E.setVr r l).user = E.user := rfl
@[simp] theorem Easel.setVr_ls (E : Easel) (r : Nat) (l : Lanes) : (E.setVr r l).ls = E.ls := rfl
@[simp] theorem Easel.setVr_is (E : Easel) (r : Nat) (l : Lanes) : (E.setVr r l).is = E.is := rfl
@[simp] theorem Easel.setVr_tracks (E : Easel) (r : Nat) (l : Lanes) : (E.setVr r l).tracks = E.tracks := rfl
@[simp] theorem Easel.setVr_frontQ (E : Easel) (r : Nat) (l : Lanes) : (E.setVr r l).frontQ = E.frontQ := rfl
@[simp] theorem Easel.setVr_backQ (E : Easel) (r : Nat) (l : Lanes) : (E.setVr r l).backQ = E.backQ := rfl
@[simp] theorem Easel.setVr_palQ (E : Easel) (r : Nat) (l : Lanes) : (E.setVr r l).palQ = E.palQ := rfl
@[simp] theorem Easel.setVr_loan (E : Easel) (r : Nat) (l : Lanes) : (E.setVr r l).loan = E.loan := rfl
@[simp] theorem Easel.setVr_lastPart (E : Easel) (r : Nat) (l : Lanes) : (E.setVr r l).lastPart = E.lastPart := rfl
@[simp] theorem Easel.setVr_loanNs (E : Easel) (r : Nat) (l : Lanes) : (E.setVr r l).loanNs = E.loanNs := rfl
@[simp] theorem Easel.wrLs_powered (E : Easel) (l : List (Nat × Byte)) : (E.wrLs l).powered = E.powered := rfl
@[simp] theorem Easel.wrLs_running (E : Easel) (l : List (Nat × Byte)) : (E.wrLs l).running = E.running := rfl
@[simp] theorem Easel.wrLs_stall (E : Easel) (l : List (Nat × Byte)) : (E.wrLs l).stall = E.stall := rfl
@[simp] theorem Easel.wrLs_pc (E : Easel) (l : List (Nat × Byte)) : (E.wrLs l).pc = E.pc := rfl
@[simp] theorem Easel.wrLs_s (E : Easel) (l : List (Nat × Byte)) : (E.wrLs l).s = E.s := rfl
@[simp] theorem Easel.wrLs_p (E : Easel) (l : List (Nat × Byte)) : (E.wrLs l).p = E.p := rfl
@[simp] theorem Easel.wrLs_v (E : Easel) (l : List (Nat × Byte)) : (E.wrLs l).v = E.v := rfl
@[simp] theorem Easel.wrLs_d (E : Easel) (l : List (Nat × Byte)) : (E.wrLs l).d = E.d := rfl
@[simp] theorem Easel.wrLs_front (E : Easel) (l : List (Nat × Byte)) : (E.wrLs l).front = E.front := rfl
@[simp] theorem Easel.wrLs_back (E : Easel) (l : List (Nat × Byte)) : (E.wrLs l).back = E.back := rfl
@[simp] theorem Easel.wrLs_frontIx (E : Easel) (l : List (Nat × Byte)) : (E.wrLs l).frontIx = E.frontIx := rfl
@[simp] theorem Easel.wrLs_cvFlags (E : Easel) (l : List (Nat × Byte)) : (E.wrLs l).cvFlags = E.cvFlags := rfl
@[simp] theorem Easel.wrLs_cvCount (E : Easel) (l : List (Nat × Byte)) : (E.wrLs l).cvCount = E.cvCount := rfl
@[simp] theorem Easel.wrLs_plFlags (E : Easel) (l : List (Nat × Byte)) : (E.wrLs l).plFlags = E.plFlags := rfl
@[simp] theorem Easel.wrLs_prDone (E : Easel) (l : List (Nat × Byte)) : (E.wrLs l).prDone = E.prDone := rfl
@[simp] theorem Easel.wrLs_disp (E : Easel) (l : List (Nat × Byte)) : (E.wrLs l).disp = E.disp := rfl
@[simp] theorem Easel.wrLs_db (E : Easel) (l : List (Nat × Byte)) : (E.wrLs l).db = E.db := rfl
@[simp] theorem Easel.wrLs_dbMask (E : Easel) (l : List (Nat × Byte)) : (E.wrLs l).dbMask = E.dbMask := rfl
@[simp] theorem Easel.wrLs_mbx (E : Easel) (l : List (Nat × Byte)) : (E.wrLs l).mbx = E.mbx := rfl
@[simp] theorem Easel.wrLs_wdog (E : Easel) (l : List (Nat × Byte)) : (E.wrLs l).wdog = E.wdog := rfl
@[simp] theorem Easel.wrLs_wdogNs (E : Easel) (l : List (Nat × Byte)) : (E.wrLs l).wdogNs = E.wdogNs := rfl
@[simp] theorem Easel.wrLs_cycles (E : Easel) (l : List (Nat × Byte)) : (E.wrLs l).cycles = E.cycles := rfl
@[simp] theorem Easel.wrLs_spanCyc (E : Easel) (l : List (Nat × Byte)) : (E.wrLs l).spanCyc = E.spanCyc := rfl
@[simp] theorem Easel.wrLs_busyCyc (E : Easel) (l : List (Nat × Byte)) : (E.wrLs l).busyCyc = E.busyCyc := rfl
@[simp] theorem Easel.wrLs_lend (E : Easel) (l : List (Nat × Byte)) : (E.wrLs l).lend = E.lend := rfl
@[simp] theorem Easel.wrLs_user (E : Easel) (l : List (Nat × Byte)) : (E.wrLs l).user = E.user := rfl
@[simp] theorem Easel.wrLs_is (E : Easel) (l : List (Nat × Byte)) : (E.wrLs l).is = E.is := rfl
@[simp] theorem Easel.wrLs_tracks (E : Easel) (l : List (Nat × Byte)) : (E.wrLs l).tracks = E.tracks := rfl
@[simp] theorem Easel.wrLs_frontQ (E : Easel) (l : List (Nat × Byte)) : (E.wrLs l).frontQ = E.frontQ := rfl
@[simp] theorem Easel.wrLs_backQ (E : Easel) (l : List (Nat × Byte)) : (E.wrLs l).backQ = E.backQ := rfl
@[simp] theorem Easel.wrLs_palQ (E : Easel) (l : List (Nat × Byte)) : (E.wrLs l).palQ = E.palQ := rfl
@[simp] theorem Easel.wrLs_loan (E : Easel) (l : List (Nat × Byte)) : (E.wrLs l).loan = E.loan := rfl
@[simp] theorem Easel.wrLs_lastPart (E : Easel) (l : List (Nat × Byte)) : (E.wrLs l).lastPart = E.lastPart := rfl
@[simp] theorem Easel.wrLs_loanNs (E : Easel) (l : List (Nat × Byte)) : (E.wrLs l).loanNs = E.loanNs := rfl

end Sys2Proof.Machine
end

