-- ==== Sys2Proof/Laws/Memory.lean ====
section
/-!
SUPPORT. The canonical form of every byte memory (`MemInv`) under the named operations, and what those operations leave of device memory.
-/
namespace Sys2Proof.Machine

/-- Reset lists nothing in any memory. -/
theorem MemInv_reset : MemInv State.reset := by
  refine ⟨rfl, rfl, rfl, ?_⟩
  intro x hx
  cases hx

/-- A state with the same memories keeps the form. -/
theorem MemInv_of_eq {s t : State} (h : MemInv s) (h1 : t.mem.dev = s.mem.dev) (h2 : t.pcie.hostMem = s.pcie.hostMem) (h3 : t.boot.flash = s.boot.flash)
    (h4 : t.easels = s.easels) : MemInv t := by
  unfold MemInv at *
  rw [h1, h2, h3, h4]
  exact h

/-- The memories of an Easel have their form. -/
def EaselInv (E : Easel) : Prop := Memory.wf 0 E.ls = true ∧ Memory.wf 0 E.is = true

theorem MemInv_easel {s : State} (h : MemInv s) (e : Nat) : EaselInv (s.easel e) := by
  have key : ∀ l : Tbl Easel, (∀ x ∈ l, Memory.wf 0 x.2.ls = true ∧ Memory.wf 0 x.2.is = true) → EaselInv (tget {} l e) := by
    intro l
    induction l with
    | nil => intro _; exact ⟨rfl, rfl⟩
    | cons x l ih =>
      obtain ⟨j, E⟩ := x
      intro hl
      by_cases hj : j = e
      · simp only [tget, hj, if_true]
        exact hl (j, E) (List.mem_cons_self ..)
      · simp only [tget, hj, if_false]
        exact ih (fun x hx => hl x (List.mem_cons_of_mem _ hx))
  exact key s.easels h.2.2.2

theorem MemInv_setEasel {s : State} (h : MemInv s) (e : Nat) {E : Easel} (hE : EaselInv E) : MemInv (s.setEasel e E) := by
  obtain ⟨h1, h2, h3, h5⟩ := h
  refine ⟨h1, h2, h3, ?_⟩
  intro x hx
  simp only [State.setEasel, tset] at hx
  split at hx
  · exact h5 x (mem_terase hx)
  · rcases mem_tinsert hx with rfl | hx
    · exact hE
    · exact h5 x hx

/-- An Easel changed in registers only. -/
theorem MemInv_setEasel_regs {s : State} (h : MemInv s) (e : Nat) {E : Easel} (h1 : E.ls = (s.easel e).ls) (h2 : E.is = (s.easel e).is) :
    MemInv (s.setEasel e E) := by
  obtain ⟨a, b⟩ := MemInv_easel h e
  exact MemInv_setEasel h e ⟨h1 ▸ a, h2 ▸ b⟩

theorem EaselInv_wrLs {E : Easel} (h : EaselInv E) (l : List (Nat × Byte)) : EaselInv (E.wrLs l) := ⟨wf_mwriteL h.1, h.2⟩

theorem MemInv_retire {s : State} (h : MemInv s) (e len : Nat) {E : Easel} (hE : EaselInv E) : MemInv (s.retire e len E) :=
  MemInv_setEasel h e ⟨hE.1, hE.2⟩

theorem MemInv_setDev {s : State} (h : MemInv s) (l : List (Nat × Byte)) : MemInv (s.setDev l) := ⟨wf_mwriteL h.1, h.2⟩
theorem MemInv_setDevN {s : State} (h : MemInv s) (a : Nat) (b : List Byte) : MemInv (s.setDevN a b) := ⟨wf_mwriteN h.1, h.2⟩
theorem MemInv_clearDev {s : State} (h : MemInv s) (a n : Nat) : MemInv (s.clearDev a n) := ⟨wf_mclear h.1, h.2⟩
theorem MemInv_hostWrite {s : State} (h : MemInv s) (a : Nat) (b : List Byte) : MemInv (s.hostWrite a b) := ⟨h.1, wf_mwriteN h.2.1, h.2.2⟩
theorem MemInv_flash {s : State} (h : MemInv s) {c : Cells} (hc : Memory.wf 0xFF c = true) : MemInv { s with boot := { s.boot with flash := c } } :=
  ⟨h.1, h.2.1, hc, h.2.2.2⟩

/-! Operations that touch no byte memory -/

theorem MemInv_setPart {s : State} (h : MemInv s) (p : Nat) (P : Part) : MemInv (s.setPart p P) := MemInv_of_eq h rfl rfl rfl rfl
theorem MemInv_setSitter {s : State} (h : MemInv s) (n : Nat) (S : Sitter) : MemInv (s.setSitter n S) := MemInv_of_eq h rfl rfl rfl rfl
theorem MemInv_setQueue {s : State} (h : MemInv s) (q : Nat) (Q : Queue) : MemInv (s.setQueue q Q) := MemInv_of_eq h rfl rfl rfl rfl
theorem MemInv_setRing {s : State} (h : MemInv s) (r : Nat) (R : Ring) : MemInv (s.setRing r R) := MemInv_of_eq h rfl rfl rfl rfl
theorem MemInv_setPrimer {s : State} (h : MemInv s) (c : Nat) (l : List PrimerJob) : MemInv (s.setPrimer c l) := MemInv_of_eq h rfl rfl rfl rfl
theorem MemInv_setDoorbell {s : State} (h : MemInv s) (w : Nat) (d : Doorbell) : MemInv (s.setDoorbell w d) := MemInv_of_eq h rfl rfl rfl rfl
theorem MemInv_raise {s : State} (h : MemInv s) (v : Nat) : MemInv (s.raise v) := MemInv_of_eq h rfl rfl rfl rfl
theorem MemInv_draw {s : State} (h : MemInv s) : MemInv s.draw.2 := MemInv_of_eq h rfl rfl rfl rfl
theorem MemInv_updCmd {s : State} (h : MemInv s) (q : Nat) (p : Cmd → Bool) (f : Cmd → Cmd) : MemInv (s.updCmd q p f) := MemInv_of_eq h rfl rfl rfl rfl
theorem MemInv_answer {s : State} (h : MemInv s) (q : Nat) (n : U32) (status result : Nat) : MemInv (s.answer q n status result) := MemInv_updCmd h _ _ _
theorem MemInv_countError {s : State} (h : MemInv s) (die array c : Nat) : MemInv (s.countError die array c) := MemInv_of_eq h rfl rfl rfl rfl

theorem MemInv_dropDisps {s : State} (h : MemInv s) (gone : Disp → Bool) : MemInv (s.dropDisps gone) := MemInv_of_eq h rfl rfl rfl rfl

theorem MemInv_ringHost {s : State} (h : MemInv s) (w : Nat) (b : U32) : MemInv (s.ringHost w b) := by
  unfold State.ringHost
  dsimp only
  split
  · exact MemInv_raise (MemInv_setDoorbell h _ _) _
  · exact MemInv_setDoorbell h _ _

theorem MemInv_ringDevice {s : State} (h : MemInv s) (bit : Nat) : MemInv (s.ringDevice bit) := MemInv_ringHost h _ _

theorem MemInv_logError {s : State} (h : MemInv s) (r : List Byte) : MemInv (s.logError r) := by
  unfold State.logError
  refine MemInv_ringDevice (MemInv_of_eq (s := s) h ?_ ?_ ?_ ?_) _ <;> rfl

theorem MemInv_partFault {s : State} (h : MemInv s) (p : Nat) (c : PartCause) : MemInv (s.partFault p c) := by
  unfold State.partFault
  split
  · exact h
  · split
    · exact MemInv_setPart h _ _
    · exact MemInv_setPart h _ _
    · exact MemInv_setPart h _ _
    · exact h

/-- A fold of an operation that keeps the form keeps it. -/
theorem MemInv_foldl {α : Type} {f : State → α → State} (hf : ∀ s a, MemInv s → MemInv (f s a)) (l : List α) {s : State} (h : MemInv s) :
    MemInv (l.foldl f s) := by
  induction l generalizing s with
  | nil => exact h
  | cons a l ih => exact ih (hf s a h)

theorem MemInv_abandonPut {s : State} (h : MemInv s) (E : Easel) (o : TrackOp) : MemInv (s.abandonPut E o) :=
  MemInv_of_eq (MemInv_setDev h _) rfl rfl rfl rfl

theorem MemInv_stopJob {s : State} (h : MemInv s) (j : PrimerJob) : MemInv (s.stopJob j) := by
  unfold State.stopJob
  dsimp only
  split
  · exact h
  · split
    · exact MemInv_setEasel (MemInv_draw h) _ (EaselInv_wrLs (MemInv_easel (MemInv_draw h) _) _)
    · exact MemInv_setDev (MemInv_draw h) _

theorem MemInv_abandon {s : State} (h : MemInv s) (e : Nat) : MemInv (s.abandon e) := by
  unfold State.abandon
  dsimp only
  have h1 : MemInv ((((s.easel e).tracks.flatMap (·.2)).filter (·.put)).foldl (fun t o => t.abandonPut (s.easel e) o) s) :=
    MemInv_foldl (fun _ o hs => MemInv_abandonPut hs _ o) _ h
  refine MemInv_setPrimer (MemInv_setEasel_regs (MemInv_foldl (fun _ j hs => MemInv_stopJob hs j) _ h1) e ?_ ?_) _ _ <;> rfl

theorem MemInv_endLoan {s : State} (h : MemInv s) (e : Nat) : MemInv (s.endLoan e) := by
  unfold State.endLoan
  split
  · exact h
  · have ha := MemInv_abandon h e
    generalize s.abandon e = s1 at ha
    have hE := MemInv_easel ha e
    dsimp only
    split
    · exact MemInv_dropDisps (MemInv_setEasel ha e ⟨wf_mclear hE.1, wf_mclear hE.2⟩) _
    · refine MemInv_setPart (MemInv_dropDisps (MemInv_setEasel ha e ?_) _) _ _
      exact ⟨wf_mclear hE.1, wf_mclear hE.2⟩

theorem MemInv_easelFaultAt {s : State} (h : MemInv s) (e pc cause insn addr detail : Nat) : MemInv (s.easelFaultAt e pc cause insn addr detail) := by
  have ha := MemInv_abandon h e
  unfold State.easelFaultAt
  dsimp only
  generalize s.abandon e = s1 at ha
  have hb := MemInv_setEasel ha e (E := { s1.easel e with running := false, stall := .none }) (MemInv_easel ha e)
  refine MemInv_partFault ?_ _ _
  split
  · exact MemInv_endLoan hb e
  · exact hb

theorem MemInv_easelFault {s : State} (h : MemInv s) (e cause insn addr detail : Nat) : MemInv (s.easelFault e cause insn addr detail) :=
  MemInv_easelFaultAt h e _ cause insn addr detail

/-- Shifting the addresses of a part of a memory down keeps the form. -/
theorem wf_shift {d : Byte} {c : Cells} (lo hi to_ : Nat) (h : Memory.wf d c = true) :
    Memory.wf d ((c.filter (fun x => lo ≤ x.1 && x.1 < hi)).map (fun x => (x.1 - lo + to_, x.2))) = true := by
  induction c with
  | nil => rfl
  | cons x c ih =>
    obtain ⟨j, v⟩ := x
    obtain ⟨hv, hlt, hc⟩ := (tsorted_cons d j v c).mp h
    by_cases hj : (decide (lo ≤ j) && decide (j < hi)) = true
    · simp only [List.filter_cons, hj, if_true, List.map_cons]
      refine (tsorted_cons _ _ _ _).mpr ⟨hv, ?_, ih hc⟩
      intro y hy
      simp only [List.mem_map, List.mem_filter] at hy
      obtain ⟨z, ⟨hz, hzb⟩, rfl⟩ := hy
      have := hlt z hz
      simp only [Bool.and_eq_true, decide_eq_true_eq] at hj hzb
      show j - lo + to_ < z.1 - lo + to_
      omega
    · simp only [List.filter_cons, hj]
      exact ih hc

theorem wf_firmwareCells {s : State} (h : MemInv s) : Memory.wf 0 s.firmwareCells = true := wf_shift _ _ _ h.1

/-! ### What reads see after a write of device memory -/

@[simp] theorem dev_setEasel (s : State) (e : Nat) (E : Easel) (a : Nat) : (s.setEasel e E).dev a = s.dev a := rfl
@[simp] theorem dev_setPart (s : State) (p : Nat) (P : Part) (a : Nat) : (s.setPart p P).dev a = s.dev a := rfl
@[simp] theorem dev_setSitter (s : State) (n : Nat) (S : Sitter) (a : Nat) : (s.setSitter n S).dev a = s.dev a := rfl

theorem dev_setDevN_out {s : State} {a x : Nat} {b : List Byte} (h : x < a ∨ a + b.length ≤ x) : (s.setDevN a b).dev x = s.dev x := mread_mwriteN_out h
theorem dev_setDevN_in {s : State} {a i : Nat} {b : List Byte} (h : i < b.length) : (s.setDevN a b).dev (a + i) = b[i] := mread_mwriteN_in h
theorem dev_setDev_out {s : State} {x : Nat} {l : List (Nat × Byte)} (h : ∀ y ∈ l, y.1 ≠ x) : (s.setDev l).dev x = s.dev x := mread_mwriteL_out h
theorem dev_clearDev_in {s : State} {a n x : Nat} (h : a ≤ x ∧ x < a + n) : (s.clearDev a n).dev x = 0 := mread_mclear_in h
theorem dev_clearDev_out {s : State} {a n x : Nat} (h : x < a ∨ a + n ≤ x) : (s.clearDev a n).dev x = s.dev x := mread_mclear_out h

end Sys2Proof.Machine
end

