-- ==== Sys2Proof/Laws/Ops.lean ====
section
/-!
SUPPORT. What each shared operation can do, said once: the issue of an Easel's instruction, the run of a host command, and a check of a unit's
number.
-/
namespace Sys2Proof.Machine

theorem CanFetch_of_CanIssue {s : State} {e len : Nat} {u : Uses} (h : CanIssue s e len u) : CanFetch s e len := h.1

/-- An instruction that can issue has its effect. -/
theorem issue_next {s : State} {e len insn : Nat} {u : Uses} {f : Easel → State} (h : CanIssue s e len u) :
    issue e len insn true u s f = .next (f (s.easel e)) := by
  obtain ⟨⟨h1, h2, h3, h4, h5, h6⟩, h7⟩ := h
  have h8 : ¬ 192 ≤ e := by omega
  have h9 : ¬ (s.easel e).codeLimit < (s.easel e).pc + len := by omega
  simp [issue, h2, h3, h4, h6, h7, h8, h9]

theorem issueReg_next {s : State} {e len insn : Nat} {u : Uses} {f : Easel → Easel} (h : CanIssue s e len u) :
    issueReg e len insn true u s f = .next (s.retire e len (f (s.easel e))) := issue_next h

/-- An instruction of a word that is no instruction faults (R159). -/
theorem issue_illegal {s : State} {e len insn : Nat} {u : Uses} {f : Easel → State} (h : CanFetch s e len) :
    issue e len insn false u s f = .next (s.easelFault e exIllegal insn 0 0) := by
  obtain ⟨h1, h2, h3, h4, h5, h6⟩ := h
  have h8 : ¬ 192 ≤ e := by omega
  have h9 : ¬ (s.easel e).codeLimit < (s.easel e).pc + len := by omega
  simp [issue, h2, h3, h4, h6, h8, h9]

/-- A halted or stalled Easel, or a stopped clock: nothing issues. -/
theorem issue_idle {s : State} {e len insn : Nat} {legal : Bool} {u : Uses} {f : Easel → State} (he : e < 192)
    (h : (s.easel e).running = false ∨ (s.easel e).stall ≠ .none ∨ s.board.clocksStopped = true) : issue e len insn legal u s f = .next s := by
  have h8 : ¬ 192 ≤ e := by omega
  rcases h with h | h | h <;> simp [issue, h8, h]

/-- Everything that an issue can do. -/
theorem issue_cases {s t : State} {e len insn : Nat} {legal : Bool} {u : Uses} {f : Easel → State} (h : issue e len insn legal u s f = .next t) :
    e < 192 ∧ (t = s ∨ t = s.easelFault e exFetch 0 (s.easel e).pc 0 ∨ (legal = false ∧ t = s.easelFault e exIllegal insn 0 0)
      ∨ (legal = true ∧ (s.easel e).waits u = false ∧ t = f (s.easel e))) := by
  simp only [issue] at h
  split at h
  · cases h
  · refine ⟨by omega, ?_⟩
    split at h
    · simp only [Host.Outcome.next.injEq] at h; exact .inl h.symm
    · split at h
      · simp only [Host.Outcome.next.injEq] at h; exact .inr (.inl h.symm)
      · split at h
        · next hl => simp only [Host.Outcome.next.injEq] at h; exact .inr (.inr (.inl ⟨by simpa using hl, h.symm⟩))
        · next hl =>
          split at h
          · simp only [Host.Outcome.next.injEq] at h; exact .inl h.symm
          · next hw => simp only [Host.Outcome.next.injEq] at h; exact .inr (.inr (.inr ⟨by simpa using hl, by simpa using hw, h.symm⟩))

/-- An issue on an Easel that exists always gives a next state. -/
theorem issue_completes {s : State} {e len insn : Nat} {legal : Bool} {u : Uses} {f : Easel → State} (he : e < 192) :
    ∃ t, issue e len insn legal u s f = .next t := by
  have h8 : ¬ 192 ≤ e := by omega
  simp only [issue, h8, if_false]
  split
  · exact ⟨_, rfl⟩
  · split
    · exact ⟨_, rfl⟩
    · split
      · exact ⟨_, rfl⟩
      · split <;> exact ⟨_, rfl⟩

/-- A command that is ready runs, and answers. -/
theorem command_next {s : State} {q : Nat} {n : U32} {op : Nat} {e : Entry} {b : List Byte} {f : Entry → List Byte → State × Nat × Nat}
    (h : CmdReady s q n e b) (ho : e.opcode.toNat = op) :
    command q n op s f = .next ((f e b).1.answer q n (f e b).2.1 (f e b).2.2) := by
  obtain ⟨h1, h2, h3, h4⟩ := h
  have h8 : ¬ 64 ≤ q := by omega
  simp [command, State.running, h2, h3, h4, h8, ho]

/-- Everything that a command's run can do. -/
theorem command_cases {s t : State} {q : Nat} {n : U32} {op : Nat} {f : Entry → List Byte → State × Nat × Nat} (h : command q n op s f = .next t) :
    q < 64 ∧ (t = s ∨ ∃ c b, s.running q n op = some (c, b) ∧ c.waiting = false ∧ t = (f c.entry b).1.answer q n (f c.entry b).2.1 (f c.entry b).2.2) := by
  simp only [command] at h
  split at h
  · cases h
  · refine ⟨by omega, ?_⟩
    split at h
    · simp only [Host.Outcome.next.injEq] at h; exact .inl h.symm
    · next c b hr =>
      split at h
      · simp only [Host.Outcome.next.injEq] at h; exact .inl h.symm
      · next hw =>
        simp only [Host.Outcome.next.injEq] at h
        simp only [Bool.or_eq_true, not_or, Bool.not_eq_true] at hw
        exact .inr ⟨c, b, hr, hw.1, h.symm⟩

/-- A command on a queue that exists always gives a next state. -/
theorem command_completes {s : State} {q : Nat} {n : U32} {op : Nat} {f : Entry → List Byte → State × Nat × Nat} (hq : q < 64) :
    ∃ t, command q n op s f = .next t := by
  have h8 : ¬ 64 ≤ q := by omega
  simp only [command, h8, if_false]
  split
  · exact ⟨_, rfl⟩
  · split <;> exact ⟨_, rfl⟩

theorem onUnit_next {ok : Bool} {s t : State} (h : onUnit ok s = .next t) : ok = true ∧ t = s := by
  cases ok <;> simp [onUnit, noUnit] at h ⊢
  exact h.symm

end Sys2Proof.Machine
end

