-- ==== Sys2Proof/Laws/PerInstr.lean ====
section
/-!
SUPPORT. One lemma for each command: bit 0 of a Caruk instruction's word gives its length, and the word fits in it (R157).
-/
namespace Sys2Proof.Laws.Shape
open Sys2Proof.Machine

/-- The word of a Caruk instruction has 4 bytes and bit 0 clear, or 8 bytes and bit 0 set (R157); of another command it says nothing. -/
def Statement (i : Instr) : Prop :=
  ∀ e n w, carukWord i = some (e, n, w) → (n = 4 ∧ w % 2 = 0 ∧ w < 2 ^ 32) ∨ (n = 8 ∧ w % 2 = 1 ∧ w < 2 ^ 64)

theorem wordR_shape {e₀ e n w major k f : Nat} {a b c : RegF} (hm : major < 64) (hk : k < 128) (hf : f < 8)
    (h : some (e₀, 4, wordR major k f c.toNat b.toNat a.toNat) = some (e, n, w)) :
    (n = 4 ∧ w % 2 = 0 ∧ w < 2 ^ 32) ∨ (n = 8 ∧ w % 2 = 1 ∧ w < 2 ^ 64) := by
  cases h; refine .inl ⟨rfl, ?_⟩; simp only [wordR]; have := a.isLt; have := b.isLt; have := c.isLt; omega

theorem wordI_shape {e₀ e n w major f : Nat} {imm : BitVec 12} {a b : RegF} (hm : major < 64) (hf : f < 8)
    (h : some (e₀, 4, wordI major imm.toNat f b.toNat a.toNat) = some (e, n, w)) :
    (n = 4 ∧ w % 2 = 0 ∧ w < 2 ^ 32) ∨ (n = 8 ∧ w % 2 = 1 ∧ w < 2 ^ 64) := by
  cases h; refine .inl ⟨rfl, ?_⟩; simp only [wordI]; have := a.isLt; have := b.isLt; have := imm.isLt; omega

theorem wordU_shape {e₀ e n w major : Nat} {imm : BitVec 20} {a : RegF} (hm : major < 64)
    (h : some (e₀, 4, wordU major imm.toNat a.toNat) = some (e, n, w)) :
    (n = 4 ∧ w % 2 = 0 ∧ w < 2 ^ 32) ∨ (n = 8 ∧ w % 2 = 1 ∧ w < 2 ^ 64) := by
  cases h; refine .inl ⟨rfl, ?_⟩; simp only [wordU]; have := a.isLt; have := imm.isLt; omega

theorem wordMove_shape {e₀ e n w major : Nat} {f : MoveF} (hm : major < 64)
    (h : some (e₀, 8, wordMove major f) = some (e, n, w)) :
    (n = 4 ∧ w % 2 = 0 ∧ w < 2 ^ 32) ∨ (n = 8 ∧ w % 2 = 1 ∧ w < 2 ^ 64) := by
  cases h; refine .inr ⟨rfl, ?_⟩; simp only [wordMove]
  have := f.rsv.isLt; have := f.dev.isLt; have := f.tb.isLt; have := f.ta.isLt; have := f.rg.isLt
  have := f.rf.isLt; have := f.rl.isLt; have := f.rc.isLt; have := f.trk.isLt; have := f.dn.isLt; omega

theorem wordStroke_shape {e₀ e n w major : Nat} {f : StrokeF} (hm : major < 64)
    (h : some (e₀, 8, wordStroke major f) = some (e, n, w)) :
    (n = 4 ∧ w % 2 = 0 ∧ w < 2 ^ 32) ∨ (n = 8 ∧ w % 2 = 1 ∧ w < 2 ^ 64) := by
  cases h; refine .inr ⟨rfl, ?_⟩; simp only [wordStroke]
  have := f.rsv.isLt; have := f.clr.isLt; have := f.neg.isLt; have := f.lt.isLt; have := f.mode.isLt; have := f.tf.isLt
  have := f.lf.isLt; have := f.rp.isLt; have := f.rk.isLt; have := f.rt.isLt; have := f.rl.isLt; omega

theorem wordForm_shape {e₀ e n w major : Nat} {r : RegF} {rsv : BitVec 52} (hm : major < 64)
    (h : some (e₀, 8, wordForm major r rsv) = some (e, n, w)) :
    (n = 4 ∧ w % 2 = 0 ∧ w < 2 ^ 32) ∨ (n = 8 ∧ w % 2 = 1 ∧ w < 2 ^ 64) := by
  cases h; refine .inr ⟨rfl, ?_⟩; simp only [wordForm]; have := r.isLt; have := rsv.isLt; omega

theorem porNDeassert (b : BootObs) : Statement (.porNDeassert b) := fun _ _ _ h => nomatch h
theorem recoveryVerify (sigs : FwSigs) : Statement (.recoveryVerify sigs) := fun _ _ _ h => nomatch h
theorem recoveryRun (sigs : FwSigs) (b : BootObs) : Statement (.recoveryRun sigs b) := fun _ _ _ h => nomatch h
theorem recoveryWrite (sigs : FwSigs) (flashOk : Bool) : Statement (.recoveryWrite sigs flashOk) := fun _ _ _ h => nomatch h
theorem curatorWatchdogExpiry : Statement .curatorWatchdogExpiry := fun _ _ _ h => nomatch h
theorem deviceRestart (cause : Byte) (b : BootObs) : Statement (.deviceRestart cause b) := fun _ _ _ h => nomatch h
theorem partitionRestart (p : Nat) (durationUs : U32) : Statement (.partitionRestart p durationUs) := fun _ _ _ h => nomatch h
theorem flr : Statement .flr := fun _ _ _ h => nomatch h
theorem perstNAssert : Statement .perstNAssert := fun _ _ _ h => nomatch h
theorem hotReset : Statement .hotReset := fun _ _ _ h => nomatch h
theorem linkDown : Statement .linkDown := fun _ _ _ h => nomatch h
theorem d3hotToD0 : Statement .d3hotToD0 := fun _ _ _ h => nomatch h
theorem pcieLinkRetrain (speed width : BitVec 4) : Statement (.pcieLinkRetrain speed width) := fun _ _ _ h => nomatch h
theorem laneMarginCommand (lane : Nat) (cmd : U16) : Statement (.laneMarginCommand lane cmd) := fun _ _ _ h => nomatch h
theorem barReadShapeAbort (bar off len : Nat) : Statement (.barReadShapeAbort bar off len) := fun _ _ _ h => nomatch h
theorem bar4Read (off len : Nat) : Statement (.bar4Read off len) := fun _ _ _ h => nomatch h
theorem bar4Write (off : Nat) (bytes : List Byte) : Statement (.bar4Write off bytes) := fun _ _ _ h => nomatch h
theorem poisonedTlpReceived (bar off len : Nat) : Statement (.poisonedTlpReceived bar off len) := fun _ _ _ h => nomatch h
theorem hostReadCompletion (tag : Nat) (r : HostRead) : Statement (.hostReadCompletion tag r) := fun _ _ _ h => nomatch h
theorem completionTimeout (tag : Nat) : Statement (.completionTimeout tag) := fun _ _ _ h => nomatch h
theorem msixMessageSend (v : Nat) : Statement (.msixMessageSend v) := fun _ _ _ h => nomatch h
theorem assertInta : Statement .assertInta := fun _ _ _ h => nomatch h
theorem registerWrite (bar off size : Nat) (value : U64) : Statement (.registerWrite bar off size value) := fun _ _ _ h => nomatch h
theorem registerReadCapture (bar off size : Nat) : Statement (.registerReadCapture bar off size) := fun _ _ _ h => nomatch h
theorem commitIngPort (n : Fin 2) : Statement (.commitIngPort n) := fun _ _ _ h => nomatch h
theorem commitIngSp : Statement .commitIngSp := fun _ _ _ h => nomatch h
theorem commitTbSrc : Statement .commitTbSrc := fun _ _ _ h => nomatch h
theorem commitTbPhase : Statement .commitTbPhase := fun _ _ _ h => nomatch h
theorem commitGlbBar4 : Statement .commitGlbBar4 := fun _ _ _ h => nomatch h
theorem commitPwr : Statement .commitPwr := fun _ _ _ h => nomatch h
theorem commitQueue (q : Fin 64) : Statement (.commitQueue q) := fun _ _ _ h => nomatch h
theorem groupApply (g : Group) : Statement (.groupApply g) := fun _ _ _ h => nomatch h
theorem ethPortLinkChange (mac : Nat) (up : Bool) : Statement (.ethPortLinkChange mac up) := fun _ _ _ h => nomatch h
theorem dbSqWrite (q : Nat) (t : U32) : Statement (.dbSqWrite q t) := fun _ _ _ h => nomatch h
theorem resume (q : Nat) : Statement (.resume q) := fun _ _ _ h => nomatch h
theorem hqQnCqConsWrite (q : Nat) (v : U32) : Statement (.hqQnCqConsWrite q v) := fun _ _ _ h => nomatch h
theorem submissionFetch (q : Nat) : Statement (.submissionFetch q) := fun _ _ _ h => nomatch h
theorem commandStart (q : Nat) : Statement (.commandStart q) := fun _ _ _ h => nomatch h
theorem commandComplete (q : Nat) (n : U32) : Statement (.commandComplete q n) := fun _ _ _ h => nomatch h
theorem cqCoalTimer (q : Nat) : Statement (.cqCoalTimer q) := fun _ _ _ h => nomatch h
theorem nop (q : Nat) (n : U32) : Statement (.nop q n) := fun _ _ _ h => nomatch h
theorem atlSet (q : Nat) (n : U32) : Statement (.atlSet q n) := fun _ _ _ h => nomatch h
theorem atlDelete (q : Nat) (n : U32) : Statement (.atlDelete q n) := fun _ _ _ h => nomatch h
theorem partCreate (q : Nat) (n : U32) : Statement (.partCreate q n) := fun _ _ _ h => nomatch h
theorem partLoad (q : Nat) (n : U32) : Statement (.partLoad q n) := fun _ _ _ h => nomatch h
theorem partTiming (q : Nat) (n : U32) : Statement (.partTiming q n) := fun _ _ _ h => nomatch h
theorem partStart (q : Nat) (n : U32) : Statement (.partStart q n) := fun _ _ _ h => nomatch h
theorem partStop (q : Nat) (n : U32) : Statement (.partStop q n) := fun _ _ _ h => nomatch h
theorem partDelete (q : Nat) (n : U32) : Statement (.partDelete q n) := fun _ _ _ h => nomatch h
theorem weightSwap (q : Nat) (n : U32) : Statement (.weightSwap q n) := fun _ _ _ h => nomatch h
theorem sitRegister (q : Nat) (n : U32) : Statement (.sitRegister q n) := fun _ _ _ h => nomatch h
theorem sitUpdate (q : Nat) (n : U32) : Statement (.sitUpdate q n) := fun _ _ _ h => nomatch h
theorem sitDelete (q : Nat) (n : U32) : Statement (.sitDelete q n) := fun _ _ _ h => nomatch h
theorem sitParamsets (q : Nat) (n : U32) : Statement (.sitParamsets q n) := fun _ _ _ h => nomatch h
theorem pbqMark (q : Nat) (n : U32) : Statement (.pbqMark q n) := fun _ _ _ h => nomatch h
theorem ifSet (q : Nat) (n : U32) : Statement (.ifSet q n) := fun _ _ _ h => nomatch h
theorem ifClear (q : Nat) (n : U32) : Statement (.ifClear q n) := fun _ _ _ h => nomatch h
theorem dmxSet (q : Nat) (n : U32) : Statement (.dmxSet q n) := fun _ _ _ h => nomatch h
theorem dmxClear (q : Nat) (n : U32) : Statement (.dmxClear q n) := fun _ _ _ h => nomatch h
theorem inject (q : Nat) (n : U32) : Statement (.inject q n) := fun _ _ _ h => nomatch h
theorem setTime (q : Nat) (n : U32) : Statement (.setTime q n) := fun _ _ _ h => nomatch h
theorem replaySetTime (q : Nat) (n : U32) : Statement (.replaySetTime q n) := fun _ _ _ h => nomatch h
theorem replayAdvance (q : Nat) (n : U32) : Statement (.replayAdvance q n) := fun _ _ _ h => nomatch h
theorem replaySitting (p : Nat) (t : U64) : Statement (.replaySitting p t) := fun _ _ _ h => nomatch h
theorem ringSet (q : Nat) (n : U32) : Statement (.ringSet q n) := fun _ _ _ h => nomatch h
theorem ringDelete (q : Nat) (n : U32) : Statement (.ringDelete q n) := fun _ _ _ h => nomatch h
theorem adaptSamples (q : Nat) (n : U32) (samples : List PicDesc) : Statement (.adaptSamples q n samples) := fun _ _ _ h => nomatch h
theorem adaptStart (q : Nat) (n : U32) : Statement (.adaptStart q n) := fun _ _ _ h => nomatch h
theorem adaptAbort (q : Nat) (n : U32) : Statement (.adaptAbort q n) := fun _ _ _ h => nomatch h
theorem memGroup (q : Nat) (n : U32) : Statement (.memGroup q n) := fun _ _ _ h => nomatch h
theorem memInject (q : Nat) (n : U32) : Statement (.memInject q n) := fun _ _ _ h => nomatch h
theorem secCerts (q : Nat) (n : U32) : Statement (.secCerts q n) := fun _ _ _ h => nomatch h
theorem quote (q : Nat) (n : U32) : Statement (.quote q n) := fun _ _ _ h => nomatch h
theorem measLog (q : Nat) (n : U32) : Statement (.measLog q n) := fun _ _ _ h => nomatch h
theorem measExtend (q : Nat) (n : U32) : Statement (.measExtend q n) := fun _ _ _ h => nomatch h
theorem licInstall (q : Nat) (n : U32) (sigOk flashOk : Bool) : Statement (.licInstall q n sigOk flashOk) := fun _ _ _ h => nomatch h
theorem licRemove (q : Nat) (n : U32) (flashOk : Bool) : Statement (.licRemove q n flashOk) := fun _ _ _ h => nomatch h
theorem licList (q : Nat) (n : U32) : Statement (.licList q n) := fun _ _ _ h => nomatch h
theorem mbH2cWrite (v : U64) : Statement (.mbH2cWrite v) := fun _ _ _ h => nomatch h
theorem curatorMailboxEcho : Statement .curatorMailboxEcho := fun _ _ _ h => nomatch h
theorem mbC2hRead : Statement .mbC2hRead := fun _ _ _ h => nomatch h
theorem mbEmbxDataWrite (e : Nat) (v : U64) : Statement (.mbEmbxDataWrite e v) := fun _ _ _ h => nomatch h
theorem mbFromDataRead (e : Nat) : Statement (.mbFromDataRead e) := fun _ _ _ h => nomatch h
theorem dbHostMaskWrite (w : Nat) (v : U64) : Statement (.dbHostMaskWrite w v) := fun _ _ _ h => nomatch h
theorem hqRingConsWrite (r : Nat) (v : U64) : Statement (.hqRingConsWrite r v) := fun _ _ _ h => nomatch h
theorem ingSprxConsWrite (v : U64) : Statement (.ingSprxConsWrite v) := fun _ _ _ h => nomatch h
theorem ingSptxProdWrite (v : U64) : Statement (.ingSptxProdWrite v) := fun _ _ _ h => nomatch h
theorem ethFrameReceive (mac : Nat) (f : Frame) : Statement (.ethFrameReceive mac f) := fun _ _ _ h => nomatch h
theorem mcastStateChangeReport (iface : Nat) (group : BitVec 128) : Statement (.mcastStateChangeReport iface group) := fun _ _ _ h => nomatch h
theorem reorderGapTimeout (sitter : Nat) : Statement (.reorderGapTimeout sitter) := fun _ _ _ h => nomatch h
theorem ptpAnnounceTimeout : Statement .ptpAnnounceTimeout := fun _ _ _ h => nomatch h
theorem ptmDialogue (r : Option (U64 × Int)) : Statement (.ptmDialogue r) := fun _ _ _ h => nomatch h
theorem ppsInEdge (ferr : Int) : Statement (.ppsInEdge ferr) := fun _ _ _ h => nomatch h
theorem todRxMessage (line : List Byte) : Statement (.todRxMessage line) := fun _ _ _ h => nomatch h
theorem ppsEdgeTimeout : Statement .ppsEdgeTimeout := fun _ _ _ h => nomatch h
theorem ppsOutEdge : Statement .ppsOutEdge := fun _ _ _ h => nomatch h
theorem todTxSend : Statement .todTxSend := fun _ _ _ h => nomatch h
theorem phaseBoundary : Statement .phaseBoundary := fun _ _ _ h => nomatch h
theorem sittingInstant (p : Nat) (t : U64) : Statement (.sittingInstant p t) := fun _ _ _ h => nomatch h
theorem decodeStart (engine : Nat) (pic : PicDesc) : Statement (.decodeStart engine pic) := fun _ _ _ h => nomatch h
theorem decodeComplete (engine : Nat) (busyUs : Nat) : Statement (.decodeComplete engine busyUs) := fun _ _ _ h => nomatch h
theorem engineDomainGate (kind : EngineKind) (n : Nat) : Statement (.engineDomainGate kind n) := fun _ _ _ h => nomatch h
theorem framingSlotStart (fu : Nat) : Statement (.framingSlotStart fu) := fun _ _ _ h => nomatch h
theorem framingSlotComplete (fu : Nat) : Statement (.framingSlotComplete fu) := fun _ _ _ h => nomatch h
theorem cropListTake (p : Nat) : Statement (.cropListTake p) := fun _ _ _ h => nomatch h
theorem flowRequestTake (ms : Nat) (p : Nat) : Statement (.flowRequestTake ms p) := fun _ _ _ h => nomatch h
theorem flowComplete (ms : Nat) : Statement (.flowComplete ms) := fun _ _ _ h => nomatch h
theorem resultBlockTake (p : Nat) : Statement (.resultBlockTake p) := fun _ _ _ h => nomatch h
theorem resultGroupWrite (sitter : Nat) : Statement (.resultGroupWrite sitter) := fun _ _ _ h => nomatch h
theorem ringIntrTimer (r : Nat) : Statement (.ringIntrTimer r) := fun _ _ _ h => nomatch h
theorem loanStart (e : Nat) : Statement (.loanStart e) := fun _ _ _ h => nomatch h
theorem loanRecall (e : Nat) (cause : RecallCause) : Statement (.loanRecall e cause) := fun _ _ _ h => nomatch h
theorem add (e : Nat) (a b c : RegF) : Statement (.add e a b c) := fun _ _ _ h => wordR_shape (by decide) (by decide) (by decide) h
theorem sub (e : Nat) (a b c : RegF) : Statement (.sub e a b c) := fun _ _ _ h => wordR_shape (by decide) (by decide) (by decide) h
theorem andR (e : Nat) (a b c : RegF) : Statement (.andR e a b c) := fun _ _ _ h => wordR_shape (by decide) (by decide) (by decide) h
theorem orR (e : Nat) (a b c : RegF) : Statement (.orR e a b c) := fun _ _ _ h => wordR_shape (by decide) (by decide) (by decide) h
theorem xorR (e : Nat) (a b c : RegF) : Statement (.xorR e a b c) := fun _ _ _ h => wordR_shape (by decide) (by decide) (by decide) h
theorem sll (e : Nat) (a b c : RegF) : Statement (.sll e a b c) := fun _ _ _ h => wordR_shape (by decide) (by decide) (by decide) h
theorem srl (e : Nat) (a b c : RegF) : Statement (.srl e a b c) := fun _ _ _ h => wordR_shape (by decide) (by decide) (by decide) h
theorem sra (e : Nat) (a b c : RegF) : Statement (.sra e a b c) := fun _ _ _ h => wordR_shape (by decide) (by decide) (by decide) h
theorem minR (e : Nat) (a b c : RegF) : Statement (.minR e a b c) := fun _ _ _ h => wordR_shape (by decide) (by decide) (by decide) h
theorem maxR (e : Nat) (a b c : RegF) : Statement (.maxR e a b c) := fun _ _ _ h => wordR_shape (by decide) (by decide) (by decide) h
theorem minu (e : Nat) (a b c : RegF) : Statement (.minu e a b c) := fun _ _ _ h => wordR_shape (by decide) (by decide) (by decide) h
theorem maxu (e : Nat) (a b c : RegF) : Statement (.maxu e a b c) := fun _ _ _ h => wordR_shape (by decide) (by decide) (by decide) h
theorem clz (e : Nat) (a b c : RegF) : Statement (.clz e a b c) := fun _ _ _ h => wordR_shape (by decide) (by decide) (by decide) h
theorem popc (e : Nat) (a b c : RegF) : Statement (.popc e a b c) := fun _ _ _ h => wordR_shape (by decide) (by decide) (by decide) h
theorem andn (e : Nat) (a b c : RegF) : Statement (.andn e a b c) := fun _ _ _ h => wordR_shape (by decide) (by decide) (by decide) h
theorem sel (e : Nat) (p : BitVec 3) (a b c : RegF) : Statement (.sel e p a b c) := fun _ _ _ h => wordR_shape (by decide) (by have := p.isLt; omega) (by decide) h
theorem addi (e : Nat) (a b : RegF) (imm : BitVec 12) : Statement (.addi e a b imm) := fun _ _ _ h => wordI_shape (by decide) (by decide) h
theorem andi (e : Nat) (a b : RegF) (imm : BitVec 12) : Statement (.andi e a b imm) := fun _ _ _ h => wordI_shape (by decide) (by decide) h
theorem ori (e : Nat) (a b : RegF) (imm : BitVec 12) : Statement (.ori e a b imm) := fun _ _ _ h => wordI_shape (by decide) (by decide) h
theorem xori (e : Nat) (a b : RegF) (imm : BitVec 12) : Statement (.xori e a b imm) := fun _ _ _ h => wordI_shape (by decide) (by decide) h
theorem slli (e : Nat) (a b : RegF) (imm : BitVec 12) : Statement (.slli e a b imm) := fun _ _ _ h => wordI_shape (by decide) (by decide) h
theorem srli (e : Nat) (a b : RegF) (imm : BitVec 12) : Statement (.srli e a b imm) := fun _ _ _ h => wordI_shape (by decide) (by decide) h
theorem srai (e : Nat) (a b : RegF) (imm : BitVec 12) : Statement (.srai e a b imm) := fun _ _ _ h => wordI_shape (by decide) (by decide) h
theorem luih (e : Nat) (a : RegF) (imm : BitVec 20) : Statement (.luih e a imm) := fun _ _ _ h => wordU_shape (by decide) h
theorem lui (e : Nat) (a : RegF) (imm : BitVec 20) : Statement (.lui e a imm) := fun _ _ _ h => wordU_shape (by decide) h
theorem cmp (e : Nat) (f : BitVec 3) (k : BitVec 7) (a b c : RegF) : Statement (.cmp e f k a b c) := fun _ _ _ h => wordR_shape (by decide) k.isLt f.isLt h
theorem cmpi (e : Nat) (f : BitVec 3) (a b : RegF) (imm : BitVec 12) : Statement (.cmpi e f a b imm) := fun _ _ _ h => wordI_shape (by decide) f.isLt h
theorem pand (e : Nat) (k : BitVec 7) (a b c : RegF) : Statement (.pand e k a b c) := fun _ _ _ h => wordR_shape (by decide) k.isLt (by decide) h
theorem por (e : Nat) (k : BitVec 7) (a b c : RegF) : Statement (.por e k a b c) := fun _ _ _ h => wordR_shape (by decide) k.isLt (by decide) h
theorem pxor (e : Nat) (k : BitVec 7) (a b c : RegF) : Statement (.pxor e k a b c) := fun _ _ _ h => wordR_shape (by decide) k.isLt (by decide) h
theorem pandn (e : Nat) (k : BitVec 7) (a b c : RegF) : Statement (.pandn e k a b c) := fun _ _ _ h => wordR_shape (by decide) k.isLt (by decide) h
theorem pnot (e : Nat) (k : BitVec 7) (a b c : RegF) : Statement (.pnot e k a b c) := fun _ _ _ h => wordR_shape (by decide) k.isLt (by decide) h
theorem pset (e : Nat) (k : BitVec 7) (a b c : RegF) : Statement (.pset e k a b c) := fun _ _ _ h => wordR_shape (by decide) k.isLt (by decide) h
theorem ptos (e : Nat) (k : BitVec 7) (a b c : RegF) : Statement (.ptos e k a b c) := fun _ _ _ h => wordR_shape (by decide) k.isLt (by decide) h
theorem stop (e : Nat) (k : BitVec 7) (a b c : RegF) : Statement (.stop e k a b c) := fun _ _ _ h => wordR_shape (by decide) k.isLt (by decide) h
theorem mul (e : Nat) (k : BitVec 7) (a b c : RegF) : Statement (.mul e k a b c) := fun _ _ _ h => wordR_shape (by decide) k.isLt (by decide) h
theorem mulh (e : Nat) (k : BitVec 7) (a b c : RegF) : Statement (.mulh e k a b c) := fun _ _ _ h => wordR_shape (by decide) k.isLt (by decide) h
theorem mulhu (e : Nat) (k : BitVec 7) (a b c : RegF) : Statement (.mulhu e k a b c) := fun _ _ _ h => wordR_shape (by decide) k.isLt (by decide) h
theorem div (e : Nat) (k : BitVec 7) (a b c : RegF) : Statement (.div e k a b c) := fun _ _ _ h => wordR_shape (by decide) k.isLt (by decide) h
theorem divu (e : Nat) (k : BitVec 7) (a b c : RegF) : Statement (.divu e k a b c) := fun _ _ _ h => wordR_shape (by decide) k.isLt (by decide) h
theorem rem (e : Nat) (k : BitVec 7) (a b c : RegF) : Statement (.rem e k a b c) := fun _ _ _ h => wordR_shape (by decide) k.isLt (by decide) h
theorem remu (e : Nat) (k : BitVec 7) (a b c : RegF) : Statement (.remu e k a b c) := fun _ _ _ h => wordR_shape (by decide) k.isLt (by decide) h
theorem ldl (e : Nat) (f : BitVec 3) (a b : RegF) (imm : BitVec 12) : Statement (.ldl e f a b imm) := fun _ _ _ h => wordI_shape (by decide) f.isLt h
theorem stl (e : Nat) (f : BitVec 3) (a b : RegF) (imm : BitVec 12) : Statement (.stl e f a b imm) := fun _ _ _ h => wordI_shape (by decide) f.isLt h
theorem ldg (e : Nat) (f : BitVec 3) (a b : RegF) (imm : BitVec 12) : Statement (.ldg e f a b imm) := fun _ _ _ h => wordI_shape (by decide) f.isLt h
theorem stg (e : Nat) (f : BitVec 3) (a b : RegF) (imm : BitVec 12) : Statement (.stg e f a b imm) := fun _ _ _ h => wordI_shape (by decide) f.isLt h
theorem br (e : Nat) (a : RegF) (imm : BitVec 20) : Statement (.br e a imm) := fun _ _ _ h => wordU_shape (by decide) h
theorem jal (e : Nat) (a : RegF) (imm : BitVec 20) : Statement (.jal e a imm) := fun _ _ _ h => wordU_shape (by decide) h
theorem jalr (e : Nat) (f : BitVec 3) (a b : RegF) (imm : BitVec 12) : Statement (.jalr e f a b imm) := fun _ _ _ h => wordI_shape (by decide) f.isLt h
theorem dld (e : Nat) (a b : RegF) (imm : BitVec 12) : Statement (.dld e a b imm) := fun _ _ _ h => wordI_shape (by decide) (by decide) h
theorem dst (e : Nat) (a b : RegF) (imm : BitVec 12) : Statement (.dst e a b imm) := fun _ _ _ h => wordI_shape (by decide) (by decide) h
theorem dldg (e : Nat) (a b : RegF) (imm : BitVec 12) : Statement (.dldg e a b imm) := fun _ _ _ h => wordI_shape (by decide) (by decide) h
theorem dstg (e : Nat) (a b : RegF) (imm : BitVec 12) : Statement (.dstg e a b imm) := fun _ _ _ h => wordI_shape (by decide) (by decide) h
theorem drd (e : Nat) (a b : RegF) (imm : BitVec 12) : Statement (.drd e a b imm) := fun _ _ _ h => wordI_shape (by decide) (by decide) h
theorem dwr (e : Nat) (a b : RegF) (imm : BitVec 12) : Statement (.dwr e a b imm) := fun _ _ _ h => wordI_shape (by decide) (by decide) h
theorem dcopy (e : Nat) (a b : RegF) (imm : BitVec 12) : Statement (.dcopy e a b imm) := fun _ _ _ h => wordI_shape (by decide) (by decide) h
theorem fetch (e : Nat) (w : MoveF) : Statement (.fetch e w) := fun _ _ _ h => wordMove_shape (by decide) h
theorem put (e : Nat) (w : MoveF) : Statement (.put e w) := fun _ _ _ h => wordMove_shape (by decide) h
theorem trackOpComplete (e : Nat) (track : Nat) : Statement (.trackOpComplete e track) := fun _ _ _ h => nomatch h
theorem take (e : Nat) (k : BitVec 7) (a b c : RegF) : Statement (.take e k a b c) := fun _ _ _ h => wordR_shape (by decide) k.isLt (by decide) h
theorem tset (e : Nat) (k : BitVec 7) (a b c : RegF) : Statement (.tset e k a b c) := fun _ _ _ h => wordR_shape (by decide) k.isLt (by decide) h
theorem waitI (e : Nat) (k : BitVec 7) (a b c : RegF) : Statement (.waitI e k a b c) := fun _ _ _ h => wordR_shape (by decide) k.isLt (by decide) h
theorem waitSatisfied (e : Nat) : Statement (.waitSatisfied e) := fun _ _ _ h => nomatch h
theorem ring (e : Nat) (k : BitVec 7) (a b c : RegF) : Statement (.ring e k a b c) := fun _ _ _ h => wordR_shape (by decide) k.isLt (by decide) h
theorem post (e : Nat) (k : BitVec 7) (a b c : RegF) : Statement (.post e k a b c) := fun _ _ _ h => wordR_shape (by decide) k.isLt (by decide) h
theorem collect (e : Nat) (k : BitVec 7) (a b c : RegF) : Statement (.collect e k a b c) := fun _ _ _ h => wordR_shape (by decide) k.isLt (by decide) h
theorem barrier (e : Nat) (k : BitVec 7) (a b c : RegF) : Statement (.barrier e k a b c) := fun _ _ _ h => wordR_shape (by decide) k.isLt (by decide) h
theorem dispatch (e : Nat) (k : BitVec 7) (f : BitVec 3) (a b c : RegF) : Statement (.dispatch e k f a b c) := fun _ _ _ h => wordR_shape (by decide) k.isLt f.isLt h
theorem leafStart (e : Nat) : Statement (.leafStart e) := fun _ _ _ h => nomatch h
theorem leafHalted (e : Nat) : Statement (.leafHalted e) := fun _ _ _ h => nomatch h
theorem atelierComplete (unit : U16) : Statement (.atelierComplete unit) := fun _ _ _ h => nomatch h
theorem ecrr (e : Nat) (a b : RegF) (imm : BitVec 12) : Statement (.ecrr e a b imm) := fun _ _ _ h => wordI_shape (by decide) (by decide) h
theorem ecrw (e : Nat) (a b : RegF) (imm : BitVec 12) : Statement (.ecrw e a b imm) := fun _ _ _ h => wordI_shape (by decide) (by decide) h
theorem trap (e : Nat) (a b : RegF) (imm : BitVec 12) : Statement (.trap e a b imm) := fun _ _ _ h => wordI_shape (by decide) (by decide) h
theorem halt (e : Nat) (a b : RegF) (imm : BitVec 12) : Statement (.halt e a b imm) := fun _ _ _ h => wordI_shape (by decide) (by decide) h
theorem twait (e : Nat) (a b : RegF) (imm : BitVec 12) : Statement (.twait e a b imm) := fun _ _ _ h => wordI_shape (by decide) (by decide) h
theorem watchdogExpiry (e : Nat) : Statement (.watchdogExpiry e) := fun _ _ _ h => nomatch h
theorem stroke (e : Nat) (w : StrokeF) : Statement (.stroke e w) := fun _ _ _ h => wordStroke_shape (by decide) h
theorem ewise (e : Nat) (w : StrokeF) : Statement (.ewise e w) := fun _ _ _ h => wordStroke_shape (by decide) h
theorem swap (e : Nat) (rsv : BitVec 25) : Statement (.swap e rsv) := by
  intro _ _ _ h; cases h; refine .inl ⟨rfl, ?_⟩; have := rsv.isLt; omega
theorem loadacc (e : Nat) (k : BitVec 7) (f : BitVec 3) (a b c : RegF) : Statement (.loadacc e k f a b c) := fun _ _ _ h => wordR_shape (by decide) k.isLt f.isLt h
theorem drain (e : Nat) (k : BitVec 7) (f : BitVec 3) (a b c : RegF) : Statement (.drain e k f a b c) := fun _ _ _ h => wordR_shape (by decide) k.isLt f.isLt h
theorem plaunch (e : Nat) (k : BitVec 7) (f : BitVec 3) (a b c : RegF) : Statement (.plaunch e k f a b c) := fun _ _ _ h => wordR_shape (by decide) k.isLt f.isLt h
theorem plaunchF (e : Nat) (r rf rg : RegF) (rsv : BitVec 42) : Statement (.plaunchF e r rf rg rsv) := by
  intro _ _ _ h; cases h; refine .inr ⟨rfl, ?_⟩; simp only [wordLaunchF]; have := r.isLt; have := rf.isLt; have := rg.isLt; have := rsv.isLt; omega
theorem pwait (e : Nat) (k : BitVec 7) (f : BitVec 3) (a b c : RegF) : Statement (.pwait e k f a b c) := fun _ _ _ h => wordR_shape (by decide) k.isLt f.isLt h
theorem vadd (e : Nat) (a b c : RegF) : Statement (.vadd e a b c) := fun _ _ _ h => wordR_shape (by decide) (by decide) (by decide) h
theorem vsub (e : Nat) (a b c : RegF) : Statement (.vsub e a b c) := fun _ _ _ h => wordR_shape (by decide) (by decide) (by decide) h
theorem vmul (e : Nat) (a b c : RegF) : Statement (.vmul e a b c) := fun _ _ _ h => wordR_shape (by decide) (by decide) (by decide) h
theorem vmin (e : Nat) (a b c : RegF) : Statement (.vmin e a b c) := fun _ _ _ h => wordR_shape (by decide) (by decide) (by decide) h
theorem vmax (e : Nat) (a b c : RegF) : Statement (.vmax e a b c) := fun _ _ _ h => wordR_shape (by decide) (by decide) (by decide) h
theorem vand (e : Nat) (a b c : RegF) : Statement (.vand e a b c) := fun _ _ _ h => wordR_shape (by decide) (by decide) (by decide) h
theorem vor (e : Nat) (a b c : RegF) : Statement (.vor e a b c) := fun _ _ _ h => wordR_shape (by decide) (by decide) (by decide) h
theorem vxor (e : Nat) (a b c : RegF) : Statement (.vxor e a b c) := fun _ _ _ h => wordR_shape (by decide) (by decide) (by decide) h
theorem vsll (e : Nat) (a b c : RegF) : Statement (.vsll e a b c) := fun _ _ _ h => wordR_shape (by decide) (by decide) (by decide) h
theorem vsrl (e : Nat) (a b c : RegF) : Statement (.vsrl e a b c) := fun _ _ _ h => wordR_shape (by decide) (by decide) (by decide) h
theorem vsra (e : Nat) (a b c : RegF) : Statement (.vsra e a b c) := fun _ _ _ h => wordR_shape (by decide) (by decide) (by decide) h
theorem vfadd (e : Nat) (k : BitVec 7) (a b c : RegF) : Statement (.vfadd e k a b c) := fun _ _ _ h => wordR_shape (by decide) k.isLt (by decide) h
theorem vfsub (e : Nat) (k : BitVec 7) (a b c : RegF) : Statement (.vfsub e k a b c) := fun _ _ _ h => wordR_shape (by decide) k.isLt (by decide) h
theorem vfmul (e : Nat) (k : BitVec 7) (a b c : RegF) : Statement (.vfmul e k a b c) := fun _ _ _ h => wordR_shape (by decide) k.isLt (by decide) h
theorem vfmin (e : Nat) (k : BitVec 7) (a b c : RegF) : Statement (.vfmin e k a b c) := fun _ _ _ h => wordR_shape (by decide) k.isLt (by decide) h
theorem vfmax (e : Nat) (k : BitVec 7) (a b c : RegF) : Statement (.vfmax e k a b c) := fun _ _ _ h => wordR_shape (by decide) k.isLt (by decide) h
theorem vfdiv (e : Nat) (k : BitVec 7) (a b c : RegF) : Statement (.vfdiv e k a b c) := fun _ _ _ h => wordR_shape (by decide) k.isLt (by decide) h
theorem vfsqrt (e : Nat) (k : BitVec 7) (a b c : RegF) : Statement (.vfsqrt e k a b c) := fun _ _ _ h => wordR_shape (by decide) k.isLt (by decide) h
theorem vfabs (e : Nat) (k : BitVec 7) (a b c : RegF) : Statement (.vfabs e k a b c) := fun _ _ _ h => wordR_shape (by decide) k.isLt (by decide) h
theorem vcmp (e : Nat) (k : BitVec 7) (f : BitVec 3) (a b c : RegF) : Statement (.vcmp e k f a b c) := fun _ _ _ h => wordR_shape (by decide) k.isLt f.isLt h
theorem vsel (e : Nat) (k : BitVec 7) (a b c : RegF) : Statement (.vsel e k a b c) := fun _ _ _ h => wordR_shape (by decide) k.isLt (by decide) h
theorem vbcast (e : Nat) (k : BitVec 7) (a b c : RegF) : Statement (.vbcast e k a b c) := fun _ _ _ h => wordR_shape (by decide) k.isLt (by decide) h
theorem vget (e : Nat) (k : BitVec 7) (a b c : RegF) : Statement (.vget e k a b c) := fun _ _ _ h => wordR_shape (by decide) k.isLt (by decide) h
theorem vput (e : Nat) (k : BitVec 7) (a b c : RegF) : Statement (.vput e k a b c) := fun _ _ _ h => wordR_shape (by decide) k.isLt (by decide) h
theorem vperm (e : Nat) (k : BitVec 7) (a b c : RegF) : Statement (.vperm e k a b c) := fun _ _ _ h => wordR_shape (by decide) k.isLt (by decide) h
theorem viota (e : Nat) (k : BitVec 7) (a b c : RegF) : Statement (.viota e k a b c) := fun _ _ _ h => wordR_shape (by decide) k.isLt (by decide) h
theorem vcvt (e : Nat) (k : BitVec 7) (f : BitVec 3) (a b c : RegF) : Statement (.vcvt e k f a b c) := fun _ _ _ h => wordR_shape (by decide) k.isLt f.isLt h
theorem vact (e : Nat) (k : BitVec 7) (f : BitVec 3) (a b c : RegF) : Statement (.vact e k f a b c) := fun _ _ _ h => wordR_shape (by decide) k.isLt f.isLt h
theorem vsum (e : Nat) (k : BitVec 7) (a b c : RegF) : Statement (.vsum e k a b c) := fun _ _ _ h => wordR_shape (by decide) k.isLt (by decide) h
theorem vmaxr (e : Nat) (k : BitVec 7) (a b c : RegF) : Statement (.vmaxr e k a b c) := fun _ _ _ h => wordR_shape (by decide) k.isLt (by decide) h
theorem vargmax (e : Nat) (k : BitVec 7) (a b c : RegF) : Statement (.vargmax e k a b c) := fun _ _ _ h => wordR_shape (by decide) k.isLt (by decide) h
theorem visum (e : Nat) (k : BitVec 7) (a b c : RegF) : Statement (.visum e k a b c) := fun _ _ _ h => wordR_shape (by decide) k.isLt (by decide) h
theorem vld (e : Nat) (k : BitVec 7) (f : BitVec 3) (a b c : RegF) : Statement (.vld e k f a b c) := fun _ _ _ h => wordR_shape (by decide) k.isLt f.isLt h
theorem vst (e : Nat) (k : BitVec 7) (f : BitVec 3) (a b c : RegF) : Statement (.vst e k f a b c) := fun _ _ _ h => wordR_shape (by decide) k.isLt f.isLt h
theorem vrs (e : Nat) (k : BitVec 7) (f : BitVec 3) (a b c : RegF) : Statement (.vrs e k f a b c) := fun _ _ _ h => wordR_shape (by decide) k.isLt f.isLt h
theorem vcorr (e : Nat) (k : BitVec 7) (f : BitVec 3) (a b c : RegF) : Statement (.vcorr e k f a b c) := fun _ _ _ h => wordR_shape (by decide) k.isLt f.isLt h
theorem vsort (e : Nat) (k : BitVec 7) (a b c : RegF) : Statement (.vsort e k a b c) := fun _ _ _ h => wordR_shape (by decide) k.isLt (by decide) h
theorem vmerge (e : Nat) (k : BitVec 7) (a b c : RegF) : Statement (.vmerge e k a b c) := fun _ _ _ h => wordR_shape (by decide) k.isLt (by decide) h
theorem viou (e : Nat) (k : BitVec 7) (a b c : RegF) : Statement (.viou e k a b c) := fun _ _ _ h => wordR_shape (by decide) k.isLt (by decide) h
theorem pquant (e : Nat) (r : RegF) (rsv : BitVec 52) : Statement (.pquant e r rsv) := fun _ _ _ h => wordForm_shape (by decide) h
theorem psoftmax (e : Nat) (r : RegF) (rsv : BitVec 52) : Statement (.psoftmax e r rsv) := fun _ _ _ h => wordForm_shape (by decide) h
theorem plnorm (e : Nat) (r : RegF) (rsv : BitVec 52) : Statement (.plnorm e r rsv) := fun _ _ _ h => wordForm_shape (by decide) h
theorem prmsnorm (e : Nat) (r : RegF) (rsv : BitVec 52) : Statement (.prmsnorm e r rsv) := fun _ _ _ h => wordForm_shape (by decide) h
theorem ppool (e : Nat) (r : RegF) (rsv : BitVec 52) : Statement (.ppool e r rsv) := fun _ _ _ h => wordForm_shape (by decide) h
theorem pdwconv (e : Nat) (r : RegF) (rsv : BitVec 52) : Statement (.pdwconv e r rsv) := fun _ _ _ h => wordForm_shape (by decide) h
theorem pgconv (e : Nat) (r : RegF) (rsv : BitVec 52) : Statement (.pgconv e r rsv) := fun _ _ _ h => wordForm_shape (by decide) h
theorem pewise (e : Nat) (r : RegF) (rsv : BitVec 52) : Statement (.pewise e r rsv) := fun _ _ _ h => wordForm_shape (by decide) h
theorem canvasQueueExecute (e : Nat) (back : Bool) : Statement (.canvasQueueExecute e back) := fun _ _ _ h => nomatch h
theorem paletteQueueExecute (e : Nat) : Statement (.paletteQueueExecute e) := fun _ _ _ h => nomatch h
theorem primerJobStart (cluster : Nat) : Statement (.primerJobStart cluster) := fun _ _ _ h => nomatch h
theorem primerJobComplete (cluster : Nat) : Statement (.primerJobComplete cluster) := fun _ _ _ h => nomatch h
theorem shiftStep : Statement .shiftStep := fun _ _ _ h => nomatch h
theorem opChangeSettle (mv : Nat) : Statement (.opChangeSettle mv) := fun _ _ _ h => nomatch h
theorem stretcherLinkRetrain (link goodA goodB : Nat) : Statement (.stretcherLinkRetrain link goodA goodB) := fun _ _ _ h => nomatch h
theorem telemetrySample (t : Telemetry) : Statement (.telemetrySample t) := fun _ _ _ h => nomatch h
theorem pmAlert (anyFault : Bool) : Statement (.pmAlert anyFault) := fun _ _ _ h => nomatch h
theorem pwrAlert (asserted : Bool) : Statement (.pwrAlert asserted) := fun _ _ _ h => nomatch h
theorem alertAutoClear : Statement .alertAutoClear := fun _ _ _ h => nomatch h
theorem thermTrip : Statement .thermTrip := fun _ _ _ h => nomatch h
theorem scrubRead (array : EccArray) (addr : Nat) (bits : List Nat) : Statement (.scrubRead array addr bits) := fun _ _ _ h => nomatch h
theorem gddrRefresh (group channel bank : Nat) : Statement (.gddrRefresh group channel bank) := fun _ _ _ h => nomatch h
theorem gddrRetrack (group channel : Nat) (failed : Option EdcFail) : Statement (.gddrRetrack group channel failed) := fun _ _ _ h => nomatch h
theorem rowIdleClose (group channel bank : Nat) : Statement (.rowIdleClose group channel bank) := fun _ _ _ h => nomatch h
theorem memGroupTransitionDone (group : Nat) (retrained : Bool) : Statement (.memGroupTransitionDone group retrained) := fun _ _ _ h => nomatch h
theorem smbusReadStatus : Statement .smbusReadStatus := fun _ _ _ h => nomatch h
theorem smbusReadTemperature : Statement .smbusReadTemperature := fun _ _ _ h => nomatch h
theorem smbusReadPower : Statement .smbusReadPower := fun _ _ _ h => nomatch h
theorem smbusReadDieTemps : Statement .smbusReadDieTemps := fun _ _ _ h => nomatch h
theorem smbusReadIdentity : Statement .smbusReadIdentity := fun _ _ _ h => nomatch h
theorem smbusReadPwrStatus : Statement .smbusReadPwrStatus := fun _ _ _ h => nomatch h
theorem smbusWriteRefused (code : Byte) : Statement (.smbusWriteRefused code) := fun _ _ _ h => nomatch h
theorem smbusCopyRefresh : Statement .smbusCopyRefresh := fun _ _ _ h => nomatch h
theorem bypass : Statement .bypass := fun _ _ _ h => nomatch h
theorem idcode : Statement .idcode := fun _ _ _ h => nomatch h
theorem samplePreload (pins : List Bool) : Statement (.samplePreload pins) := fun _ _ _ h => nomatch h
theorem extest : Statement .extest := fun _ _ _ h => nomatch h
theorem highz : Statement .highz := fun _ _ _ h => nomatch h
theorem porNAssert (us : Nat) : Statement (.porNAssert us) := fun _ _ _ h => nomatch h
theorem powerLoss : Statement .powerLoss := fun _ _ _ h => nomatch h
theorem pcieLinkUp (speed width : BitVec 4) : Statement (.pcieLinkUp speed width) := fun _ _ _ h => nomatch h
theorem ethPortTrainFail (port : Nat) : Statement (.ethPortTrainFail port) := fun _ _ _ h => nomatch h
theorem ptpDelayReqSend : Statement .ptpDelayReqSend := fun _ _ _ h => nomatch h
theorem freedMemoryZeroed : Statement .freedMemoryZeroed := fun _ _ _ h => nomatch h

end Sys2Proof.Laws.Shape
end

