-- ==== Sys2Proof/Tests/Slice0.lean ====
section
/-!
SUPPORT. Tests of the model: ill-formed commands are refused; instruction words written from the manual's encoding tables decode; and, for the
statements of Certificates/Slice0/Obligations.lean that have hypotheses, small states that meet them.
-/
namespace Sys2Proof.Tests

-- one test at a time: in parallel, their stacks together exceed the memory limit of the check
set_option Elab.async false
open Sys2Proof.Machine

/-! ### Well-formedness: a command that names no unit of the part -/

theorem test_wf_easel_register_forms : ([.add 192 1 2 3, .sub 192 1 2 3, .andR 192 1 2 3, .orR 192 1 2 3, .xorR 192 1 2 3, .sll 192 1 2 3,
    .srl 192 1 2 3, .sra 192 1 2 3, .minR 192 1 2 3, .maxR 192 1 2 3, .minu 192 1 2 3, .maxu 192 1 2 3, .clz 192 1 2 0, .popc 192 1 2 0,
    .andn 192 1 2 3, .sel 192 1 1 2 3, .cmp 192 0 0 1 2 3, .pand 192 0 1 2 3, .por 192 0 1 2 3, .pxor 192 0 1 2 3, .pandn 192 0 1 2 3,
    .pnot 192 0 1 2 0, .pset 192 0 1 0 0, .ptos 192 0 1 0 0, .stop 192 0 0 1 0, .mul 192 0 1 2 3, .mulh 192 0 1 2 3, .mulhu 192 0 1 2 3,
    .div 192 0 1 2 3, .divu 192 0 1 2 3, .rem 192 0 1 2 3, .remu 192 0 1 2 3] : List Instr).all (fun c => !c.wf) = true := by decide

theorem test_wf_easel_immediate_forms : ([.addi 192 1 2 3, .andi 192 1 2 3, .ori 192 1 2 3, .xori 192 1 2 3, .slli 192 1 2 3, .srli 192 1 2 3,
    .srai 192 1 2 3, .luih 192 1 2, .lui 192 1 2, .cmpi 192 0 1 2 3, .ldl 192 0 1 2 3, .stl 192 0 1 2 3, .ldg 192 0 1 2 3, .stg 192 0 1 2 3,
    .br 192 1 2, .jal 192 1 2, .jalr 192 0 1 2 3, .dld 192 1 2 3, .dst 192 1 2 3, .dldg 192 1 2 3, .dstg 192 1 2 3, .drd 192 1 2 3,
    .dwr 192 1 2 3, .dcopy 192 1 2 0, .ecrr 192 1 0 0, .ecrw 192 0 1 0, .trap 192 0 0 0, .halt 192 0 0 0, .twait 192 0 0 0]
      : List Instr).all (fun c => !c.wf) = true := by decide

theorem test_wf_easel_control_forms : ([.take 192 1 2 0 3, .tset 192 0 1 2 3, .waitI 192 0 0 1 2, .waitSatisfied 192, .ring 192 0 0 1 2,
    .post 192 0 0 1 2, .collect 192 0 1 0 0, .barrier 192 0 0 1 0, .dispatch 192 0 0 1 2 3, .leafStart 192, .leafHalted 192,
    .watchdogExpiry 192, .swap 192 0, .loadacc 192 0 0 0 0 0, .drain 192 0 0 0 0 0, .canvasQueueExecute 192 true, .paletteQueueExecute 192,
    .plaunch 192 0 0 0 1 0, .plaunchF 192 1 2 3 0, .pwait 192 0 0 0 0 0, .loanStart 192, .loanRecall 192 .span, .mbEmbxDataWrite 192 0,
    .mbFromDataRead 192] : List Instr).all (fun c => !c.wf) = true := by decide

theorem test_wf_palette_forms : ([.vadd 192 1 2 3, .vsub 192 1 2 3, .vmul 192 1 2 3, .vmin 192 1 2 3, .vmax 192 1 2 3, .vand 192 1 2 3,
    .vor 192 1 2 3, .vxor 192 1 2 3, .vsll 192 1 2 3, .vsrl 192 1 2 3, .vsra 192 1 2 3, .vfadd 192 0 1 2 3, .vfsub 192 0 1 2 3,
    .vfmul 192 0 1 2 3, .vfmin 192 0 1 2 3, .vfmax 192 0 1 2 3, .vfdiv 192 0 1 2 3, .vfsqrt 192 0 1 2 0, .vfabs 192 0 1 2 0,
    .vcmp 192 0 0 1 2 3, .vsel 192 0 1 2 3, .vbcast 192 0 1 2 0, .vget 192 0 1 2 0, .vput 192 0 1 2 0, .vperm 192 0 1 2 3, .viota 192 0 1 2 0,
    .vcvt 192 0 0 1 2 0, .vact 192 0 0 1 2 0, .vsum 192 0 1 2 0, .vmaxr 192 0 1 2 0, .vargmax 192 0 1 2 0, .visum 192 0 1 2 0,
    .vld 192 0 0 1 2 0, .vst 192 0 0 1 2 0, .vrs 192 0 0 1 2 3, .vcorr 192 0 0 1 2 3, .vsort 192 0 2 0 0, .vmerge 192 0 2 4 0,
    .viou 192 0 1 4 8, .pquant 192 1 0, .psoftmax 192 1 0, .plnorm 192 1 0, .prmsnorm 192 1 0, .ppool 192 1 0, .pdwconv 192 1 0,
    .pgconv 192 1 0, .pewise 192 1 0] : List Instr).all (fun c => !c.wf) = true := by decide

/-- A tensor movement word with every field 0, and a STROKE word likewise. -/
def move0 : MoveF := { rsv := 0, dev := 0, tb := 0, ta := 0, rg := 0, rf := 0, rl := 1, rc := 2, trk := 0, dn := 0 }
def stroke0 : StrokeF := { rsv := 0, clr := 0, neg := 0, lt := 0, mode := 0, tf := 0, lf := 0, rp := 1, rk := 2, rt := 3, rl := 4 }

theorem test_wf_wide_forms : ([.fetch 192 move0, .put 192 move0, .stroke 192 stroke0, .ewise 192 stroke0, .trackOpComplete 192 0,
    .trackOpComplete 0 8] : List Instr).all (fun c => !c.wf) = true := by decide

theorem test_wf_queue_commands : ([.dbSqWrite 64 0, .resume 64, .hqQnCqConsWrite 64 0, .submissionFetch 64, .commandStart 64,
    .commandComplete 64 0, .cqCoalTimer 64, .nop 64 0, .atlSet 64 0, .atlDelete 64 0, .partCreate 64 0, .partLoad 64 0, .partTiming 64 0,
    .partStart 64 0, .partStop 64 0, .partDelete 64 0, .weightSwap 64 0, .sitRegister 64 0, .sitUpdate 64 0, .sitDelete 64 0,
    .sitParamsets 64 0, .pbqMark 64 0, .ifSet 64 0, .ifClear 64 0, .dmxSet 64 0, .dmxClear 64 0, .inject 64 0, .setTime 64 0,
    .replaySetTime 64 0, .replayAdvance 64 0, .ringSet 64 0, .ringDelete 64 0, .adaptSamples 64 0 [], .adaptStart 64 0, .adaptAbort 64 0,
    .memGroup 64 0, .memInject 64 0, .secCerts 64 0, .quote 64 0, .measLog 64 0, .measExtend 64 0, .licInstall 64 0 true true,
    .licRemove 64 0 true, .licList 64 0] : List Instr).all (fun c => !c.wf) = true := by decide

theorem test_wf_host_accesses : ([.registerWrite 1 0 4 0, .registerWrite 0 0x3FFFFFC 8 0, .registerReadCapture 2 0x400000 4,
    .registerReadCapture 7 0xFFE 4, .registerWrite 7 0 8 0, .barReadShapeAbort 4 0 2, .bar4Read 0x7FFFFFFFF 2, .bar4Write 0x800000000 [0],
    .poisonedTlpReceived 7 0 4, .laneMarginCommand 16 0, .hostReadCompletion 1024 (.failed .poisoned), .completionTimeout 1024, .msixMessageSend 256,
    .dbHostMaskWrite 17 0, .hqRingConsWrite 64 0] : List Instr).all (fun c => !c.wf) = true := by decide

/-- A picture description with nothing in it, and a frame of no body. -/
def pic0 : PicDesc :=
  { type := .idr, ref := false, poc := 0, frameNum := 0, refs := [], keep := [], sets := [], excluded := false,
    jpeg := { mode := .baseline, precision := 8, width := 16, height := 16, chroma := .c444, scanBits := 0 }, vclBytes := 0, order := [],
    slices := [], recovery := none, luma := [], cb := [], cr := [], blocks := [], residual := [] }
def frame0 : Frame := { dst := 0, src := 0, vlan := 0, length := 64, fcsOk := true, ipSumOk := true, body := .other, raw := [] }

theorem test_wf_engines_and_sittings : ([.partitionRestart 16 0, .replaySitting 16 0, .sittingInstant 16 0, .resultBlockTake 16, .cropListTake 16,
    .flowRequestTake 0 16, .flowRequestTake 2 0, .flowComplete 2, .framingSlotStart 8, .framingSlotComplete 8, .decodeStart 36 pic0,
    .decodeComplete 36 0, .engineDomainGate .vde 32, .engineDomainGate .jd 4, .engineDomainGate .fu 8, .engineDomainGate .ms 2,
    .resultGroupWrite 2048, .reorderGapTimeout 2048, .ringIntrTimer 64, .primerJobStart 24, .primerJobComplete 24, .atelierComplete 192,
    .atelierComplete 0x7FFF, .atelierComplete 0x8100] : List Instr).all (fun c => !c.wf) = true := by decide

theorem test_wf_ports_and_memory : ([.ethPortLinkChange 8 true, .ethFrameReceive 8 frame0, .mcastStateChangeReport 32 0, .ethPortTrainFail 2,
    .stretcherLinkRetrain 19 72 72, .stretcherLinkRetrain 0 73 72, .stretcherLinkRetrain 0 72 73, .scrubRead .gddr6 4 [],
    .scrubRead .gddr6 0x60000000 [], .scrubRead (.localStore 192) 0 [], .scrubRead (.localStore 0) 0x200000 [],
    .scrubRead (.instStore 0) 0x10000 [], .scrubRead (.regFile 192) 0 [], .scrubRead .gallery 0x1002000000 [],
    .scrubRead .medSram 0x1083400000 [], .scrubRead .hubSram 0x10C1400000 [], .gddrRefresh 16 0 0, .gddrRefresh 0 2 0, .gddrRefresh 0 0 16,
    .gddrRetrack 16 0 none, .gddrRetrack 0 2 none, .gddrRetrack 0 0 (some ⟨128, .scrub⟩),
    .gddrRetrack 0 0 (some ⟨0x60000000, .scrub⟩), .gddrRetrack 0 0 (some ⟨0, .primer 24⟩), .gddrRetrack 0 0 (some ⟨0, .track 192 0⟩), .rowIdleClose 16 0 0, .rowIdleClose 0 2 0, .rowIdleClose 0 0 16, .memGroupTransitionDone 16 true]
      : List Instr).all (fun c => !c.wf) = true := by decide

/-- The highest numbers are units of the part. -/
theorem test_wf_accepts_last_units : ([.nop 63 0, .add 191 1 2 3, .laneMarginCommand 15 0, .dbHostMaskWrite 16 0, .registerWrite 7 0xFFC 4 0,
    .registerReadCapture 0 0x3FFFFF8 8, .partitionRestart 15 0, .decodeStart 35 pic0, .engineDomainGate .ms 1, .atelierComplete 0x80FF,
    .stretcherLinkRetrain 18 72 0, .scrubRead .gddr6 0x7DFFFFFF8 [], .scrubRead .gallery 0x1015FFFFF8 [], .gddrRefresh 15 1 15]
      : List Instr).all (fun c => c.wf) = true := by decide

/-! ### Instruction words, bit by bit from the encoding tables -/

/-- Format R: k, f, c, b, a, major, length bit 0 (R157). Format I: imm, f, b, a, major (R157). Format U: imm, a, major (R157). -/
def rWord (k : BitVec 7) (f : BitVec 3) (c b a : BitVec 5) (major : BitVec 6) : Nat := (k ++ f ++ c ++ b ++ a ++ major ++ 0#1).toNat
def iWord (imm : BitVec 12) (f : BitVec 3) (b a : BitVec 5) (major : BitVec 6) : Nat := (imm ++ f ++ b ++ a ++ major ++ 0#1).toNat
def uWord (imm : BitVec 20) (a : BitVec 5) (major : BitVec 6) : Nat := (imm ++ a ++ major ++ 0#1).toNat
/-- Major 0x00, K = 0 (R160). -/
theorem test_words_alu : decodeCaruk 9 (rWord 0b0000000 0b000 0b00011 0b00010 0b00001 0b000000) = some (.add 9 1 2 3)
    ∧ decodeCaruk 9 (rWord 0b0000000 0b001 0b00011 0b00010 0b00001 0b000000) = some (.sub 9 1 2 3)
    ∧ decodeCaruk 9 (rWord 0b0000000 0b010 0b00011 0b00010 0b00001 0b000000) = some (.andR 9 1 2 3)
    ∧ decodeCaruk 9 (rWord 0b0000000 0b011 0b00011 0b00010 0b00001 0b000000) = some (.orR 9 1 2 3)
    ∧ decodeCaruk 9 (rWord 0b0000000 0b100 0b00011 0b00010 0b00001 0b000000) = some (.xorR 9 1 2 3)
    ∧ decodeCaruk 9 (rWord 0b0000000 0b101 0b00011 0b00010 0b00001 0b000000) = some (.sll 9 1 2 3)
    ∧ decodeCaruk 9 (rWord 0b0000000 0b110 0b00011 0b00010 0b00001 0b000000) = some (.srl 9 1 2 3)
    ∧ decodeCaruk 9 (rWord 0b0000000 0b111 0b00011 0b00010 0b00001 0b000000) = some (.sra 9 1 2 3) := by
  decide

/-- Major 0x00, K = 1 and K = 16 + p (R160). -/
theorem test_words_alu1 : decodeCaruk 9 (rWord 0b0000001 0b000 0b00011 0b00010 0b00001 0b000000) = some (.minR 9 1 2 3)
    ∧ decodeCaruk 9 (rWord 0b0000001 0b001 0b00011 0b00010 0b00001 0b000000) = some (.maxR 9 1 2 3)
    ∧ decodeCaruk 9 (rWord 0b0000001 0b010 0b00011 0b00010 0b00001 0b000000) = some (.minu 9 1 2 3)
    ∧ decodeCaruk 9 (rWord 0b0000001 0b011 0b00011 0b00010 0b00001 0b000000) = some (.maxu 9 1 2 3)
    ∧ decodeCaruk 9 (rWord 0b0000001 0b100 0b00000 0b00010 0b00001 0b000000) = some (.clz 9 1 2 0)
    ∧ decodeCaruk 9 (rWord 0b0000001 0b101 0b00000 0b00010 0b00001 0b000000) = some (.popc 9 1 2 0)
    ∧ decodeCaruk 9 (rWord 0b0000001 0b110 0b00011 0b00010 0b00001 0b000000) = some (.andn 9 1 2 3)
    ∧ decodeCaruk 9 (rWord 0b0010111 0b000 0b00011 0b00010 0b00001 0b000000) = some (.sel 9 7 1 2 3) := by
  decide

/-- Majors 0x01 to 0x03 (R160). -/
theorem test_words_immediate : decodeCaruk 9 (iWord 0b111111111111 0b000 0b00010 0b00001 0b000001) = some (.addi 9 1 2 0xFFF)
    ∧ decodeCaruk 9 (iWord 0b111111111111 0b001 0b00010 0b00001 0b000001) = some (.andi 9 1 2 0xFFF)
    ∧ decodeCaruk 9 (iWord 0b111111111111 0b010 0b00010 0b00001 0b000001) = some (.ori 9 1 2 0xFFF)
    ∧ decodeCaruk 9 (iWord 0b111111111111 0b011 0b00010 0b00001 0b000001) = some (.xori 9 1 2 0xFFF)
    ∧ decodeCaruk 9 (iWord 0b000000111111 0b100 0b00010 0b00001 0b000001) = some (.slli 9 1 2 63)
    ∧ decodeCaruk 9 (iWord 0b000000111111 0b101 0b00010 0b00001 0b000001) = some (.srli 9 1 2 63)
    ∧ decodeCaruk 9 (iWord 0b000000111111 0b110 0b00010 0b00001 0b000001) = some (.srai 9 1 2 63)
    ∧ decodeCaruk 9 (uWord 0x80001 0b00001 0b000010) = some (.luih 9 1 0x80001)
    ∧ decodeCaruk 9 (uWord 0x80001 0b00001 0b000011) = some (.lui 9 1 0x80001) := by
  decide

/-- Majors 0x04 to 0x06 (R160). -/
theorem test_words_predicates : decodeCaruk 9 (rWord 0b0000000 0b101 0b00011 0b00010 0b00001 0b000100) = some (.cmp 9 5 0 1 2 3)
    ∧ decodeCaruk 9 (rWord 0b0000010 0b010 0b00011 0b00010 0b00111 0b000100) = some (.cmp 9 2 2 7 2 3)
    ∧ decodeCaruk 9 (iWord 0b100000000000 0b100 0b00010 0b00001 0b000101) = some (.cmpi 9 4 1 2 0x800)
    ∧ decodeCaruk 9 (rWord 0b0000000 0b000 0b00011 0b00010 0b00001 0b000110) = some (.pand 9 0 1 2 3)
    ∧ decodeCaruk 9 (rWord 0b0000000 0b001 0b00011 0b00010 0b00001 0b000110) = some (.por 9 0 1 2 3)
    ∧ decodeCaruk 9 (rWord 0b0000000 0b010 0b00011 0b00010 0b00001 0b000110) = some (.pxor 9 0 1 2 3)
    ∧ decodeCaruk 9 (rWord 0b0000000 0b011 0b00011 0b00010 0b00001 0b000110) = some (.pandn 9 0 1 2 3)
    ∧ decodeCaruk 9 (rWord 0b0000000 0b100 0b00000 0b00010 0b00001 0b000110) = some (.pnot 9 0 1 2 0)
    ∧ decodeCaruk 9 (rWord 0b0000001 0b101 0b00000 0b00000 0b00001 0b000110) = some (.pset 9 1 1 0 0)
    ∧ decodeCaruk 9 (rWord 0b0000000 0b110 0b00000 0b00000 0b00001 0b000110) = some (.ptos 9 0 1 0 0)
    ∧ decodeCaruk 9 (rWord 0b0000000 0b111 0b00000 0b00010 0b00000 0b000110) = some (.stop 9 0 0 2 0) := by
  decide

/-- Major 0x07 (R160). -/
theorem test_words_muldiv : decodeCaruk 9 (rWord 0b0000000 0b000 0b00011 0b00010 0b00001 0b000111) = some (.mul 9 0 1 2 3)
    ∧ decodeCaruk 9 (rWord 0b0000000 0b001 0b00011 0b00010 0b00001 0b000111) = some (.mulh 9 0 1 2 3)
    ∧ decodeCaruk 9 (rWord 0b0000000 0b010 0b00011 0b00010 0b00001 0b000111) = some (.mulhu 9 0 1 2 3)
    ∧ decodeCaruk 9 (rWord 0b0000000 0b011 0b00011 0b00010 0b00001 0b000111) = some (.div 9 0 1 2 3)
    ∧ decodeCaruk 9 (rWord 0b0000000 0b100 0b00011 0b00010 0b00001 0b000111) = some (.divu 9 0 1 2 3)
    ∧ decodeCaruk 9 (rWord 0b0000000 0b101 0b00011 0b00010 0b00001 0b000111) = some (.rem 9 0 1 2 3)
    ∧ decodeCaruk 9 (rWord 0b0000000 0b110 0b00011 0b00010 0b00001 0b000111) = some (.remu 9 0 1 2 3) := by
  decide

/-- Majors 0x08 to 0x0E (R162, R165). -/
theorem test_words_memory_branch : decodeCaruk 9 (iWord 0b111111111000 0b011 0b00010 0b00001 0b001000) = some (.ldl 9 3 1 2 0xFF8)
    ∧ decodeCaruk 9 (iWord 0b111111111000 0b011 0b00010 0b00001 0b001001) = some (.stl 9 3 1 2 0xFF8)
    ∧ decodeCaruk 9 (iWord 0b111111111000 0b011 0b00010 0b00001 0b001010) = some (.ldg 9 3 1 2 0xFF8)
    ∧ decodeCaruk 9 (iWord 0b111111111000 0b011 0b00010 0b00001 0b001011) = some (.stg 9 3 1 2 0xFF8)
    ∧ decodeCaruk 9 (uWord 0xFFFFE 0b01111 0b001100) = some (.br 9 15 0xFFFFE)
    ∧ decodeCaruk 9 (uWord 0x00010 0b00001 0b001101) = some (.jal 9 1 0x00010)
    ∧ decodeCaruk 9 (iWord 0b000000000100 0b000 0b00010 0b00001 0b001110) = some (.jalr 9 0 1 2 4) := by
  decide

/-- Majors 0x10 and 0x11 (R171, R179). -/
theorem test_words_sync_dispatch : decodeCaruk 9 (rWord 0b0000111 0b000 0b01111 0b00000 0b00001 0b010000) = some (.take 9 7 1 0 15)
    ∧ decodeCaruk 9 (rWord 0b0000000 0b001 0b00011 0b00010 0b01111 0b010000) = some (.tset 9 0 15 2 3)
    ∧ decodeCaruk 9 (rWord 0b0000000 0b010 0b00011 0b00010 0b00000 0b010000) = some (.waitI 9 0 0 2 3)
    ∧ decodeCaruk 9 (rWord 0b0000000 0b011 0b00011 0b00010 0b00000 0b010000) = some (.ring 9 0 0 2 3)
    ∧ decodeCaruk 9 (rWord 0b0000111 0b100 0b00011 0b00010 0b00000 0b010000) = some (.post 9 7 0 2 3)
    ∧ decodeCaruk 9 (rWord 0b0000111 0b101 0b00000 0b00000 0b00001 0b010000) = some (.collect 9 7 1 0 0)
    ∧ decodeCaruk 9 (rWord 0b0000000 0b110 0b00000 0b00010 0b00000 0b010000) = some (.barrier 9 0 0 2 0)
    ∧ decodeCaruk 9 (rWord 0b0011111 0b000 0b00011 0b00010 0b00001 0b010001) = some (.dispatch 9 31 0 1 2 3) := by
  decide

/-- Majors 0x12 and 0x13 (R164, R173). -/
theorem test_words_system_descriptor : decodeCaruk 9 (iWord 0b001100000001 0b000 0b00000 0b00001 0b010010) = some (.ecrr 9 1 0 0x301)
    ∧ decodeCaruk 9 (iWord 0b000000100001 0b001 0b00010 0b00000 0b010010) = some (.ecrw 9 0 2 0x021)
    ∧ decodeCaruk 9 (iWord 0b101010111100 0b010 0b00000 0b00000 0b010010) = some (.trap 9 0 0 0xABC)
    ∧ decodeCaruk 9 (iWord 0b000000000000 0b011 0b00000 0b00000 0b010010) = some (.halt 9 0 0 0)
    ∧ decodeCaruk 9 (iWord 0b000010000001 0b100 0b00000 0b00000 0b010010) = some (.twait 9 0 0 0x81)
    ∧ decodeCaruk 9 (iWord 0b000000100000 0b000 0b00010 0b01111 0b010011) = some (.dld 9 15 2 0x020)
    ∧ decodeCaruk 9 (iWord 0b000000100000 0b001 0b00010 0b01111 0b010011) = some (.dst 9 15 2 0x020)
    ∧ decodeCaruk 9 (iWord 0b000000100000 0b010 0b00010 0b01111 0b010011) = some (.dldg 9 15 2 0x020)
    ∧ decodeCaruk 9 (iWord 0b000000100000 0b011 0b00010 0b01111 0b010011) = some (.dstg 9 15 2 0x020)
    ∧ decodeCaruk 9 (iWord 0b000000000011 0b100 0b01111 0b00001 0b010011) = some (.drd 9 1 15 3)
    ∧ decodeCaruk 9 (iWord 0b000000000011 0b101 0b01111 0b00001 0b010011) = some (.dwr 9 1 15 3)
    ∧ decodeCaruk 9 (iWord 0b000000000000 0b110 0b01111 0b00001 0b010011) = some (.dcopy 9 1 15 0) := by
  decide

/-- 64-bit majors 0x01 and 0x02 (R158). -/
theorem test_words_movement : decodeCaruk 9 ((0#25 ++ 1#1 ++ 3#2 ++ 1#2 ++ 5#5 ++ 4#5 ++ 3#5 ++ 2#5 ++ 7#3 ++ 15#4 ++ 0b000001#6 ++ 1#1).toNat)
      = some (.fetch 9 { rsv := 0, dev := 1, tb := 3, ta := 1, rg := 5, rf := 4, rl := 3, rc := 2, trk := 7, dn := 15 })
    ∧ decodeCaruk 9 ((0#25 ++ 0#1 ++ 0#2 ++ 2#2 ++ 5#5 ++ 0#5 ++ 3#5 ++ 2#5 ++ 0#3 ++ 1#4 ++ 0b000010#6 ++ 1#1).toNat)
      = some (.put 9 { rsv := 0, dev := 0, tb := 0, ta := 2, rg := 5, rf := 0, rl := 3, rc := 2, trk := 0, dn := 1 }) := by
  decide

/-- The Canvas (R204, R205), with the manual's INT4 stroke word. -/
theorem test_words_canvas : decodeCaruk 9 0x000000201358B521 = some (.stroke 9 { rsv := 0, clr := 1, neg := 0, lt := 0, mode := 0, tf := 0, lf := 2, rp := 13, rk := 12, rt := 11, rl := 10 })
    ∧ decodeCaruk 9 ((0#26 ++ 0#1 ++ 1#1 ++ 1#1 ++ 2#2 ++ 5#3 ++ 4#3 ++ 13#5 ++ 12#5 ++ 11#5 ++ 10#5 ++ 0b010001#6 ++ 1#1).toNat)
      = some (.ewise 9 { rsv := 0, clr := 0, neg := 1, lt := 1, mode := 2, tf := 5, lf := 4, rp := 13, rk := 12, rt := 11, rl := 10 })
    ∧ decodeCaruk 9 (rWord 0b0000000 0b000 0b00000 0b00000 0b00000 0b100000) = some (.swap 9 0)
    ∧ decodeCaruk 9 (rWord 0b0000001 0b011 0b00000 0b00000 0b00100 0b100001) = some (.loadacc 9 1 3 4 0 0)
    ∧ decodeCaruk 9 (rWord 0b0000000 0b001 0b00000 0b00110 0b00000 0b100001) = some (.loadacc 9 0 1 0 6 0)
    ∧ decodeCaruk 9 (rWord 0b1000101 0b101 0b00000 0b00000 0b00100 0b100010) = some (.drain 9 0b1000101 5 4 0 0) := by
  decide

/-- Major 0x28 (R238). -/
theorem test_words_palette_integer : decodeCaruk 9 (rWord 0b0000000 0b000 0b00011 0b00010 0b00001 0b101000) = some (.vadd 9 1 2 3)
    ∧ decodeCaruk 9 (rWord 0b0000000 0b001 0b00011 0b00010 0b00001 0b101000) = some (.vsub 9 1 2 3)
    ∧ decodeCaruk 9 (rWord 0b0000000 0b010 0b00011 0b00010 0b00001 0b101000) = some (.vmul 9 1 2 3)
    ∧ decodeCaruk 9 (rWord 0b0000000 0b011 0b00011 0b00010 0b00001 0b101000) = some (.vmin 9 1 2 3)
    ∧ decodeCaruk 9 (rWord 0b0000000 0b100 0b00011 0b00010 0b00001 0b101000) = some (.vmax 9 1 2 3)
    ∧ decodeCaruk 9 (rWord 0b0000000 0b101 0b00011 0b00010 0b00001 0b101000) = some (.vand 9 1 2 3)
    ∧ decodeCaruk 9 (rWord 0b0000000 0b110 0b00011 0b00010 0b00001 0b101000) = some (.vor 9 1 2 3)
    ∧ decodeCaruk 9 (rWord 0b0000000 0b111 0b00011 0b00010 0b00001 0b101000) = some (.vxor 9 1 2 3)
    ∧ decodeCaruk 9 (rWord 0b0000001 0b000 0b00011 0b00010 0b00001 0b101000) = some (.vsll 9 1 2 3)
    ∧ decodeCaruk 9 (rWord 0b0000001 0b001 0b00011 0b00010 0b00001 0b101000) = some (.vsrl 9 1 2 3)
    ∧ decodeCaruk 9 (rWord 0b0000001 0b010 0b00011 0b00010 0b00001 0b101000) = some (.vsra 9 1 2 3) := by
  decide

/-- Majors 0x29 and 0x2A (R238). -/
theorem test_words_palette_float : decodeCaruk 9 (rWord 0b0000000 0b000 0b00011 0b00010 0b00001 0b101001) = some (.vfadd 9 0 1 2 3)
    ∧ decodeCaruk 9 (rWord 0b0000000 0b001 0b00011 0b00010 0b00001 0b101001) = some (.vfsub 9 0 1 2 3)
    ∧ decodeCaruk 9 (rWord 0b0000000 0b010 0b00011 0b00010 0b00001 0b101001) = some (.vfmul 9 0 1 2 3)
    ∧ decodeCaruk 9 (rWord 0b0000000 0b011 0b00011 0b00010 0b00001 0b101001) = some (.vfmin 9 0 1 2 3)
    ∧ decodeCaruk 9 (rWord 0b0000000 0b100 0b00011 0b00010 0b00001 0b101001) = some (.vfmax 9 0 1 2 3)
    ∧ decodeCaruk 9 (rWord 0b0000000 0b101 0b00011 0b00010 0b00001 0b101001) = some (.vfdiv 9 0 1 2 3)
    ∧ decodeCaruk 9 (rWord 0b0000000 0b110 0b00000 0b00010 0b00001 0b101001) = some (.vfsqrt 9 0 1 2 0)
    ∧ decodeCaruk 9 (rWord 0b0000000 0b111 0b00000 0b00010 0b00001 0b101001) = some (.vfabs 9 0 1 2 0)
    ∧ decodeCaruk 9 (rWord 0b0000001 0b011 0b00011 0b00010 0b00001 0b101010) = some (.vcmp 9 1 3 1 2 3) := by
  decide

/-- Majors 0x2B to 0x2E (R238). -/
theorem test_words_palette_lanes : decodeCaruk 9 (rWord 0b0011111 0b000 0b00011 0b00010 0b00001 0b101011) = some (.vsel 9 31 1 2 3)
    ∧ decodeCaruk 9 (rWord 0b0000000 0b001 0b00000 0b00010 0b00001 0b101011) = some (.vbcast 9 0 1 2 0)
    ∧ decodeCaruk 9 (rWord 0b0111111 0b010 0b00000 0b00010 0b00001 0b101011) = some (.vget 9 63 1 2 0)
    ∧ decodeCaruk 9 (rWord 0b0111111 0b011 0b00000 0b00010 0b00001 0b101011) = some (.vput 9 63 1 2 0)
    ∧ decodeCaruk 9 (rWord 0b0000000 0b100 0b00011 0b00010 0b00001 0b101011) = some (.vperm 9 0 1 2 3)
    ∧ decodeCaruk 9 (rWord 0b0000000 0b101 0b00000 0b00010 0b00001 0b101011) = some (.viota 9 0 1 2 0)
    ∧ decodeCaruk 9 (rWord 0b0000000 0b110 0b00000 0b00010 0b00001 0b101100) = some (.vcvt 9 0 6 1 2 0)
    ∧ decodeCaruk 9 (rWord 0b0000111 0b000 0b00000 0b00010 0b00001 0b101101) = some (.vact 9 7 0 1 2 0)
    ∧ decodeCaruk 9 (rWord 0b0000000 0b000 0b00000 0b00010 0b00001 0b101110) = some (.vsum 9 0 1 2 0)
    ∧ decodeCaruk 9 (rWord 0b0000000 0b001 0b00000 0b00010 0b00001 0b101110) = some (.vmaxr 9 0 1 2 0)
    ∧ decodeCaruk 9 (rWord 0b0000000 0b010 0b00000 0b00010 0b00001 0b101110) = some (.vargmax 9 0 1 2 0)
    ∧ decodeCaruk 9 (rWord 0b0000000 0b011 0b00000 0b00010 0b00001 0b101110) = some (.visum 9 0 1 2 0) := by
  decide

/-- Majors 0x2F to 0x34 (R238). -/
theorem test_words_palette_memory : decodeCaruk 9 (rWord 0b0000000 0b111 0b00000 0b00010 0b00001 0b101111) = some (.vld 9 0 7 1 2 0)
    ∧ decodeCaruk 9 (rWord 0b0000000 0b010 0b00000 0b00010 0b00001 0b110000) = some (.vst 9 0 2 1 2 0)
    ∧ decodeCaruk 9 (rWord 0b0111111 0b000 0b00011 0b00010 0b00001 0b110001) = some (.vrs 9 63 0 1 2 3)
    ∧ decodeCaruk 9 (rWord 0b0011111 0b000 0b00011 0b00010 0b00001 0b110010) = some (.vcorr 9 31 0 1 2 3)
    ∧ decodeCaruk 9 (rWord 0b0000000 0b000 0b00000 0b00000 0b00010 0b110011) = some (.vsort 9 0 2 0 0)
    ∧ decodeCaruk 9 (rWord 0b0000000 0b001 0b00000 0b00100 0b00010 0b110011) = some (.vmerge 9 0 2 4 0)
    ∧ decodeCaruk 9 (rWord 0b0111111 0b000 0b01000 0b00100 0b00001 0b110100) = some (.viou 9 63 1 4 8) := by
  decide

/-- The tensor forms (R246) and the Primer (R260). -/
theorem test_words_tensor_primer : decodeCaruk 9 ((0#52 ++ 21#5 ++ 0b100000#6 ++ 1#1).toNat) = some (.pquant 9 21 0)
    ∧ decodeCaruk 9 ((0#52 ++ 21#5 ++ 0b100001#6 ++ 1#1).toNat) = some (.psoftmax 9 21 0)
    ∧ decodeCaruk 9 ((0#52 ++ 21#5 ++ 0b100010#6 ++ 1#1).toNat) = some (.plnorm 9 21 0)
    ∧ decodeCaruk 9 ((0#52 ++ 21#5 ++ 0b100011#6 ++ 1#1).toNat) = some (.prmsnorm 9 21 0)
    ∧ decodeCaruk 9 ((0#52 ++ 21#5 ++ 0b100100#6 ++ 1#1).toNat) = some (.ppool 9 21 0)
    ∧ decodeCaruk 9 ((0#52 ++ 21#5 ++ 0b100101#6 ++ 1#1).toNat) = some (.pdwconv 9 21 0)
    ∧ decodeCaruk 9 ((0#52 ++ 21#5 ++ 0b100110#6 ++ 1#1).toNat) = some (.pgconv 9 21 0)
    ∧ decodeCaruk 9 ((0#52 ++ 21#5 ++ 0b100111#6 ++ 1#1).toNat) = some (.pewise 9 21 0)
    ∧ decodeCaruk 9 ((0#42 ++ 3#5 ++ 2#5 ++ 1#5 ++ 0b110000#6 ++ 1#1).toNat) = some (.plaunchF 9 1 2 3 0)
    ∧ decodeCaruk 9 (rWord 0b0000000 0b000 0b00000 0b00010 0b00000 0b111100) = some (.plaunch 9 0 0 0 2 0)
    ∧ decodeCaruk 9 (rWord 0b0000000 0b000 0b00000 0b00000 0b00000 0b111101) = some (.pwait 9 0 0 0 0 0) := by
  decide

/-- Undefined majors and selectors (R159, R160, R171, R173, R204, R238, R246, R260). -/
theorem test_words_undefined : decodeCaruk 9 (rWord 0b0000000 0b000 0b00000 0b00000 0b00000 0b001111) = none
    ∧ decodeCaruk 9 (rWord 0b0000000 0b000 0b00000 0b00000 0b00000 0b010100) = none
    ∧ decodeCaruk 9 (rWord 0b0000000 0b000 0b00000 0b00000 0b00000 0b011111) = none
    ∧ decodeCaruk 9 (rWord 0b0000000 0b000 0b00000 0b00000 0b00000 0b100011) = none
    ∧ decodeCaruk 9 (rWord 0b0000000 0b000 0b00000 0b00000 0b00000 0b100111) = none
    ∧ decodeCaruk 9 (rWord 0b0000000 0b000 0b00000 0b00000 0b00000 0b110101) = none
    ∧ decodeCaruk 9 (rWord 0b0000000 0b000 0b00000 0b00000 0b00000 0b111011) = none
    ∧ decodeCaruk 9 (rWord 0b0000000 0b000 0b00000 0b00000 0b00000 0b111110) = none
    ∧ decodeCaruk 9 (rWord 0b0000000 0b000 0b00000 0b00000 0b00000 0b111111) = none
    ∧ decodeCaruk 9 ((0#57 ++ 0b000000#6 ++ 1#1).toNat) = none
    ∧ decodeCaruk 9 ((0#57 ++ 0b000011#6 ++ 1#1).toNat) = none
    ∧ decodeCaruk 9 ((0#57 ++ 0b001111#6 ++ 1#1).toNat) = none
    ∧ decodeCaruk 9 ((0#57 ++ 0b010010#6 ++ 1#1).toNat) = none
    ∧ decodeCaruk 9 ((0#57 ++ 0b011111#6 ++ 1#1).toNat) = none
    ∧ decodeCaruk 9 ((0#57 ++ 0b101000#6 ++ 1#1).toNat) = none
    ∧ decodeCaruk 9 ((0#57 ++ 0b101111#6 ++ 1#1).toNat) = none
    ∧ decodeCaruk 9 ((0#57 ++ 0b110001#6 ++ 1#1).toNat) = none
    ∧ decodeCaruk 9 ((0#57 ++ 0b110011#6 ++ 1#1).toNat) = none
    ∧ decodeCaruk 9 ((0#57 ++ 0b110100#6 ++ 1#1).toNat) = none
    ∧ decodeCaruk 9 (rWord 0b0000001 0b111 0b00000 0b00000 0b00000 0b000000) = none
    ∧ decodeCaruk 9 (rWord 0b0000010 0b000 0b00000 0b00000 0b00000 0b000000) = none
    ∧ decodeCaruk 9 (iWord 0b000000000000 0b111 0b00000 0b00000 0b000001) = none
    ∧ decodeCaruk 9 (rWord 0b0000000 0b111 0b00000 0b00000 0b00000 0b000111) = none
    ∧ decodeCaruk 9 (rWord 0b0000000 0b111 0b00000 0b00000 0b00000 0b010000) = none
    ∧ decodeCaruk 9 (iWord 0b000000000000 0b101 0b00000 0b00000 0b010010) = none
    ∧ decodeCaruk 9 (iWord 0b000000000000 0b111 0b00000 0b00000 0b010011) = none
    ∧ decodeCaruk 9 (rWord 0b0000000 0b110 0b00000 0b00000 0b00000 0b101011) = none
    ∧ decodeCaruk 9 (rWord 0b0000000 0b100 0b00000 0b00000 0b00000 0b101110) = none := by
  decide


/-! ### Small states

`one E` is a part that is ready, with its link up and the bus master on, whose Easel 5 is E. `owned E` also has partition 0 on cluster 0, with the
first and the last Gallery granules of die 0, 32 MiB of group 0, and a sitter's stillness map. -/

def base : State :=
  { boot := { state := 1 }, board := { porAsserted := false, outputsHighZ := false }
    pcie := { linkUp := true, speed := 5, width := 4, memSpaceEn := true, busMasterEn := true } }
def one (E : Easel) : State := { base with easels := [(5, E)] }
def part0 : Part := { state := .running, root := 0x8007, maxSitters := 1, gallery := [(0, 0), (0, 507)], mem := [(0, 0, 2)] }
def owned (E : Easel) : State := { one E with parts := [(0, part0)] }

/-- A running Easel at an instruction, with these scalar registers. -/
def runs (l : Tbl U64) : Easel := { powered := true, running := true, pc := 0x100, s := l }

/-! ### Witnesses: the Easel's instructions -/

theorem test_hyp_ScalarResults : CanIssue (one (runs [])) 5 4 { sr := [1, 2, 3] } ∧ CanIssue (one (runs [])) 5 4 { sr := [31, 0] }
    ∧ CanIssue (one (runs [])) 5 4 { sr := [31] } ∧ (63 : BitVec 12).toNat < 64 := by
  unfold CanIssue CanFetch; decide

/-- The last instruction of the code region issues. -/
theorem test_hyp_CanFetch_last : CanFetch (one { runs [] with pc := 0xDFFC }) 5 4 ∧ CanFetch (one { runs [] with pc := 0xDFF8 }) 5 8 := by
  unfold CanFetch; decide

theorem test_hyp_IdleStepPassesTime : (one {}).pending = [] ∧ (one {}).ready = true ∧ (∀ x ∈ (one {}).easels, x.2.running = false)
    ∧ ({ base with boot := {} } : State).ready = false
    ∧ (let E : Easel := { runs [] with pc := 0xE000 }; (one E).easels = [(5, E)] ∧ E.running = true ∧ E.stall = .none ∧ E.codeLimit < E.pc + 4 ∧ E.pc + 4 ≤ 2 ^ 63)
    ∧ (let E : Easel := { runs [] with is := [(0x100, 0x7E)] }
       E.pc + 8 ≤ E.codeLimit ∧ E.pc % 4 = 0 ∧ ((one E).pass 40).nextCaruk 5 = none) := by decide

theorem test_hyp_MultiplyDivideResults : CanIssue (one (runs [(2, 0x8000000000000000), (3, 0xFFFFFFFFFFFFFFFF)])) 5 4 { sr := [1, 2, 3] }
    ∧ ((one (runs [(2, 0x8000000000000000), (3, 0xFFFFFFFFFFFFFFFF)])).easel 5).sr 2 = 0x8000000000000000
    ∧ (0x8000000000000000 : U64).toInt = -2 ^ 63 ∧ (0xFFFFFFFFFFFFFFFF : U64).toInt = -1 := by
  unfold CanIssue CanFetch; decide

theorem test_hyp_PredicateAndBranchResults : CanIssue (one (runs [])) 5 4 { sr := [7, 7, 7] } ∧ CanIssue (one (runs [])) 5 4 { sr := [7, 7] }
    ∧ CanIssue (one (runs [])) 5 4 { sr := [7] } ∧ CanIssue (one (runs [])) 5 4 {} ∧ (15 : RegF).toNat < 16 := by
  unfold CanIssue CanFetch; decide

theorem test_hyp_RegisterInstructionFrame : ((one (runs [])).easel 5).running = true
    ∧ (∃ t, exec (.add 5 1 2 3) (one (runs [])) = .next t ∧ (t.easel 5).running = true)
    ∧ ∃ t, exec (.cmp 5 0 0 7 2 3) (one (runs [])) = .next t ∧ (t.easel 5).running = true :=
  ⟨by decide, ⟨_, rfl, by decide⟩, ⟨_, rfl, by decide⟩⟩

theorem test_hyp_EaselFaultResults : carukWord (.clz 5 1 2 3) = some (5, 4, 0x03062080) ∧ encodingOk (.clz 5 1 2 3) = false
    ∧ CanFetch (one (runs [])) 5 4 ∧ (owned (runs [])).part? ((owned (runs [])).workPart 5) = some part0 ∧ part0.state = .running
    ∧ exWatchdog < 256 := by
  unfold CanFetch; decide

theorem test_hyp_FetchAndStallResults :
    (let s := one { runs [] with pc := 0xE000 }; s.board.clocksStopped = false ∧ (s.easel 5).running = true ∧ (s.easel 5).stall = .none
      ∧ (s.easel 5).codeLimit < (s.easel 5).pc + 4 ∧ carukWord (.swap 5 0) = some (5, 4, 0x40))
    ∧ ((one { runs [] with pc := 0x102 }).easel 5).pc % 4 ≠ 0 ∧ ((one {}).easel 5).running = false
    ∧ ((one { runs [] with stall := .halting }).easel 5).stall ≠ .none := by decide

/-- The last aligned doubleword and descriptor of the local store and of the Gallery. -/
def lastLs : Easel := runs [(2, 0x1FFFF8), (3, 0x1FFFE0)]
def lastGal : Easel := runs [(2, 0x1FFFFF8), (3, 0x1FFFFE0)]

theorem test_hyp_LoadAndDescriptorResults :
    CanIssue (one lastLs) 5 4 { sr := [1, 2] } ∧ (0x1FFFF8 : Nat) % 8 = 0 ∧ 0x1FFFF8 + 8 ≤ lastLs.lsLimit ∧ (one lastLs).lsStall 5 0x1FFFF8 8 false = false
    ∧ CanIssue (one lastLs) 5 4 { sr := [3] } ∧ 0x1FFFE0 + 32 ≤ lastLs.lsLimit ∧ (one lastLs).lsStall 5 0x1FFFE0 32 false = false
    ∧ CanIssue (owned lastGal) 5 4 { sr := [1, 2] } ∧ 0x1FFFFF8 + 8 ≤ gallerySize
    ∧ (owned lastGal).ownsRange ((owned lastGal).workPart 5) (galleryBase (dieOf 5) + 0x1FFFFF8, 8) = true
    ∧ CanIssue (owned lastGal) 5 4 { sr := [3] } ∧ (0x1FFFFE0 : Nat) % 32 = 0
    ∧ (owned lastGal).ownsRange ((owned lastGal).workPart 5) (galleryBase (dieOf 5) + 0x1FFFFE0, 32) = true
    ∧ (15 : RegF).toNat < 16 ∧ (3 : BitVec 12).toNat < 4 ∧ (owned lastGal).flipsIn [(galleryBase (dieOf 5) + 0x1FFFFF8, 8)] = []
    ∧ (let bad (n : Nat) := ({ owned lastGal with mem := { flips := [(galleryBase 0 + 0x1FFFFF8, List.range n)] } } : State).flipsIn
          [(galleryBase (dieOf 5) + 0x1FFFFF8, 8)]
       bad 2 ≠ [] ∧ (∀ g ∈ bad 2, g.2.length ≤ 2) ∧ ∃ g ∈ bad 3, 2 < g.2.length) := by
  unfold CanIssue CanFetch; decide

theorem test_hyp_StoreResults : CanIssue (one lastLs) 5 4 { sr := [1, 2] } ∧ CanIssue (one lastLs) 5 4 { sr := [2] } ∧ (3 : BitVec 3).toNat < 4
    ∧ (one lastLs).lsStall 5 0x1FFFF8 8 true = false ∧ CanIssue (owned lastGal) 5 4 { sr := [1, 3] } ∧ CanIssue (owned lastGal) 5 4 { sr := [3] } := by
  unfold CanIssue CanFetch; decide

/-- A FETCH to local bytes 0x1FFFF8 to 0x1FFFFF is outstanding on track 0. -/
def moving : TrackOp := { put := false, desc := 0, o := 0, rl := 0x1FFFC0, dev := false, ta := 0, tb := 0, flag := none }

theorem test_hyp_AccessFaultOrder : CanIssue (one lastLs) 5 4 { sr := [1, 2] }
    ∧ ((one (runs [(2, 1)])).easel 5).sr 2 = 1 ∧ (1 : Nat) % 8 ≠ 0                       -- misaligned
    ∧ ((one (runs [(2, 0x200000)])).easel 5).lsLimit < 0x200000 + 8                        -- the first doubleword beyond the local store
    ∧ 0x2000000 < 0x2000000 + 8                                                            -- the first beyond the Gallery
    ∧ (owned lastGal).ownsRange ((owned lastGal).workPart 5) (galleryBase 0 + 0x3FFF8, 8) = false       -- reserved Gallery bytes
    ∧ (one { lastLs with tracks := [(0, [{ moving with desc := BitVec.ofNat 256 (2 ^ 56 + 64 * 2 ^ 64 + 2 ^ 80 + 2 ^ 96 + 2 ^ 112
        + 64 * 2 ^ 128 + 2 ^ 144 + 2 ^ 160 + 2 ^ 168) }])] }).lsStall 5 0x1FFFF8 8 false = true := by
  unfold CanIssue CanFetch; decide

/-- A tensor of 64 I8 codes in one row at the start of group 0: dim0 and tile0 64, every other extent 1, strides 64. -/
def desc0 : BitVec 256 := BitVec.ofNat 256 (64 * 2 ^ 64 + 2 ^ 80 + 2 ^ 96 + 2 ^ 112 + 64 * 2 ^ 128 + 2 ^ 144 + 2 ^ 160 + 2 ^ 168
  + 64 * 2 ^ 176 + 64 * 2 ^ 192 + 2 ^ 224)
def mover : Easel := { runs [(1, 0x1000), (3, 0x50000), (4, 9)] with d := [(0, desc0)] }
def moveW (dev : BitVec 1) (rf : RegF) : MoveF := { rsv := 0, dev := dev, tb := 0, ta := 0, rg := 4, rf := rf, rl := 1, rc := 2, trk := 7, dn := 0 }

theorem test_hyp_TensorMovementResults_local :
    let s := owned mover
    CanIssue s 5 8 { sr := [1, 2, 0, 4] } ∧ descCheck (decodeDesc desc0) 0 0x1000 0 0 false mover.lsLimit = none
      ∧ s.devCheck 5 (devRanges (decodeDesc desc0) 0) s.reachable = none ∧ s.flagCheck 5 none = none
      ∧ (mover.track 7).length < 4 ∧ (let x := locExtent false (decodeDesc desc0) 0 0 0; s.lsStall 5 (0x1000 + x.1) x.2 true = false)
      ∧ s.flagCheck 5 (some (0x40000, 9)) = none := by
  unfold CanIssue CanFetch; decide

theorem test_hyp_TensorMovementResults_device :
    let s := owned mover
    descCheck (decodeDesc desc0) 0 0x1000 0 0 true mover.lsLimit = none
      ∧ s.devCheck 5 [(0x1000, locBytes (decodeDesc desc0) 0 0)] (s.devDestOk 5) = none := by decide

theorem test_hyp_TensorMovementResults_complete :
    let s := owned { mover with tracks := [(7, [{ moving with desc := desc0, flag := some (0x40000, 9) }])] }
    s.board.clocksStopped = false ∧ s.mem.flips = [] ∧ (s.easel 5).track 7 = { moving with desc := desc0, flag := some (0x40000, 9) } :: []
    ∧ (s.setEasel 5 ((s.easel 5).setTrack 7 [])).racing 5 7 (devRanges (decodeDesc desc0) 0) = [] := by decide

theorem test_hyp_WorkCounterResults : CanIssue (one (runs [(2, 5), (3, 9)])) 5 4 { sr := [1] } ∧ CanIssue (one (runs [(2, 5), (3, 9)])) 5 4 { sr := [2, 3] }
    ∧ (7 : BitVec 7).toNat < 8 ∧ (15 : RegF).toNat < 16 := by
  unfold CanIssue CanFetch; decide

/-- Easel 5 names a flag in granule 0 (s2, generation s3), the whole of cluster 0 (s4), itself (s6), the host (s7), the Curator (s8), an Easel
of another cluster (s9), and Easel 6 (s10). -/
def syncer : Easel := { runs [(2, 0x40000), (3, 1), (4, 0x8007), (6, 5), (7, 0xFFFF), (8, 0xFFFE), (9, 8), (10, 6)] with disp := 0x01000005 }
def allOn (E : Easel) : State :=
  { owned E with easels := ([0, 1, 2, 3, 4] : List Nat).map (fun e => (e, ({ powered := true } : Easel))) ++ [(5, E), (6, { powered := true }), (7, { powered := true })] }

theorem test_hyp_WaitAndBarrierResults_wait :
    CanIssue (owned syncer) 5 4 { sr := [2, 3] } ∧ CanIssue (owned syncer) 5 4 { sr := [0, 0] } ∧ (0x40000 : Nat) % 8 = 0 ∧ 0x40000 + 8 ≤ gallerySize
    ∧ (owned syncer).ownsRange ((owned syncer).workPart 5) (galleryBase (dieOf 5) + 0x40000, 8) = true
    ∧ (owned syncer).flipsIn [(galleryBase (dieOf 5) + 0x40000, 8)] = []
    ∧ ((one { syncer with stall := .flag 0x40000 1 }).easel 5).stall = .flag 0x40000 1
    ∧ ((one { syncer with stall := .doorbell }).easel 5).stall = .doorbell := by
  unfold CanIssue CanFetch; decide

theorem test_hyp_WaitAndBarrierResults_barrier :
    CanIssue (allOn syncer) 5 4 { sr := [4] }
    ∧ (allOn syncer).unitAllowed 5 0x8007 = true ∧ 5 ∈ (allOn syncer).expansion 0x8007
    ∧ (∃ l ∈ (allOn syncer).expansion 0x8007, l ∉ 5 :: (allOn syncer).arrivedAt 0x8007)      -- not the last to arrive
    ∧ (∀ l ∈ (allOn syncer).expansion 5, l ∈ 5 :: (allOn syncer).arrivedAt 5)                -- alone: the last
    ∧ (allOn syncer).unitAllowed 5 5 = true
    ∧ (allOn syncer).unitAllowed 5 8 = false ∧ 5 ∉ (allOn syncer).expansion 6 := by
  unfold CanIssue CanFetch; decide

theorem test_hyp_RingPostCollectResults :
    CanIssue (allOn syncer) 5 4 { sr := [4, 3] } ∧ CanIssue (allOn syncer) 5 4 { sr := [1] } ∧ (7 : BitVec 7).toNat < 8
    ∧ (∀ l ∈ (allOn syncer).expansion 0x8007, ((allOn syncer).easel l).powered = true)
    ∧ (owned syncer).unitAllowed 5 0x8007 = true ∧ (∃ l ∈ (owned syncer).expansion 0x8007, ((owned syncer).easel l).powered = false)
    ∧ ((allOn syncer).easel ((allOn syncer).lead 0x8007)).powered = true ∧ ((allOn syncer).easel ((allOn syncer).lead 0x8007)).loan = none
    ∧ CanIssue (allOn syncer) 5 4 { sr := [7, 3] } ∧ CanIssue (allOn syncer) 5 4 { sr := [8, 3] } ∧ CanIssue (allOn syncer) 5 4 { sr := [9, 3] } := by
  unfold CanIssue CanFetch; decide

theorem test_hyp_ControlRegisterResults :
    CanIssue (owned (runs [])) 5 4 { sr := [31] } ∧ (owned (runs [])).workPart 5 < 16 ∧ (runs []).loan = none
    ∧ (owned (runs [])).op (5 / 32) < 8 ∧ (owned (runs [])).easelMhz 5 < 6400
    ∧ (runs []).frontQ = [] ∧ (runs []).backQ = [] ∧ (runs []).palQ = [] ∧ (runs []).tracks = []
    ∧ ({ runs [] with tracks := [(7, [moving, moving, moving, moving])] } : Easel).tracks = [(7, [moving, moving, moving, moving])]
    ∧ ((owned (runs [])).primer (5 / 8)).length ≤ 16 := by
  unfold CanIssue CanFetch; decide

/-- Values written to ECRs: windows of both kinds in range and out of range. -/
theorem test_hyp_ControlRegisterResults_writes : CanIssue (one (runs [(2, 0x80E00100)])) 5 4 { sr := [2] }
    ∧ (0x80E00100 : U64) &&& 0xFFFFFFFF7F00E0E0 = 0 ∧ 2 ^ 31 ≤ (0x80E00100 : U64).toNat
    ∧ (0x80E00100 : Nat) / 2 ^ 20 % 16 = 14 ∧ (0x80E00100 : Nat) / 2 ^ 8 % 32 = 1
    ∧ (0x80F00100 : U64) &&& 0xFFFFFFFF7F00E0E0 = 0 ∧ 14 < (0x80F00100 : Nat) / 2 ^ 20 % 16
    ∧ 2 ^ 32 ≤ (0x100000000 : U64).toNat ∧ (0x0F : U64).toNat < 16 := by
  unfold CanIssue CanFetch; decide

theorem test_hyp_SystemInstructionResults : CanIssue (one (runs [])) 5 4 {} ∧ (0xFF : BitVec 12).toNat < 256
    ∧ (∀ x ∈ (runs []).tracks, (0xFF : BitVec 12).getLsbD x.1 = true → x.2 = [])
    ∧ CanIssue (one { runs [] with tracks := [(7, [moving])] }) 5 4 {}
    ∧ (∃ x ∈ ({ runs [] with tracks := [(7, [moving])] } : Easel).tracks, (0x80 : BitVec 12).getLsbD x.1 = true ∧ x.2 ≠ [])
    ∧ ((one {}).easel 5).running = false ∧ 1000 * (1000 : U32).toNat ≤ ({ runs [] with wdog := 1000, wdogNs := 1000000 } : Easel).wdogNs
    ∧ ({ runs [] with wdog := 1000, wdogNs := 999999 } : Easel).wdogNs < 1000 * (1000 : U32).toNat := by
  unfold CanIssue CanFetch; decide

theorem test_hyp_DispatchAndLeafStartResults_dispatch :
    CanIssue (allOn syncer) 5 4 { sr := [0, 10, 3] } ∧ (31 : BitVec 7).toNat < 32 ∧ (allOn syncer).unitAllowed 5 6 = true
    ∧ 5 ∉ (allOn syncer).expansion 6 ∧ (∀ d ∈ (allOn syncer).disps, isChunk d = false → d.unit.toNat ≠ 6) ∧ 5 ∈ (allOn syncer).expansion 0x8007 := by
  unfold CanIssue CanFetch; decide

/-- A dispatch to Easel 5, from the last entry point of the code region or from the first beyond it. -/
def disp5 (entry : Nat) : Disp := { unit := 5, entry := entry, arg := 77, issuer := .sitting 0, part := 0, toStart := [5], running := [] }
theorem test_hyp_DispatchAndLeafStartResults_waiting :
    ∃ d ∈ ({ allOn syncer with disps := [{ unit := 6, entry := 0, arg := 0, issuer := .easel 5 31, part := 0, toStart := [6], running := [] }] } : State).disps,
      isChunk d = false ∧ d.unit.toNat = 6 := by decide

def starts (entry : Nat) : State := { owned { powered := true, lastPart := some 0 } with disps := [disp5 entry] }

theorem test_hyp_DispatchAndLeafStartResults_leaf (entry : Nat) (h : entry = 0xDFFC ∨ entry = 0xE000 ∨ entry = 2) :
    let s := starts entry
    s.ready = true ∧ (s.easel 5).running = false ∧ (s.easel 5).loan = none ∧ s.reaching 5 = some (disp5 entry) ∧ (s.easel 5).lastPart = some 0
      ∧ (s.easel 5).powered = true ∧ (∃ d ∈ s.disps, d.unit.toNat = 5) := by
  rcases h with rfl | rfl | rfl <;> decide

theorem test_hyp_HaltAndCompletionResults :
    (let s := { owned { runs [] with stall := .halting } with disps := [{ disp5 0 with toStart := [], running := [5] }] }
     s.ready = true ∧ (s.easel 5).running = true ∧ (s.easel 5).stall = .halting ∧ (s.easel 5).loan = none ∧ (s.easel 5).tracks = []
      ∧ s.primer (5 / 8) = [])
    ∧ (∃ x ∈ ({ runs [] with stall := .halting, tracks := [(0, [moving])] } : Easel).tracks, x.2 ≠ [])
    ∧ (let d : Disp := { disp5 0 with unit := 6, issuer := .easel 5 31, toStart := [], running := [] }
       let s := { owned (runs []) with disps := [d] }
       s.dispTo 6 = some d ∧ d.issuer = .easel 5 31) := by decide

/-- Partition 1 (best effort) has a chunk ring of 64 entries at the start of its memory, and the entry's chunk fits the windows that Easel 5 of
partition 0 lends: instruction bytes 0x1000 to 0xDFFF and the whole local store but its first 64 KiB. -/
def chunkBytes : List (Nat × Byte) :=
  [(0x2000000, 1), (0x2000042, 0x10), (0x2000043, 2), (0x2000048, 4), (0x2000058, 1), (0x2000061, 0x10), (0x2000063, 2)]
def lends : State :=
  { owned { powered := true, lend := 0x80D11F01 } with
    parts := [(0, part0), (1, { state := .running, be := true, root := 0x8008, mem := [(0, 2, 1)], chunkRing := 0x2000000, chunkEntries := 64 })]
    mem := { dev := chunkBytes }, tb := { time := 1000 } }

theorem test_hyp_LoanResults_start : lends.ready = true ∧ lends.nextLoan = .start 1 0 5 ∧ lends.mem.flips = [] := by
  decide

theorem test_hyp_LoanResults_recall :
    let l : Loan :=
      { lender := 0, borrower := 1, index := 0, db := 0, mask := 0, mbx := {}, wdog := 0, pc := 0, s := [], p := 0, v := [], d := [], disp := 0, lend := 0,
        user := [], plFlags := 0, cvCount := 0, prDone := 0, iBase := 1, iSize := 13, lBase := 1, lSize := 31 }
    let s := { one { runs [] with loan := some l } with parts := [(0, { part0 with state := .ready })] }
    s.ready = true ∧ (s.easel 5).loan = some l ∧ (s.part l.lender).state ≠ .running ∧ (∀ j ∈ s.primer (5 / 8), j.easel = 5 → j.started = false) := by decide

/-! ### Witnesses: Canvas, Palette, Primer -/

def painter : Easel := runs [(1, 0x00010001), (2, 1), (3, 0x1000), (4, 0x2000), (5, 0x1FC000), (6, 0x1FFF00)]
def stroked : StrokeOp := strokeOf false painter stroke0

theorem test_hyp_CanvasResults_stroke :
    CanIssue (one painter) 5 8 { sr := [1, 2, 3, 4] } ∧ strokeFmtOk stroked = true ∧ strokeCheck stroked (2 ^ 32 ≤ (painter.sr 1).toNat) painter.lsLimit = none
    ∧ stroked.k ≠ 0 ∧ (one painter).lsStall 5 stroked.baseL (operandExtent stroked true) false = false
    ∧ (one painter).lsStall 5 stroked.baseT (operandExtent stroked false) false = false
    ∧ strokeFmtOk (strokeOf true painter stroke0) = true
    ∧ 4 ≤ ({ painter with frontQ := [.swap, .swap, .swap, .swap] } : Easel).frontQ.length := by
  unfold CanIssue CanFetch; decide

theorem test_hyp_CanvasResults_load_drain :
    CanIssue (one painter) 5 4 { sr := [5] } ∧ (painter.sr 5).toNat % 64 = 0 ∧ (painter.sr 5).toNat + 16384 ≤ painter.lsLimit
    ∧ (one painter).lsStall 5 0x1FC000 16384 true = false ∧ CanIssue (one painter) 5 4 { vr := [31] } ∧ CanIssue (one painter) 5 4 {}
    ∧ CanIssue (one painter) 5 4 { vwBack := (List.range 32).map ((0 : RegF).toNat + ·) } ∧ (32 : BitVec 7).toNat % 64 + 32 ≤ 64
    ∧ 4 ≤ ({ painter with backQ := [(0, .zero), (0, .zero), (0, .zero), (0, .zero)] } : Easel).backQ.length := by
  unfold CanIssue CanFetch; decide

theorem test_hyp_CanvasResults_queues : (one painter).board.clocksStopped = false
    ∧ ((one { painter with frontQ := [.stroke stroked] }).easel 5).frontQ = .stroke stroked :: []
    ∧ (∀ x ∈ ({ painter with frontQ := [.swap], backQ := [(1, .zero)] } : Easel).backQ, 0 < x.1)
    ∧ (∃ x ∈ ({ painter with frontQ := [.swap], backQ := [(0, .zero)] } : Easel).backQ, x.1 = 0) := by decide

theorem test_hyp_PaletteLaneIssueResults : CanIssue (one (runs [])) 5 4 { vr := [31, 31], vwPal := [31] } ∧ CanIssue (one (runs [])) 5 4 { sr := [31], vwPal := [31] }
    ∧ CanIssue (one (runs [])) 5 4 { vr := [31, 31, 31], vwPal := [31] } ∧ CanIssue (one (runs [])) 5 4 { sr := [31], vr := [31] }
    ∧ CanIssue (one (runs [])) 5 4 { sr := [31], vr := [31, 31], vwPal := [31] } ∧ CanIssue (one (runs [])) 5 4 { sr := [31], vr := [31], vwPal := [31] }
    ∧ CanIssue (one (runs [])) 5 4 { sr := [31], vr := [31, 31, 31], vwPal := [31] }
    ∧ (31 : BitVec 7).toNat < 32 ∧ (63 : BitVec 7).toNat < 64 ∧ (6 : BitVec 3) ≠ 7 ∧ (runs []).palQ.length < 4 := by
  unfold CanIssue CanFetch; decide

theorem test_hyp_PaletteMemoryAndTensorIssueResults_lanes :
    CanIssue (one painter) 5 4 { vr := [30, 31], vwPal := [30, 31] } ∧ CanIssue (one painter) 5 4 { vr := [31, 32], vwPal := [31, 32] }
    ∧ CanIssue (one painter) 5 4 { vr := [28, 29, 30, 31], vwPal := [28, 29, 30, 31] }
    ∧ CanIssue (one painter) 5 4 { vr := (List.range 4).map (28 + ·) ++ (List.range 4).map (28 + ·), vwPal := [31] }
    ∧ CanIssue (one painter) 5 4 { vr := (List.range 4).map (29 + ·) ++ (List.range 4).map (2 + ·), vwPal := [31] }
    ∧ CanIssue (one painter) 5 4 { sr := [6], vwPal := [31] } ∧ (painter.sr 6).toNat % 64 = 0 ∧ (painter.sr 6).toNat + 256 ≤ painter.lsLimit
    ∧ (one painter).lsStall 5 0x1FFF00 256 false = false ∧ CanIssue (one painter) 5 4 { sr := [6], vr := [31] }
    ∧ (one painter).lsStall 5 0x1FFF00 256 true = false ∧ painter.lsLimit < 0x1FFF40 + 256 := by
  unfold CanIssue CanFetch; decide

/-- The bytes of a block at 0x1000, given by offset; zeros are not listed. -/
def block (l : List (Nat × Byte)) : List (Nat × Byte) := l.map (fun x => (0x1000 + x.1, x.2))
/-- An FP32 form over one row of one element: input at 0x2000, output at 0x3000. -/
def plain : List (Nat × Byte) := [(1, 0x20), (12, 1), (14, 6), (25, 0x30), (36, 1), (38, 6)]
def tail1 : List (Nat × Byte) := [(80, 1), (82, 1), (84, 1)]
def former (l : List (Nat × Byte)) : Easel := { runs [(1, 0x1000)] with ls := block l }

/-- Fields of such a block, and of one with a kernel and weights or a second input. -/
def ref0 (at_ fmt : Nat) : LRef := { data := at_, scales := 0, list := 0, pitch := if at_ = 0 then 0 else 1, format := fmt, eMax := 0, tau := 0, rsv := 0 }
def fields (in2 : LRef) (k cOut cg : Nat) : PBlock :=
  { inp := ref0 0x2000 6, out := ref0 0x3000 6, in2 := in2, in2Zero := in2.data = 0, bias := 0, gamma := 0, hIn := 1, wIn := 1, c := 1, hOut := k, wOut := k
    cOut := cOut, kh := k, kw := k, sy := k, sx := k, dy := k, dx := k, padTop := 0, padLeft := 0, act := 0, op := 0, flags := 0, cg := cg, eps := 0
    rsvZero := true }

/-- Each form has fields that pass its checks; nothing uses the local store. -/
theorem test_hyp_PaletteMemoryAndTensorIssueResults_forms :
    ([(0, fields (ref0 0 0) 0 0 0), (1, fields (ref0 0 0) 0 0 0), (2, fields (ref0 0 0) 0 0 0), (3, fields (ref0 0 0) 0 0 0),
      (4, fields (ref0 0 0) 1 0 0), (5, fields (ref0 0x4000 4) 1 1 0), (6, fields (ref0 0x4000 4) 1 1 1), (7, fields (ref0 0x4000 6) 0 0 0)]
        : List (Nat × PBlock)).all (fun x => pParamCheck x.1 x.2 = none && pRangeCheck x.1 x.2 0x200000 = none) = true
    ∧ (one (former plain)).lsUses 5 = [] := by decide

theorem test_hyp_PaletteMemoryAndTensorIssueResults_issue : CanIssue (one (former plain)) 5 8 { sr := [1] }
    ∧ ((former plain).sr 1).toNat + 128 ≤ (former plain).lsLimit ∧ (one (former plain)).lsStall 5 0x1000 128 false = false
    ∧ decodePBlock (mreadN 0 (former (plain ++ tail1)).ls 0x1000 128) = fields (ref0 0 0) 0 0 0
    ∧ pParamCheck 0 { fields (ref0 0 0) 0 0 0 with hIn := 0 } = some 80
    ∧ pRangeCheck 0 { fields (ref0 0 0) 0 0 0 with inp := ref0 0x2001 6 } 0x200000 = some 0 := by
  unfold CanIssue CanFetch; decide

theorem test_hyp_PaletteQueueResults : (one painter).board.clocksStopped = false
    ∧ ({ painter with palQ := [.write [(31, List.replicate 64 1)] (some (31, 1)) 0] } : Easel).palQ = .write [(31, List.replicate 64 1)] (some (31, 1)) 0 :: []
    ∧ (List.replicate 64 (1 : BitVec 32)).length = 64 ∧ (31 : Nat) ≠ 0 := by decide

/-- A Primer job block: FIRST mode, 1 × 1 × 1, source 0x100, weights 0x40, params 0x80, destination 0x2000 with scales at 0x3000, in the local
store. -/
def primed : List (Nat × Byte) :=
  [(1, 1), (2, 1), (4, 1), (6, 1), (8, 1), (10, 1), (12, 1), (13, 1), (14, 1), (15, 1), (16, 1), (17, 1), (25, 1), (36, 1), (56, 0x40), (64, 0x80),
   (97, 0x20), (105, 0x30), (125, 1)]

theorem test_hyp_PrimerResults_launch :
    let s := owned { former primed with s := [(1, 0x1000), (2, 0x40000), (3, 1)] }
    let j := decodeJBlock (mreadN 0 (s.easel 5).ls 0x1000 128)
    CanIssue s 5 4 { sr := [1] } ∧ CanIssue s 5 8 { sr := [1, 2, 3] } ∧ CanIssue s 5 4 {} ∧ 0x1000 % 64 = 0 ∧ 0x1000 + 128 ≤ (s.easel 5).lsLimit
      ∧ s.lsStall 5 0x1000 128 false = false ∧ jParamCheck j = none ∧ jRangeCheck j (s.easel 5).lsLimit = none ∧ j.dstSpace = 1
      ∧ s.devCheck 5 (jInputs j) s.reachable = none ∧ (s.primer (5 / 8)).length < 16 ∧ (∀ o ∈ jOutputs j, s.lsStall 5 o.2.1 o.2.2 true = false)
      ∧ s.flagCheck 5 (some (0x40000, 1)) = none := by
  unfold CanIssue CanFetch; decide

theorem test_hyp_PrimerResults_job :
    let j : PrimerJob := { easel := 5, block := mreadN 0 (block primed) 0x1000 128, flag := none, part := 0 }
    let s := { owned painter with primers := [(0, [j])] }
    let r := { owned painter with primers := [(0, [{ j with started := true, acts := [0] }])] }
    s.board.clocksStopped = false ∧ s.primer 0 = j :: [] ∧ (∀ a ∈ jActs s.devN (decodeJBlock j.block), a ≤ 7)
      ∧ (∃ a ∈ jActs (s.setDev [(0x88, 8)]).devN (decodeJBlock j.block), 7 < a) ∧ r.primer 0 = { j with started := true, acts := [0] } :: []
      ∧ r.mem.flips = [] ∧ (∃ y ∈ s.primer (5 / 8), y.easel = 5) := by decide

/-! ### Witnesses: host accesses, queues, interrupts -/

theorem test_hyp_HostOn : HostOn base ∧ base.busOn = true ∧ base.barOn = true ∧ base.ready = true := by
  unfold HostOn; decide

theorem test_hyp_RegisterAccessResults : 0x3FFFFF8 + 8 ≤ base.barSize 0 ∧ 0x3FFFF8 + 8 ≤ base.barSize 2 ∧ base.gatedMbx 0 0 = false
    ∧ base.gatedMbx 0 0x3FFFFF8 = false ∧ (base.readReg 0 0).isSome = true ∧ base.readReg 0 0x3FFFFF8 = none ∧ base.readReg 2 0x3FFFF8 = none
    ∧ mbxData 0 0 = false := by decide

theorem test_hyp_RegisterAccessResults_writes : ¬ (((8 : Nat) = 4 ∨ (8 : Nat) = 8) ∧ (0x44 : Nat) % 8 = 0) ∧ (0xFF8 : Nat) % 8 = 0 ∧ 0x70 ≤ 0xFF8 ∧ 0xFF8 < 0x1000
    ∧ ({ base with pcie := {} } : State).barOn = false
    ∧ (let s : State := { base with boot := {} }; s.barOn = true ∧ s.boot.state = 0) := by decide

theorem test_hyp_MailboxStoreResults : ((one (runs [])).easel 5).powered = true ∧ ((one (runs [])).easel 5).loan = none ∧ (base.easel 191).powered = false
    ∧ ({ base with host := { base.host with h2c := { full := true } } } : State).host.h2c.full = true ∧ base.host.h2c.full = false := by decide

/-- Queue 63 holds entries of 16 slots, enabled, with vector 9, an event for each completion, and these commands. -/
def queueOf (cmds : List Cmd) : Queue :=
  { state := 1, cfg := BitVec.ofNat 64 (1 + 4 * 2 ^ 6 + 4 * 2 ^ 11 + 2 ^ 16 + 7 * 2 ^ 24 + 9 * 2 ^ 40), sqBase := 0x10000, cqBase := 0x20000, accepted := 4, tail := 4, cmds := cmds }
def qs (Q : Queue) : State := { base with host := { queues := [(63, Q)] } }

theorem test_hyp_DoorbellSqRule : HostOn (qs (queueOf [])) ∧ ((qs (queueOf [])).queue 63).state ≠ 0
    ∧ (((4 : U32).toNat : Int) - (4 : U32).toNat) % 2 ^ 32 = 0                                   -- nothing new
    ∧ (2 : Int) ^ 31 ≤ (((3 : U32).toNat : Int) - (4 : U32).toNat) % 2 ^ 32                      -- behind
    ∧ (((20 : U32).toNat : Int) - (4 : U32).toNat) % 2 ^ 32 = 2 ^ ((queueOf []).cfg.toNat / 2 ^ 6 % 32)      -- the last slot
    ∧ (2 : Int) ^ ((queueOf []).cfg.toNat / 2 ^ 6 % 32) < (((21 : U32).toNat : Int) - (4 : U32).toNat) % 2 ^ 32 := by
  unfold HostOn; decide

/-- A 64-byte submission entry of number n and opcode op. -/
def slot (n op : Byte) : List Byte := [n, 0, 0, 0, op, 0] ++ List.replicate 58 0

theorem test_hyp_ResumeRule : HostOn (qs { queueOf [] with state := 2 }) ∧ ((qs { queueOf [] with state := 2 }).queue 63).state = 2
    ∧ ((qs (queueOf [])).queue 63).state ≠ 2
    ∧ (let s := qs { queueOf [] with state := 2, tail := 20 }
       let Q := s.queue 63
       Q.fetching = false ∧ (Q.tail - Q.accepted).toNat = 16
        ∧ Q.cmds.length + (Q.written - Q.consumed).toNat < 2 ^ (Q.cfg.toNat / 2 ^ 11 % 32)
        ∧ (s.setQueue 63 { Q with state := 1, reason := 0 }).openCommands < 4096) := by
  unfold HostOn; decide

theorem test_hyp_IndexAndMaskRules :
    (let Q : Queue := { consumed := 3, written := 7 }
     let inside (v : U32) : Prop := ((v.toNat : Int) - Q.consumed.toNat) % 2 ^ 32 < 2 ^ 31
        ∧ ¬ (1 ≤ ((v.toNat : Int) - Q.written.toNat) % 2 ^ 32 ∧ ((v.toNat : Int) - Q.written.toNat) % 2 ^ 32 < 2 ^ 31)
     inside 3 ∧ inside 7 ∧ ¬ inside 2 ∧ ¬ inside 8)
    ∧ (let R : Ring := { cons := 3, prod := 7 }; R.cons.toNat ≤ (7 : U64).toNat ∧ (7 : U64).toNat ≤ R.prod.toNat ∧ (2 : U64).toNat < R.cons.toNat
        ∧ R.prod.toNat < (8 : U64).toNat)
    ∧ (let s : State := { base with host := { base.host with live := { base.host.live with sprxSize := 16, sptxSize := 16 } } }
       let c := s.host.live
       let ok (v n : Nat) : Prop := v % 8 = 0 ∧ v < 2 ^ n
       ok 0xFFF8 c.sprxSize.toNat ∧ ok 0xFFF8 c.sptxSize.toNat ∧ ¬ ok 0x10000 c.sptxSize.toNat ∧ ¬ ok 4 c.sprxSize.toNat ∧ s.slowBusy = false
        ∧ (0xFFF8 : U64) ≠ s.ing.sptxCons ∧ s.ing.sptxCons.toNat < 2 ^ c.sptxSize.toNat)
    ∧ (∃ i, i < 32 ∧ (0x80000000 : U32).getLsbD i = true ∧ (0x80000000 : U32).getLsbD i = true ∧ (0 : U32).getLsbD i = false)
    ∧ (∀ i, i < 32 → (0 : U32).getLsbD i = true → (0x80000000 : U32).getLsbD i = true → (0 : U32).getLsbD i = true) := by decide

theorem test_hyp_InterruptResults :
    let s : State := { base with pcie := { base.pcie with msixEnable := true, msix := [(255, { addr := 0xFEE00000, data := 5, masked := false })],
                                                           pba := BitVec.ofNat 256 (2 ^ 255) } }
    s.busOn = true ∧ s.pcie.msixEnable = true ∧ s.pcie.msixMask = false ∧ (s.msixEntry 255).masked = false ∧ s.pcie.pba.getLsbD 255 = true
      ∧ (base.msixEntry 0).masked = true := by decide

theorem test_hyp_CommitGroupRules_registers :
    (let c := ({ staged := { bar4Map := 0x7F0000000, pwrCtl := 1000 } , commit := 0x60 } : HostIf)
     c.commit.getLsbD 5 = true ∧ c.commit.getLsbD 6 = true ∧ c.staged.bar4Map.toNat < 2 ^ 35 ∧ c.staged.bar4Map.toNat % 2 ^ 28 = 0
      ∧ c.staged.pwrCtl.toNat < 2 ^ 17 ∧ 100 ≤ c.staged.pwrCtl.toNat % 2 ^ 16 ∧ c.staged.pwrCtl.toNat % 2 ^ 16 ≤ 1000)
    ∧ 2 ^ 35 ≤ (0x800000000 : U64).toNat ∧ (0x10 : U64).toNat % 2 ^ 28 ≠ 0
    ∧ ¬ ((99 : U64).toNat < 2 ^ 17 ∧ ((99 : U64).toNat % 2 ^ 16 = 0 ∨ 100 ≤ (99 : U64).toNat % 2 ^ 16 ∧ (99 : U64).toNat % 2 ^ 16 ≤ 1000))
    ∧ ({} : HostIf).commit.getLsbD 6 = false ∧ base.groupAsked .pwr = false := by decide

theorem test_hyp_CommitGroupRules_queue :
    (let Q : Queue := { commit := true, cfgS := BitVec.ofNat 64 (1 + 4 * 2 ^ 6 + 16 * 2 ^ 11), sqBaseS := 0x1000, cqBaseS := 0x2000 }
     Q.fetching = false ∧ Q.cfgS.toNat < 2 ^ 48 ∧ Q.cfgS.toNat / 2 % 32 = 0 ∧ Q.state = 0 ∧ Q.cfg.getLsbD 0 = false ∧ Q.cfgS.getLsbD 0 = true
      ∧ Q.cfgS.toNat / 2 ^ 6 % 32 = 4 ∧ Q.cfgS.toNat / 2 ^ 11 % 32 = 16 ∧ Q.sqBaseS.toNat % 4096 = 0 ∧ Q.cqBaseS.toNat % 4096 = 0)
    ∧ (let Q : Queue := { queueOf [] with commit := true, cfgS := (queueOf []).cfg - 1, sqBaseS := 0x10000, cqBaseS := 0x20000 }
       Q.cfgS.toNat < 2 ^ 48 ∧ Q.cfgS.toNat / 2 % 32 = 0 ∧ Q.state = 1 ∧ Q.cfg.getLsbD 0 = true ∧ Q.cfgS.getLsbD 0 = false ∧ Q.sqBaseS = Q.sqBase
        ∧ Q.cqBaseS = Q.cqBase ∧ Q.cfgS.toNat / 2 ^ 6 % 2 ^ 10 = Q.cfg.toNat / 2 ^ 6 % 2 ^ 10)
    ∧ ({ queueOf [] with sqBaseS := 0x3000 } : Queue).sqBaseS ≠ (queueOf []).sqBase := by decide

/-- A read of queue 63 is outstanding under tag 0: its next entry, or the input block of its command 4. -/
def reading (o : ReadOwner) (len : Nat) (Q : Queue) : State :=
  { qs Q with pcie := { base.pcie with reads := [{ tag := 0, xfer := 1, addr := 0x10140, off := 0, len := len }], nextXfer := 2
                                       xfers := [{ id := 1, owner := o, addr := 0x10140, len := len, issued := len }] } }

theorem test_hyp_FetchRule :
    (let s := qs { queueOf [] with tail := 5 }
     let Q := s.queue 63
     Q.state = 1 ∧ Q.fetching = false ∧ s.busOn = true ∧ 1 ≤ (Q.tail - Q.accepted).toNat ∧ (Q.tail - Q.accepted).toNat < 2 ^ 31
      ∧ Q.cmds.length + (Q.written - Q.consumed).toNat < 2 ^ (Q.cfg.toNat / 2 ^ 11 % 32) ∧ s.openCommands < 4096 ∧ s.freeTag true = some 0
      ∧ s.pcie.xfers = [] ∧ Q.sqBase.toNat % 4096 = 0 ∧ (decodeEntry (slot 5 1)).seq = Q.accepted + 1 ∧ (decodeEntry (slot 6 1)).seq ≠ Q.accepted + 1)
    ∧ (let s := reading (.fetch 63) 64 { queueOf [] with tail := 5, fetching := true }
       s.board.clocksStopped = false ∧ (s.queue 63).state = 1
        ∧ s.pcie.reads.find? (fun r => r.tag = 0) = some { tag := 0, xfer := 1, addr := 0x10140, off := 0, len := 64 }
        ∧ s.pcie.xfers.find? (fun x => x.id = 1) = some { id := 1, owner := .fetch 63, addr := 0x10140, len := 64, issued := 64 })
    ∧ (let s := reading (.cmd 63 4) 100 (queueOf [{ entry := { seq := 4, len0 := 100 }, started := true }])
       s.board.clocksStopped = false ∧ s.pcie.ctoDisable = false
        ∧ s.pcie.xfers.find? (fun x => x.id = 1) = some { id := 1, owner := .cmd 63 4, addr := 0x10140, len := 100, issued := 100 }) := by decide

def cmd1 (op : U16) (len0 : U32) : Cmd := { entry := { seq := 4, opcode := op, len0 := len0 } }

theorem test_hyp_CommandCompletionRule_start :
    let s (c : Cmd) := qs (queueOf [c])
    (s (cmd1 1 0)).nextQueue = some 63 ∧ ((s (cmd1 1 0)).queue 63).nextCmd = some (cmd1 1 0) ∧ entryError (cmd1 1 0).entry = 0
      ∧ entryError (cmd1 0xFF 0).entry ≠ 0 ∧ (s (cmd1 0xFF 0)).nextQueue = some 63
      ∧ entryError (cmd1 0x60 64).entry = 0 ∧ (s (cmd1 0x60 64)).nextQueue = some 63 := by decide

theorem test_hyp_CommandCompletionRule_complete :
    let c : Cmd := { cmd1 1 0 with started := true, block := some [], answer := some (0, 0) }
    let s := qs (queueOf [c])
    s.busOn = true ∧ (s.queue 63).cmds.find? (Cmd.answered 4) = some c ∧ c.answer = some (0, 0)
      ∧ 1 ≤ (s.queue 63).cfg.toNat / 2 ^ 16 % 256 ∧ (s.queue 63).cfg.toNat / 2 ^ 16 % 256 ≤ (s.queue 63).unsignalled + 1
      ∧ eraseFirst (Cmd.answered 4) (s.queue 63).cmds = []
      ∧ (let Q : Queue := { queueOf [] with unsignalled := 3 }; Q.unsignalled ≠ 0 ∧ Q.cfg.toNat / 2 ^ 24 % 2 ^ 16 ≠ 0) := by decide

/-- A state in which command 7 of queue 63, with this opcode, operands and input block, has started and is next to run. -/
def cmdIn (s : State) (op : U16) (a0 a1 : U64) (a2 : U32) (b : List Byte) : State :=
  let e : Entry := { seq := 7, opcode := op, arg0 := a0, arg1 := a1, arg2 := a2, addr1 := 0x40000, len0 := BitVec.ofNat 32 b.length }
  { s with host := { s.host with queues := [(63, { queueOf [{ entry := e, started := true, block := some b }] with accepted := 7 })] } }

theorem tfind_mem {α : Type} (l : Tbl α) (k : Nat) (v : α) (h : tfind l k = some v) : (k, v) ∈ l := by
  induction l with
  | nil => simp [tfind] at h
  | cons x l ih =>
    simp only [tfind] at h
    split at h
    · next hk => simp only [Option.some.injEq] at h; simp [← hk, ← h]
    · exact List.mem_cons_of_mem _ (ih h)

/-- Whatever the rest of the part holds, this command is ready when no partition restarts. -/
theorem test_hyp_CmdReady (s : State) (op : U16) (a0 a1 : U64) (a2 : U32) (b : List Byte) (hr : s.ready = true)
    (hp : ∀ x ∈ s.parts, x.2.state ≠ .restarting) :
    CmdReady (cmdIn s op a0 a1 a2 b) 63 7
      { seq := 7, opcode := op, arg0 := a0, arg1 := a1, arg2 := a2, addr1 := 0x40000, len0 := BitVec.ofNat 32 b.length } b := by
  refine ⟨by decide, hr, ?_, rfl⟩
  unfold State.heldBack
  split
  · next p _ =>
    split
    · next P h => have := hp (p, P) (tfind_mem _ _ _ h); simp_all
    · simp
  · simp

theorem test_hyp_Bar4Results : base.barOn = true ∧ 0xFFFFFF8 + 8 ≤ 2 ^ (28 + base.pcie.bar4Size)
    ∧ ({ base with parts := [(0, { part0 with mem := [(0, 0, 96)] })] } : State).bar4Ok 0xFFFFFF8 8 = true ∧ base.mem.flips = []
    ∧ (128 : Nat) ≤ 128 * 2 ^ base.pcie.maxPayload ∧ 128 * 2 ^ base.pcie.maxPayload < 129 ∧ 4096 < 4097
    ∧ ({ base with host := { base.host with live := { base.host.live with bar4Map := 0x60000000 } } } : State).bar4Ok 0x60000000 8 = false
    ∧ ({ base with boot := {} } : State).ready = false := by decide

theorem test_hyp_LinkResults : base.board.clocksStopped = false ∧ base.pcie.linkUp = true
    ∧ (let s : State := { base with pcie := {} }; s.pcie.linkUp = false ∧ s.board.porAsserted = false ∧ s.boot.journalOpen = false)
    ∧ 15 < 2 ^ base.pcie.width ∧ 4 ≤ base.pcie.speed
    ∧ (let s : State := { base with host := { base.host with live := { base.host.live with port1 := 1 } }, sec := { features := 15 } }
       s.portOn 1 = true ∧ s.macInUse 4 = true)
    ∧ (let s : State := { base with host := { base.host with live := { base.host.live with port1 := 1 } }, sec := { features := 15 } }; s.trains 1 = true)
    ∧ (∃ b : State, b.boot.journalOpen = true ∧ b.pcie.linkUp = false ∧ b.board.porAsserted = false) := by
  refine ⟨by decide, by decide, by decide, by decide, by decide, by decide, by decide,
    ⟨{ base with boot := { state := 1, steps := [(7, { result := 1 })] }, pcie := {} }, by decide⟩⟩

theorem test_hyp_ResetCommandResults : base.ready = true ∧ base.host.commit = 0
    ∧ ({ base with pcie := { base.pcie with d3hot := true } } : State).pcie.d3hot = true ∧ State.reset.boot.state = 0 := by decide

/-! ### Witnesses: the commands of the submission queues -/

/-- A block of n bytes, given by offset; the others are 0. -/
def bytesOf (n : Nat) (l : List (Nat × Byte)) : List Byte := (List.range n).map (fun i => ((l.find? (fun x => x.1 = i)).map (·.2)).getD 0)

def atl31 : List Byte := bytesOf 192 [(0, 31), (2, 2), (64, 1), (66, 2)]
/-- Partition 15 on cluster 0 of die 0, period 50 µs. -/
def part15 : List Byte := bytesOf 128 [(0, 15), (4, 7), (5, 0x80), (8, 50)]

theorem test_hyp_AtelierAndPartitionCommands :
    base.atelierError (decodeAtelier atl31) false = 0 ∧ fieldLE atl31 0 1 = 31 ∧ fieldLE (bytesOf 192 [(0, 30)]) 0 1 < 31
    ∧ ({ base with ateliers := [(31, { entry := 0, members := [1, 2] })] } : State).atelierDeleteError 31 = 0
    ∧ base.partCreateCode part15 = 0 ∧ base.createWaits part15 = false ∧ cfgOk part15 = true
    ∧ ({ base with parts := [(15, part0)] } : State).partCreateCode part15 ≠ 0 ∧ ({ base with parts := [(15, part0)] } : State).part? 15 = some part0
    ∧ cfgOk (bytesOf 128 [(0, 16), (8, 50)]) = false
    ∧ timingOk false 50 49 1000 = true ∧ timingOk true 65535 0 0 = true
    ∧ ({ base with parts := [(15, { part0 with state := .ready })] } : State).sittersOf 15 = []
    ∧ ({ base with parts := [(15, { part0 with state := .ready })], sitters := [(0, { state := 1, partition := 15 })] } : State).sittersOf 15 ≠ [] := by
  decide +kernel

/-- A package with a framing section (one profile, one queue of two buffers of two slots, both rings) a SHAPES section of one batch, and four regions: data in
group 0, flags, work list and emit ring in the Gallery of die 0. -/
def framingSec : List Byte := bytesOf 128 [(0, 1), (2, 1), (3, 3), (4, 64), (6, 64), (10, 1), (13, 0x10), (17, 1), (22, 1), (25, 0x20), (29, 2), (32, 0xFF), (33, 0xFF),
  (97, 0x80), (105, 0x10), (108, 2), (110, 2), (114, 0xFF), (115, 0xFF), (121, 4), (126, 1)]
def regionSec : List Byte := bytesOf 128 [(4, 64), (10, 1), (32, 1), (36, 64), (42, 1), (64, 2), (69, 8), (73, 0x10), (96, 2), (101, 8), (105, 8)]
def pkgBytes : List Byte := bytesOf 160 [(6, 3), (64, 9), (72, 160), (80, 128), (96, 0x0B), (104, 0x20), (105, 1), (112, 16), (128, 6), (136, 0x30), (137, 1),
  (144, 128)] ++ framingSec ++ bytesOf 16 [(0, 1)] ++ regionSec
def pkg0 : Pkg :=
  { bytes := pkgBytes, digest := [], copyAddr := 0x10000000, regions := [0, 0x1000040000, 0x1000041000, 0x1000042000]
    stages := [{ unit := 0, leaves := [0], entry := 0 }], ateliers := [], training := false }
def withPart (P : Part) : State := { base with parts := [(0, P)] }

/-- The code with which a load fails. -/
def refusal (x : Except Fail State) : Option Nat := match x with | .ok _ => none | .error f => some f.code

theorem test_hyp_PackageCommands_state :
    base.busOn = true ∧ base.mem.zeroing = [] ∧ (withPart { part0 with state := .ready }).part? 0 = some { part0 with state := .ready }
    ∧ (withPart { part0 with state := .empty }).sleeping 0 = []
    ∧ refusal ((withPart { part0 with state := .empty }).load 0 [] 0) = some 0x0901
    ∧ (withPart { part0 with state := .ready, pkg := some pkg0 }).packageUse 0 = false ∧ (withPart { part0 with state := .ready }).packageUse 0 = true
    ∧ (withPart part0).part? 0 = some part0 ∧ part0.run = none
    ∧ ({ part0 with run := some { number := 1, instant := 0, open_ := [0] } } : Part).run.isSome = true ∧ base.part? 0 = none := by
  decide +kernel

theorem test_hyp_PackageCommands_mark : ∃ f fq, (withPart { part0 with pkg := some pkg0 }).framing 0 = some f ∧ f.queues[0]? = some fq ∧ fq.buffers = 2 :=
  ⟨_, _, rfl, rfl, by decide +kernel⟩

/-! ### A package that loads -/

def zs (n : Nat) : List Byte := List.replicate n 0
/-- A package of one stage of one leaf, one weight tensor and one tile, from its section table on, and the whole package (R289 to R307). -/
def loadBody : List Byte :=
  [1, 0, 0, 0, 0, 0, 0, 0, 128, 1, 0, 0, 0, 0, 0, 0, 32] ++ zs 15 ++ [2, 0, 0, 0, 0, 0, 0, 0, 192, 1, 0, 0, 0, 0, 0, 0, 64] ++ zs 15 ++ [3] ++
  zs 8 ++ [2, 0, 0, 0, 0, 0, 0, 0, 1] ++ zs 14 ++ [4] ++ zs 8 ++ [3, 0, 0, 0, 0, 0, 0, 40] ++ zs 15 ++ [5, 0, 0, 0, 0, 0, 0, 0, 64, 3, 0, 0,
  0, 0, 0, 0, 80] ++ zs 15 ++ [6, 0, 0, 0, 0, 0, 0, 0, 192, 3, 0, 0, 0, 0, 0, 0, 160] ++ zs 15 ++ [7, 0, 0, 0, 0, 0, 0, 0, 128, 4, 0, 0, 0, 0,
  0, 0, 48] ++ zs 15 ++ [8, 0, 0, 0, 0, 0, 0, 0, 192, 4, 0, 0, 0, 0, 0, 0, 16] ++ zs 15 ++ [11] ++ zs 8 ++ [5, 0, 0, 0, 0, 0, 0, 16] ++ zs 48
  ++ [1, 1, 1, 1, 255, 0, 0, 0, 0, 0, 0, 0, 16, 0, 0, 64, 66, 15] ++ zs 111 ++ [1] ++ zs 29 ++ [1, 0, 0, 0, 1, 0, 0, 0, 64, 0, 0, 0, 64, 0, 0,
  0, 64, 0, 0, 0, 128, 0, 0, 0, 192, 0, 0, 0, 0, 0, 0, 0, 1, 1, 1, 1, 1, 1, 1, 1, 1, 1, 1, 1, 1, 1, 1, 1, 1, 1, 1, 1, 1, 1, 1, 1, 1, 1, 1, 1,
  1, 1, 1, 1, 1, 1, 1, 1, 1, 1, 1, 1, 1, 1, 1, 1, 1, 1, 1, 1, 1, 1, 1, 1, 1, 1, 1, 1, 1, 1, 1, 1, 1, 1, 1, 1, 0, 0, 128, 63] ++ zs 140 ++ [64,
  0, 1, 0, 1, 0, 1, 0, 64, 0, 1, 0, 1, 1, 64, 0, 64, 0, 0, 0, 1] ++ zs 27 ++ [1] ++ zs 31 ++ [1, 0, 255, 0, 1, 0, 0, 0, 2, 0, 255, 255, 0, 0,
  0, 0, 1, 0, 0, 0, 64] ++ zs 23 ++ [1] ++ zs 52 ++ [255, 0, 0, 64, 0, 0, 0, 0, 0, 1] ++ zs 21 ++ [1, 0, 0, 0, 64, 0, 0, 0, 0, 1] ++ zs 22 ++
  [3, 0, 0, 0, 64, 0, 0, 0, 64] ++ zs 23 ++ [2, 0, 0, 0, 0, 8, 0, 0, 0, 16] ++ zs 22 ++ [2, 0, 0, 0, 0, 8, 0, 0, 0, 8] ++ zs 54 ++ [1] ++ zs
  15 ++ [1, 0, 1, 0, 0, 0, 0, 0, 64] ++ zs 11 ++ [64] ++ zs 91 ++ [4] ++ zs 2815
def loadable : List Byte := [89, 75, 80, 75, 1, 0, 9, 0, 0, 16, 0, 0, 0, 0, 0, 0] ++ (fieldBytes (digest loadBody) 0 32 ++ (zs 16 ++ loadBody))

theorem keccakRound_length (a : List U64) (rc : U64) : (keccakRound a rc).length = 25 := rfl

theorem keccakF_length (a : List U64) (l : List U64) (h : a.length = 25) : (l.foldl keccakRound a).length = 25 := by
  induction l generalizing a with
  | nil => exact h
  | cons c l ih => exact ih _ (keccakRound_length a c)

theorem absorbBlock_length (a : List U64) (b : List Byte) : (absorbBlock a b).length = 25 := keccakF_length _ _ (by simp)

theorem absorb_length (n : Nat) (a : List U64) (m : List Byte) (h : a.length = 25) : (absorb n a m).length = 25 := by
  induction n generalizing a m with
  | zero => exact h
  | succ n ih =>
    unfold absorb
    split
    · exact absorbBlock_length _ _
    · exact ih _ _ (absorbBlock_length _ _)

theorem leBytes_length (n v : Nat) : (leBytes n v).length = n := by
  induction n generalizing v with
  | zero => rfl
  | succ n ih => simp [leBytes, ih]

theorem digest_length (m : List Byte) : (digest m).length = 32 := by
  have h : (absorb (m.length / 136 + 1) (List.replicate 25 0) m).length = 25 := absorb_length _ _ _ (by simp)
  unfold digest shake256
  generalize absorb (m.length / 136 + 1) (List.replicate 25 0) m = a at h
  simp [squeeze, leBytes_length, List.length_flatMap, h, List.map_const', List.length_take]

theorem fieldBytes_whole (d : List Byte) (n : Nat) (h : d.length = n) : fieldBytes d 0 n = d := by
  apply List.ext_getElem
  · simp [fieldBytes, h]
  · intro i _ h2
    simp [fieldBytes, h2]


theorem fieldBytes_mid (h x r : List Byte) : fieldBytes (h ++ (x ++ r)) h.length x.length = x := by
  apply List.ext_getElem
  · simp [fieldBytes]
  · intro i h1 h2
    have : ¬ h.length + i < h.length := by omega
    simp [fieldBytes, List.getElem?_append, h2, if_neg this]

theorem chkDigest_holds (h z body : List Byte) (hh : h.length = 16) (hz : z.length = 16) :
    chkDigest (h ++ (fieldBytes (digest body) 0 32 ++ (z ++ body))) = none := by
  have hl : (fieldBytes (digest body) 0 32).length = 32 := by simp [fieldBytes]
  have h2 := fieldBytes_mid h (fieldBytes (digest body) 0 32) (z ++ body)
  have h1 : (h ++ (fieldBytes (digest body) 0 32 ++ (z ++ body))).drop 64 = body := by
    rw [← List.append_assoc, ← List.append_assoc]
    apply List.drop_left'
    simp [hl, hh, hz]
  rw [hl, hh] at h2
  rw [chkDigest, h1, h2, fieldBytes_whole _ _ (digest_length _)]
  simp [need]

def fresh : State := withPart { part0 with state := .empty }

theorem firstFail_two (a b c d e f g h i j k l m n : Chk) (h3 : firstFail [a, b, c, d, e, f, g] = none)
    (h4 : firstFail [h, i, j, k, l, m, n] = none) : firstFail [none, none, a, b, c, d, e, f, g, h, i, j, k, l, m, n] = none := by
  have app : ∀ l m : List Chk, firstFail l = none → firstFail m = none → firstFail (l ++ m) = none := by
    intro l m ha hb
    induction l with
    | nil => exact hb
    | cons x l ih => cases x <;> simp_all [firstFail]
  exact app _ _ h3 h4

theorem pkgFail_none (s : State) (b : List Byte) (n : Nat) (h1 : chkFormat b n = none) (h2 : chkDigest b = none)
    (h3 : firstFail [chkSections b, s.chkLicence b, chkStages b, chkCode b, chkLocal b, chkRegions b, chkDescs b] = none)
    (h4 : firstFail [chkAllWeights b, chkQuant b, chkSegments b, chkTiles b, chkHalo b, chkShapes b, chkFraming b] = none) : s.pkgFail b n = none := by
  rw [State.pkgFail, h1, h2]
  exact firstFail_two _ _ _ _ _ _ _ _ _ _ _ _ _ _ h3 h4

/-- What a plan of the loader comes from, for a package of one stage on one leaf that defines no ateliers. -/
theorem load_one (s : State) (p : Nat) (b : List Byte) (n : Nat) (P : Part) (t : StageDef) (e : Nat) (rs : List Nat) (x : Nat × State)
    (h : s.pkgFail b n = none) (hP : s.part p = P) (hp : P.pkg = none) (ha : P.affinity = false) (h1 : pkgAteliers b = []) (h2 : pkgStages b = [t])
    (h3 : t.wMin ≤ (s.expansion P.root.toNat).length) (h4 : assign [t] (s.expansion P.root.toNat) = [[e]])
    (h5 : regionPlan b P [[e]] = .ok rs) (h6 : s.allocate b.length = some x) : ∃ u, s.load p b n = .ok u := by
  have h7 : ¬ (s.expansion P.root.toNat).length < t.wMin := by omega
  simp [State.load, State.loadPlan, h, hP, hp, ha, h1, h2, h4, h5, h6, h7, State.defineAteliers, State.defineStages]

/-- A result that is no failure. -/
def fine {ε α : Type} (x : Except ε α) : Bool := match x with | .ok _ => true | .error _ => false

theorem fine_ok {ε α : Type} {x : Except ε α} (h : fine x = true) : ∃ y, x = .ok y := by
  cases x with
  | ok y => exact ⟨y, rfl⟩
  | error _ => simp [fine] at h

theorem loadable_passes : fresh.pkgFail loadable 4096 = none :=
  pkgFail_none _ _ _ (by decide +kernel) (chkDigest_holds _ _ _ rfl rfl) (by decide +kernel) (by decide +kernel)

def stage1 : StageDef :=
  { map := 0, wMin := 1, wMax := 1, first := 1, last := 1, diePref := 0xFF, entry := 0, localBytes := 0x1000, watchdog := 1000000, rsv := [0, 0, 0] }

/-- An EMPTY partition takes the package. -/
theorem test_hyp_PackageCommands_load : fresh.part? 0 = some { part0 with state := .empty } ∧ fresh.sleeping 0 = []
    ∧ ∃ t, fresh.load 0 loadable 4096 = .ok t := by
  refine ⟨rfl, rfl, ?_⟩
  obtain ⟨rs, p5⟩ := fine_ok (x := regionPlan loadable { part0 with state := .empty } [[0]]) (by decide +kernel)
  have p6 : (fresh.allocate loadable.length).isSome = true := by decide +kernel
  obtain ⟨x, p7⟩ := Option.isSome_iff_exists.mp p6
  exact load_one fresh 0 loadable 4096 { part0 with state := .empty } stage1 0 rs x loadable_passes rfl rfl rfl (by decide +kernel) (by decide +kernel)
    (by decide +kernel) (by decide +kernel) p5 p7

/-! ### Witnesses: sitters, tables, time, rings, adaptation, memory, security -/

/-- Partition 0 runs; result ring 2 and archive ring 3 exist. -/
def hosts (P : Part) : State := { (withPart P) with host := { rings := [(2, { sizeLog2 := 16 }), (3, { sizeLog2 := 16, use := 1 })] } }
/-- A JPEG sitter of 16 × 16, with an archive ring, that the host injects into. -/
def sit0 : List Byte := bytesOf 64 [(2, 2), (3, 5), (4, 16), (6, 16), (9, 8), (10, 8), (11, 2), (12, 3), (16, 1), (20, 1), (60, 64)]
def sitting0 (P : Part) : State := { hosts P with sitters := [(2047, { decodeSitter sit0 with state := 1 })] }
/-- An injection of 5 bytes for sitter 2047. -/
def inj : List Byte := bytesOf 40 [(0, 0xFF), (1, 7), (24, 5), (32, 1)]

theorem test_hyp_SitterCommands : fine ((hosts part0).register 2047 sit0) = true
    ∧ (match (hosts {}).register 2047 (bytesOf 64 [(0, 1)]) with | .error _ => true | .ok _ => false) = true ∧ (hosts part0).mem.zeroing = []
    ∧ (sitting0 part0).sitterCode 2047 sit0 true = 0 ∧ (hosts part0).sitterCode 2047 sit0 true ≠ 0
    ∧ ((sitting0 part0).sitter 2047).state ≠ 0 ∧ ((sitting0 part0).sitter 2046).state = 0
    ∧ fieldLE inj 0 2 = 2047 ∧ 32 ≤ inj.length ∧ inj.length = 32 + (fieldLE inj 24 4 + 7) / 8 * 8 ∧ (sitting0 part0).injectError inj = 0
    ∧ (sitting0 part0).injectWaits inj = false ∧ (sitting0 { part0 with replay := true, advance := none }).injectWaits inj = true
    ∧ ([] : List Byte).length < 32 := by decide +kernel

/-- Ethernet runs on port 0 as one 100 Gb/s MAC (mode 0). -/
def online : State := { sitting0 part0 with sec := { features := 1 }, host := { (hosts part0).host with live := { port0 := 1 } } }
def ifc (mac : Byte) : List Byte := bytesOf 64 [(0, 1), (1, mac), (4, 2), (7, 10), (8, 32), (9, 2), (11, 2)]
/-- RTP at 10.0.0.2 port 5004 for sitter 2047. -/
def dmx0 (sitter : Byte) : List Byte := bytesOf 64 [(0, 1), (1, 1), (2, 4), (4, 0x8C), (5, 0x13), (6, sitter), (7, 7), (12, 0xFF), (13, 0xFF), (14, 3), (15, 96), (16, 2),
  (19, 10), (48, 0xF4), (49, 1)]

theorem test_hyp_NetworkTableCommands : online.ifError 31 (ifc 0) = 0 ∧ online.ifError 31 (ifc 8) ≠ 0 ∧ online.ifError 31 (ifc 7) ≠ 0
    ∧ online.dmxError 4095 (dmx0 0xFF) = 0 ∧ online.dmxError 4095 (dmx0 0xFE) ≠ 0
    ∧ ({ online with ing := { dmx := [(0, decodeDmx (dmx0 0xFF))] } } : State).dmxError 4095 (dmx0 0xFF) ≠ 0 := by decide +kernel

/-- A ring of 64 KiB, ring 63. -/
def ringB (r : Byte) : List Byte := bytesOf 64 [(0, r), (2, 16), (9, 0x10)]
/-- Partition 0 may adapt: its package has a weights section of one I8 tensor beside a framing section. -/
def trainBytes : List Byte := bytesOf 192 [(6, 4), (64, 9), (72, 192), (80, 128), (96, 0x0B), (104, 0x40), (105, 1), (112, 16), (128, 6), (136, 0x50), (137, 1),
  (144, 128), (160, 3), (168, 0xD0), (169, 1), (176, 64)] ++ framingSec ++ bytesOf 16 [(0, 1)] ++ regionSec ++ bytesOf 64 [(2, 1)]
def trains : Part := { part0 with be := true, pkg := some { pkg0 with bytes := trainBytes, training := true } }
def sampled : Part := { trains with samples := some (0x10000, 0x100000, 1) }
/-- A JPEG picture all of whose 16 × 16 blocks arrive whole. -/
def still (w h : Nat) : PicDesc :=
  { pic0 with type := .jpeg, jpeg := { pic0.jpeg with width := w, height := h, chroma := .c420, scanBits := 1000 }
              slices := [{ pps := 0, headerOk := true, first := 0, headerUnits := 1, units := List.replicate (h / 16) 1, good := h / 16, syntaxError := false }] }
/-- One sample, and a job of one step of one sample. -/
def sample1 : List Byte := bytesOf 24 [(0, 1), (4, 8)]
def job1 : List Byte := bytesOf 128 [(10, 1), (12, 1), (35, 1), (42, 2), (43, 1), (48, 64), (66, 0x80), (67, 0x3F), (70, 0), (77, 0)]

theorem test_hyp_TimeReplayAndRingCommands_time :
    base.tb.state = 0 ∧ ({ base with tb := { state := 1 } } : State).tb.state ≠ 0
    ∧ (let P : Part := { part0 with replay := true, virtualTime := 1000 }
       (withPart P).part? 0 = some P ∧ P.replay = true ∧ P.advance = none ∧ (withPart P).sittersOf 0 = [] ∧ (sitting0 P).sittersOf 0 ≠ []
        ∧ P.virtualTime.toNat ≤ (1000 : U64).toNat ∧ ¬ (1000 : U64).toNat < P.nextInstant P.from_.toNat
        ∧ (let Q : Part := { P with from_ := 1001 }
           (1000 : U64).toNat < Q.nextInstant Q.from_.toNat)
        ∧ P.nextInstant P.from_.toNat ≤ (1000 : U64).toNat ∧ (999 : U64).toNat < P.virtualTime.toNat) := by decide +kernel

theorem test_hyp_TimeReplayAndRingCommands_ring : ringFieldsOk (ringB 63) = true ∧ ((hosts part0).ring 63).defined = false ∧ ringFieldsOk (ringB 64) = false
    ∧ ((hosts part0).ring 2).defined = true ∧ (hosts part0).ringNamed 2 = false ∧ (sitting0 part0).ringNamed 2 = true := by decide +kernel

theorem test_hyp_TimeReplayAndRingCommands_samples :
    (withPart trains).adaptable 0 = true ∧ (withPart trains).within 0 0x10000 0x100000 = true ∧ trains.job = none ∧ (0x10000 : Nat) % 64 = 0 ∧ (withPart trains).mem.flips = []
    ∧ sampleBad sample1 1 [still 16 1024] = none
    ∧ (placeSamples [still 16 1024] (0x10000 + 32)).2 ≤ 0x10000 + 0x100000
    ∧ sampleBad sample1 1 [still 15 16] = some 0 := by decide +kernel

theorem test_hyp_TimeReplayAndRingCommands_job :
    ({ (withPart sampled) with mem := { dev := [(4, 0xFF), (5, 0xFF)] } } : State).adaptStartCode 0 job1 = 0 ∧ (withPart trains).adaptStartCode 0 job1 ≠ 0
    ∧ (withPart { sampled with job := some (decodeJob job1) }).adaptable 0 = true ∧ (withPart part0).adaptable 0 = false := by decide +kernel

theorem test_hyp_MemoryAndSecurityCommands_memory :
    base.memGroupError 0x28000 = 0 ∧ base.mem.moving = [] ∧ ({ base with mem := { groups := [(15, 2)] } } : State).memGroupError 0x28000 = 0
    ∧ ({ base with mem := { groups := [(15, 2)] } } : State).groupState 15 = 2 ∧ base.groupState 15 ≠ 2
    ∧ base.injectOk 0x7DFFFFFF8 (injectBits 0).eraseDups = true ∧ base.injectOk 0 (injectBits 0x4F).eraseDups = true ∧ (4 : Nat) % 8 ≠ 0 := by decide +kernel

/-- A LICENCE key certificate and a licence of this part, whose key is all zeros; the digests stand as they are computed. -/
def licKey : List Byte := zs 1952
def licHead : List Byte := [0x4B, 0x59, 0x53, 0x4F, 1, 0, 1, 0, 0xC5, 0x14, 0, 0, 0xA8, 7, 0, 0] ++ zs 32 ++ [2, 0, 0, 0, 0, 0, 0, 0]
def licTop : List Byte := zs 3309 ++ [0x4B, 0x59, 0x53, 0x4F, 4, 0, 1, 0, 0x5D, 0x0D, 0, 0, 64, 0, 0, 0]
def licDig : List Byte := fieldBytes (digest licKey) 0 32
def licTail : List Byte := bytesOf 32 [(0, 1), (8, 15), (13, 1)] ++ zs 3309
def licBlock : List Byte := licHead ++ (licKey ++ (licTop ++ (licDig ++ (licDig ++ licTail))))

theorem licChain_of (h k z d t : List Byte) (hh : h.length = 56) (hk : k.length = 1952) (hz : z.length = 3325) (hd : d = fieldBytes (digest k) 0 32)
    (h2 : fieldLE (h ++ (k ++ (z ++ (d ++ t)))) 48 1 = 2) : licChain (h ++ (k ++ (z ++ (d ++ t)))) = true := by
  have hl : (fieldBytes (digest k) 0 32).length = 32 := by simp [fieldBytes]
  have e1 : fieldBytes (h ++ (k ++ (z ++ (d ++ t)))) 56 1952 = k := by rw [← hh, ← hk]; exact fieldBytes_mid _ _ _
  have e2 : fieldBytes (h ++ (k ++ (z ++ (d ++ t)))) (certBytes + 16) 32 = fieldBytes (digest k) 0 32 := by
    have := fieldBytes_mid (h ++ (k ++ z)) d t
    rw [hd, hl] at this
    simp only [List.length_append, hh, hk, hz, List.append_assoc] at this
    rw [hd]
    exact this
  rw [licChain, e1, e2, fieldBytes_whole _ _ (digest_length _), h2]
  simp

/-- The part whose identity key is `licKey`. -/
def licensee : State := { base with sec := { identityKey := licKey } }

theorem fieldBytes_fieldBytes (b : List Byte) (o n i m : Nat) (h : i + m ≤ n) : fieldBytes (fieldBytes b o n) i m = fieldBytes b (o + i) m := by
  apply List.ext_getElem
  · simp [fieldBytes]
  · intro k h1 h2
    have hk : k < m := by simpa [fieldBytes] using h2
    have : i + k < n := by omega
    simp [fieldBytes, this, Nat.add_assoc]

theorem licIdentity_of (h k z d t : List Byte) (hh : h.length = 56) (hk : k.length = 1952) (hz : z.length = 3325) (hd : d.length = 32) :
    fieldBytes (h ++ (k ++ (z ++ (d ++ (d ++ t))))) (certBytes + 48) 32 = d := by
  have := fieldBytes_mid (h ++ (k ++ (z ++ d))) d t
  simp only [List.append_assoc, List.length_append, hd, hh, hk, hz] at this
  exact this

theorem licDig_eq : licDig = digest licKey := fieldBytes_whole _ _ (digest_length _)

theorem test_hyp_MemoryAndSecurityCommands_licence : licBlockForm licBlock = true ∧ licChain licBlock = true ∧ licensee.erasedSlot = some 0
    ∧ fieldBytes (fieldBytes licBlock certBytes licenceBytes) 48 32 = licensee.identity := by
  have hk : licKey.length = 1952 := by decide +kernel
  have hz : licTop.length = 3325 := by decide +kernel
  refine ⟨by decide +kernel, licChain_of _ _ _ _ _ rfl hk hz rfl (by decide +kernel), by decide +kernel, ?_⟩
  rw [fieldBytes_fieldBytes _ _ _ _ _ (by decide), licBlock, licIdentity_of _ _ _ _ _ rfl hk hz (licDig_eq ▸ digest_length _), licDig_eq]
  rfl

theorem test_hyp_MemoryAndSecurityCommands_slots : base.slotErased 15 = true
    ∧ ({ base with boot := { base.boot with flash := [(0x1116000, 0x4B)] } } : State).slotErased 15 = false
    ∧ fieldBytes (fieldBytes (zs 8738) certBytes licenceBytes) 48 32 ≠ fieldBytes [1] 0 32 := by decide +kernel

/-! ### Witnesses: start, recovery, restart, time -/

def maximaOf (l : List Nat) : List (Nat × Byte) := l.map (fun k => (k, 64))

/-- A start with every Easel good, all at 1,600 MHz, whose flash holds no certificate. -/
def goodBoot (straps : BitVec 2) : BootObs :=
  { straps := straps, steps := [], romDigest := [], fwSigs := { chain := true, manifest := true }, puf := [], certSigs := false, licValid := 0, lanes := []
    rate16 := 0, retrained := 0, dies := 0xFF, selfTest := BitVec.ofNat 216 (2 ^ 216 - 1), maxima := maximaOf (List.range 1728), railMissing := false, temps := []
    totalMs := 0 }

/-- Bytes at an address. -/
def run (a : Nat) (l : List Byte) : Cells := l.zipIdx.map (fun x => (a + x.2, x.1))

theorem run_mem (a : Nat) (l : List Byte) (x : Nat × Byte) (h : x ∈ run a l) : a ≤ x.1 ∧ x.1 < a + l.length := by
  simp only [run, List.mem_map, Prod.exists] at h
  obtain ⟨b, i, hm, rfl⟩ := h
  have := (List.mem_zipIdx hm).2.1
  simp only [Nat.zero_add] at this
  exact ⟨by simp, by simp; omega⟩

theorem tget_skip {α : Type} (d : α) (t u : Tbl α) (k : Nat) (h : ∀ x ∈ t, x.1 ≠ k) : tget d (t ++ u) k = tget d u k := by
  induction t with
  | nil => rfl
  | cons x t ih =>
    obtain ⟨j, v⟩ := x
    have hj : j ≠ k := h (j, v) List.mem_cons_self
    simp only [List.cons_append, tget, hj, if_false]
    exact ih (fun y hy => h y (List.mem_cons_of_mem _ hy))

theorem tget_none {α : Type} (d : α) (t : Tbl α) (k : Nat) (h : ∀ x ∈ t, x.1 ≠ k) : tget d t k = d := by
  simpa [tget] using tget_skip d t [] k h

/-- Bytes that stand at an address read back, whatever stands after them. -/
theorem read_run (e : Byte) (a n : Nat) (l : List Byte) (u : Cells) (h : l.length = n) : mreadN e (run a l ++ u) a n = l := by
  have key : ∀ (l : List Byte) (k i : Nat) (h : i < l.length), tget e ((l.zipIdx k).map (fun x => (a + x.2, x.1)) ++ u) (a + (k + i)) = l[i] := by
    intro l
    induction l with
    | nil => intro k i h; simp at h
    | cons b l ih =>
      intro k i h
      cases i with
      | zero => simp [tget]
      | succ i =>
        have hi : i < l.length := by simpa using h
        have := ih (k + 1) i hi
        simp only [List.zipIdx_cons, List.map_cons, List.cons_append, tget, List.getElem_cons_succ]
        rw [if_neg (by omega), ← this]
        congr 1
        omega
  apply List.ext_getElem
  · simp [mreadN, h]
  · intro i h1 h2
    have := key l 0 i h2
    simp only [Nat.zero_add] at this
    simp only [mreadN, List.getElem_map, List.getElem_range]
    exact this

/-- Cells elsewhere do not matter. -/
theorem read_skip (e : Byte) (a n : Nat) (t u : Cells) (h : ∀ x ∈ t, x.1 < a ∨ a + n ≤ x.1) : mreadN e (t ++ u) a n = mreadN e u a n := by
  simp only [mreadN, mread]
  apply List.map_congr_left
  intro i hi
  have := List.mem_range.mp hi
  exact tget_skip _ _ _ _ (fun x hx => by have := h x hx; omega)

theorem read_blank (e : Byte) (a n : Nat) (t : Cells) (h : ∀ x ∈ t, x.1 < a ∨ a + n ≤ x.1) : mreadN e t a n = List.replicate n e := by
  have := read_skip e a n t [] h
  rw [List.append_nil] at this
  rw [this]
  simp [mreadN, mread, tget, List.map_const']

theorem field_read (e : Byte) (c : Cells) (a n o m : Nat) (h : o + m ≤ n) : fieldBytes (mreadN e c a n) o m = mreadN e c (a + o) m := by
  apply List.ext_getElem
  · simp [fieldBytes, mreadN]
  · intro i h1 h2
    have hm : i < m := by simpa [mreadN] using h2
    have : o + i < n := by omega
    simp [fieldBytes, mreadN, this, Nat.add_assoc]

/-- Of a firmware image at an address, in a memory whose unlisted bytes read e: the head of the FIRMWARE key certificate, and what the manifest says
besides its three digests. The Curator image, of 1 MiB, the Easel image and the keys and signatures are unlisted bytes. -/
def imageHead (b : Nat) : Cells :=
  run (b + 0x1000) ([0x4B, 0x59, 0x53, 0x4F, 1, 0, 1, 0, 0xC5, 0x14, 0, 0, 0xA8, 7, 0, 0] ++ zs 32 ++ [1, 0, 0, 0, 0, 0, 0, 0]) ++
  (run (b + 0x3000) [0x4B, 0x59, 0x53, 0x4F, 2, 0, 1, 0, 0x9D, 0x0D, 0, 0, 128, 0, 0, 0] ++
  (run (b + 0x3030) [1, 0, 0, 0, 0, 0, 0, 0, 0, 0, 1, 0, 0, 0, 0x10, 0, 0, 0, 0x20, 0, 0, 0x20, 0, 0] ++ run (b + 0x3088) (zs 40)))
def keyDig (e : Byte) : List Byte := digest (List.replicate 1952 e)
def curatorDig (e : Byte) : List Byte := digest (List.replicate 0x100000 e)
def easelDig (e : Byte) : List Byte := digest (List.replicate 8192 e)
def image (e : Byte) (b : Nat) : Cells :=
  imageHead b ++ (run (b + 0x3010) (keyDig e) ++ (run (b + 0x3048) (curatorDig e) ++ run (b + 0x3068) (easelDig e)))

/-- A part whose flash holds the image, before its first start; and one in recovery mode whose window holds it. -/
def blankPart : State := { State.reset with boot := { State.reset.boot with flash := image 0xFF 0 } }
def windowed (op len : Nat) : State :=
  { base with boot := { state := 3 }, mem := { dev := image 0 hubBase }, host := { h2c := { full := true, val := BitVec.ofNat 64 (len * 2 ^ 32 + op) } } }

theorem imageHead_mem (b : Nat) (x : Nat × Byte) (h : x ∈ imageHead b) : (b + 0x1000 ≤ x.1 ∧ x.1 < b + 0x1038) ∨ (b + 0x3000 ≤ x.1 ∧ x.1 < b + 0x3010)
    ∨ (b + 0x3030 ≤ x.1 ∧ x.1 < b + 0x3048) ∨ (b + 0x3088 ≤ x.1 ∧ x.1 < b + 0x30B0) := by
  simp only [imageHead, List.mem_append] at h
  rcases h with h | h | h | h <;> have := run_mem _ _ _ h <;> simp [zs] at this <;> omega

theorem run_out (a lo n : Nat) (l : List Byte) (h : l.length = 32) (ho : a + 32 ≤ lo ∨ lo + n ≤ a) : ∀ x ∈ run a l, x.1 < lo ∨ lo + n ≤ x.1 := by
  intro x hx
  have := run_mem _ _ _ hx
  omega

theorem image_key (e : Byte) (b : Nat) : mreadN e (image e b) (b + 0x3010) 32 = keyDig e := by
  rw [image, read_skip _ _ _ _ _ (fun x hx => by have := imageHead_mem b x hx; omega), read_run _ _ _ (keyDig e) _ (digest_length _)]

theorem image_curator (e : Byte) (b : Nat) : mreadN e (image e b) (b + 0x3048) 32 = curatorDig e := by
  rw [image, read_skip _ _ _ _ _ (fun x hx => by have := imageHead_mem b x hx; omega), read_skip _ _ _ _ _ (run_out _ _ _ (keyDig e) (digest_length _) (by omega)),
    read_run _ _ _ (curatorDig e) _ (digest_length _)]

theorem image_easel (e : Byte) (b : Nat) : mreadN e (image e b) (b + 0x3068) 32 = easelDig e := by
  rw [image, read_skip _ _ _ _ _ (fun x hx => by have := imageHead_mem b x hx; omega), read_skip _ _ _ _ _ (run_out _ _ _ (keyDig e) (digest_length _) (by omega)),
    read_skip _ _ _ _ _ (run_out _ _ _ (curatorDig e) (digest_length _) (by omega)), ← List.append_nil (run (b + 0x3068) (easelDig e)),
    read_run _ _ _ (easelDig e) _ (digest_length _)]

theorem image_mem (e : Byte) (b : Nat) (x : Nat × Byte) (h : x ∈ image e b) :
    (b + 0x1000 ≤ x.1 ∧ x.1 < b + 0x1038) ∨ (b + 0x3000 ≤ x.1 ∧ x.1 < b + 0x30B0) := by
  simp only [image, List.mem_append] at h
  rcases h with h | h | h | h
  · have := imageHead_mem b x h; omega
  all_goals have := run_mem _ _ _ h; have := digest_length; simp only [keyDig, curatorDig, easelDig, digest_length] at *; omega

theorem image_blank (e : Byte) (b a n : Nat) (h : 0x1038 ≤ a ∧ a + n ≤ 0x3000 ∨ 0x30B0 ≤ a) : mreadN e (image e b) (b + a) n = List.replicate n e :=
  read_blank _ _ _ _ (fun x hx => by have := image_mem e b x hx; omega)

/-- The image passes the checks of ST04 wherever it is read from. -/
theorem image_good (r : Image) (e : Byte) (b size : Nat) (sigs : FwSigs) (hr : ∀ a n, r a n = mreadN e (image e b) (b + a) n) (hs : sigs.chain = true ∧ sigs.manifest = true)
    (h1 : keyCertForm (firmwareCert r) 1 = true) (h2 : manifestFormat (manifestOf r) = true) (h3 : allZero (fieldBytes (manifestOf r) 136 40) = true)
    (h4 : imagesFit (manifestOf r) size = true)
    (h5 : curatorOffset (manifestOf r) = 0x10000 ∧ curatorBytes (manifestOf r) = 0x100000 ∧ easelOffset (manifestOf r) = 0x200000) : imageCode r size sigs = 0 := by
  have h6 : signedBy (manifestOf r) (firmwareCert r) = true := by
    simp only [signedBy, certKey, manifestOf, firmwareCert, certBytes, hr]
    rw [field_read _ _ _ _ _ _ (by decide), field_read _ _ _ _ _ _ (by decide), Nat.add_assoc, Nat.add_assoc, image_key, image_blank _ _ _ _ (by decide)]
    exact decide_eq_true rfl
  have h7 : imageDigests r (manifestOf r) = true := by
    simp only [imageDigests, h5]
    simp only [hr, manifestOf]
    rw [field_read _ _ _ _ _ _ (by decide), field_read _ _ _ _ _ _ (by decide), Nat.add_assoc, Nat.add_assoc, image_curator, image_easel,
      image_blank _ _ _ _ (by decide), image_blank _ _ _ _ (by decide)]
    rw [decide_eq_true (show digest (List.replicate 0x100000 e) = curatorDig e from rfl), decide_eq_true (show digest (List.replicate 8192 e) = easelDig e from rfl)]
    rfl
  simp [imageCode, hs, h1, h2, h3, h4, h6, h7]

theorem image_format : manifestFormat (manifestOf blankPart.flashN) = true := by decide +kernel

theorem flash_good : imageCode blankPart.flashN imageArea (goodBoot 2).fwSigs = 0 :=
  image_good _ 0xFF 0 _ _ (fun a n => by rw [Nat.zero_add]; rfl) ⟨rfl, rfl⟩ (by decide +kernel) image_format (by decide +kernel) (by decide +kernel) (by decide +kernel)

theorem test_hyp_PowerAndStartResults : (goodBoot 2).straps = 2 ∧ (∀ o ∈ (goodBoot 2).steps, o.normal = 0 ∧ o.alt = 0) ∧ (goodBoot 2).lanes = []
    ∧ (∀ k, k < 8 → kyosumTopology.dieSet.getLsbD k = true → (goodBoot 2).dies.getLsbD k = true)
    ∧ (∀ k, k < 6 → kyosumTopology.easels.getD k 32 ≤ exposedOn (goodBoot 2) k)
    ∧ State.reset.board.porAsserted = true ∧ base.board.porAsserted = false ∧ (goodBoot 1).straps = 1 ∧ (goodBoot 3).straps = 3 := by decide +kernel

theorem test_hyp_PowerAndStartResults_image : blankPart.flashFormat = 0 ∧ imageCode blankPart.flashN imageArea (goodBoot 2).fwSigs = 0
    ∧ (blankPart.deviceCert (goodBoot 2).certSigs (identityKeyOf (goodBoot 2).puf)).getD kyosumTopology = kyosumTopology
    ∧ blankPart.board = {} ∧ blankPart.boot = { journalA := blankPart.boot.journalA, journalB := blankPart.boot.journalB, flash := blankPart.boot.flash } :=
  ⟨by simp [State.flashFormat, image_format], flash_good, by simp [State.deviceCert, goodBoot], rfl, rfl⟩

theorem tfind_maximaOf (l : List Nat) (k : Nat) (h : k ∈ l) : tfind (maximaOf l) k = some 64 := by
  induction l with
  | nil => simp at h
  | cons x l ih =>
    by_cases hx : x = k
    · simp [maximaOf, tfind, hx]
    · have : k ∈ l := by rcases List.mem_cons.mp h with h | h; exact absurd h.symm hx; exact h
      simpa [maximaOf, tfind, hx] using ih this

theorem tget_of_tfind {α : Type} (d v : α) (t : Tbl α) (k : Nat) (h : tfind t k = some v) : tget d t k = v := by
  induction t with
  | nil => simp [tfind] at h
  | cons x t ih =>
    obtain ⟨j, w⟩ := x
    by_cases hx : j = k <;> simp_all [tfind, tget]

theorem test_hyp_PowerAndStartResults_maxima :
    ∀ e ∈ easelMapOf (goodBoot 2), ∀ p, p < 8 → 400 ≤ agedMax (25 * (tget 0 (goodBoot 2).maxima (8 * e.2 + p)).toNat) := by
  intro e he p hp
  have h1 : ∀ e ∈ easelMapOf (goodBoot 2), e.2 < 216 := by decide +kernel
  have h2 := h1 e he
  have h3 : tget 0 (maximaOf (List.range 1728)) (8 * e.2 + p) = 64 := tget_of_tfind _ _ _ _ (tfind_maximaOf _ _ (List.mem_range.mpr (by omega)))
  have h4 : (goodBoot 2).maxima = maximaOf (List.range 1728) := by simp only [goodBoot]
  rw [h4, h3]
  decide

def recovers (op len : Nat) : State := { base with boot := { state := 3 }, host := { h2c := { full := true, val := BitVec.ofNat 64 (len * 2 ^ 32 + op) } } }

theorem test_hyp_RecoveryResults : ∀ x ∈ ([(1, 0xFFFFF), (1, 0x100000), (2, 0x1000000), (2, 0x1000001), (3, 0x100000), (3, 0)] : List (Nat × Nat)),
    let s := recovers x.1 x.2
    let n := s.host.h2c.val.toNat / 2 ^ 32
    s.boot.state = 3 ∧ s.host.h2c.full = true ∧ s.host.h2c.val.toNat % 256 = x.1 ∧ s.host.c2h.full = false ∧ n = x.2
      ∧ ((n < 0x100000 ∨ 0x1000000 < n) ↔ x.2 ≠ 0x100000 ∧ x.2 ≠ 0x1000000) := by decide

/-- An image of 4 MiB in the window that passes the checks, and one whose signatures do not verify. -/
theorem test_hyp_RecoveryResults_image : (windowed 2 0x400000).windowCode 0x400000 { chain := true, manifest := true } = 0
    ∧ (windowed 2 0x400000).windowCode 0x400000 { chain := false, manifest := true } ≠ 0 ∧ (windowed 2 0x400000).boot.state = 3
    ∧ (windowed 2 0x400000).host.h2c.val.toNat / 2 ^ 32 = 0x400000 :=
  ⟨image_good _ 0 hubBase _ _ (fun _ _ => rfl) ⟨rfl, rfl⟩ (by decide +kernel) (by decide +kernel) (by decide +kernel) (by decide +kernel) (by decide +kernel),
    by simp [State.windowCode, imageCode], rfl, by decide⟩

/-- Partition 15 restarts for an Easel exception. Its package is empty; the digest is right, or not. -/
def restarts (d : List Byte) : State :=
  { base with parts := [(15, { part0 with state := .restarting, cause := some { cause := 1 }, pkg := some { pkg0 with bytes := [], digest := d } })] }

theorem test_hyp_RestartResults (d : List Byte) : (restarts d).ready = true ∧ ((restarts d).part 15).state = .restarting
    ∧ ((restarts d).part 15).cause = some { cause := 1 } ∧ ((restarts d).part 15).pkg = some { pkg0 with bytes := [], digest := d }
    ∧ (restarts d).boot.devCause = none ∧ ({ base with boot := { base.boot with devCause := some 2 } } : State).boot.devCause = some 2 :=
  ⟨rfl, rfl, rfl, rfl, rfl, rfl⟩

theorem copyGood_clean (s : State) (k : Pkg) (hf : s.mem.flips = []) (hb : k.bytes = []) : (s.copyGood k).2 = decide (digest [] = k.digest) := by
  simp [State.copyGood, State.readCheck, State.flipsIn, hf, hb, State.devN, mreadN]

theorem test_hyp_RestartResults_copy :
    (((restarts (digest [])).beginRestart 15 { cause := 1 }).copyGood { pkg0 with bytes := [], digest := digest [] }).2 = true := by
  rw [copyGood_clean _ _ (by decide +kernel) rfl]
  simp

/-- A PTP client whose master went away 1 s ago, and one that hears its master on the interface of `ifc 0`. -/
theorem test_hyp_TimebaseResults_ptp :
    (let s : State := { base with clock := 5000000000, host := { live := { srcSel := 1 } } }; s.ptpLost = true ∧ s.host.live.srcSel = 1)
    ∧ (let m : PtpMaster := { port := { clock := 1, port := 1 }, logInterval := 0, at_ := 4000000000
                              data := { priority1 := 0, klass := 0, accuracy := 0, variance := 0, priority2 := 0, identity := 1, steps := 0 } }
       let s : State := { base with clock := 5000000000, host := { live := { srcSel := 1, ptpCfg := 0x3000 } }, tb := { ptp := { masters := [m] } }
                                    ing := { ifaces := [(31, decodeIface (ifc 0))] } }
       s.ptpMaster.isSome = true ∧ s.ptpLost = false ∧ s.host.live.ptpMac = 0 ∧ s.ptpIface = some (31, decodeIface (ifc 0)))
    ∧ (let s : State := { base with clock := 5000000000, tb := { edgeAt := some 4100000000 } }
       s.tb.edgeAt = some 4100000000 ∧ 4100000000 + 100000000 ≤ s.clock ∧ s.clock ≤ 4100000000 + 900000000 ∧ s.clock < 4100000000 + 1500000000)
    ∧ (∀ t, ({ base with clock := 1500000000, tb := { edgeAt := some 0 } } : State).tb.edgeAt = some t → t + 1500000000 ≤ 1500000000) := by
  refine ⟨by decide, by decide +kernel, by decide, fun t h => ?_⟩
  simp only [Option.some.injEq] at h
  omega

theorem test_hyp_TimebaseResults (st : Nat) (h : st < 4) (src : U64) :
    let s : State := { base with tb := { state := st, time := 5000000, todSecond := some 3 }, host := { live := { srcSel := src } } }
    s.ready = true ∧ s.tb.state < 4 ∧ s.host.live.srcSel = src ∧ s.tb.todSecond = some 3 ∧ (3 : Nat) < 10 ^ 24
      ∧ 1000000 < (Int.ofNat (3999999 : U64).toNat - Int.ofNat (5000000 : U64).toNat).natAbs
      ∧ ¬ 1000000 < (Int.ofNat (4000000 : U64).toNat - Int.ofNat (5000000 : U64).toNat).natAbs :=
  ⟨rfl, h, rfl, rfl, by decide, by decide, by decide⟩

/-- Two phases, from 06:00 and from 18:00, at noon and at 03:00. -/
theorem test_hyp_TimebaseResults_phase :
    let c : Settings := { phaseCount := 2, phases := [(0, 21600), (2, 64800)] }
    1 ≤ c.phaseCount.toNat ∧ (∀ i, i < 2 → ∀ j, j < 2 → i < j → c.startS i < c.startS j) ∧ c.startS 0 ≤ 43200 ∧ (10800 : Nat) < c.startS 0 := by decide

/-! ### Witnesses: frames received, decoding, framing -/

/-- A UDP frame of the length given, for the interface of `ifc 0`. -/
def frameOf (len : Nat) (ok : Bool) (b : NetBody) : Frame := { dst := 0x200, src := 4, vlan := 0, length := len, fcsOk := ok, ipSumOk := true, body := b, raw := [] }
/-- An RTP packet of 100 bytes: version 2, payload type 96, sequence number 9, SSRC 5. -/
def rtpBytes : List Byte := bytesOf 100 [(0, 0x80), (1, 96), (3, 9), (11, 5), (12, 0x41)]
def rtp1 : RtpPkt := { payloadType := 96, seq := 9, ts := 0, ssrc := 5, marker := false, bytes := 100, payload := bytesOf 88 [(0, 0x41)] }
def udp1 (ok : Bool) : Udp := { family := 4, dst := BitVec.ofNat 128 (fieldLE (dmx0 0xFF) 16 16), src := 1, port := 5004, sumOk := ok, payload := rtpBytes }
def net : State :=
  { online with
    ing := { ports := [(0, { link := 1 })], ifaces := [(31, decodeIface (ifc 0))], dmx := [(4095, decodeDmx (dmx0 0xFF))] }
    sitters := [(2047, { decodeSitter (bytesOf 64 [(3, 0)]) with state := 2, ing := { head := some 65545, hiSeq := 65544 } })] }

theorem test_hyp_FrameReceiveResults :
    net.ready = true ∧ (net.port 0).link.getLsbD 0 = true ∧ (net.port 1).link.getLsbD 3 = false
    ∧ (frameOf 9217 true .other).length = 9217 ∧ net.acceptors 0 (frameOf 9216 true (.udp (udp1 true))) = [(31, decodeIface (ifc 0))]
    ∧ parseRtp rtpBytes = some rtp1 ∧ (decodeDmx (dmx0 0xFF)).asRtcp rtpBytes = false ∧ (decodeIface (ifc 0)).ipv4 = 0x0A000002
    ∧ (∀ x ∈ net.ing.ifaces, x.2.mac ≠ 0 ∨ x.2.vlan ≠ 5) ∧ (decodeIface (ifc 0)).arpCopy = false
    ∧ net.pick (udp1 true) = some (4095, decodeDmx (dmx0 0xFF)) ∧ (decodeDmx (dmx0 0xFF)).takes 0 0 (udp1 true) = true
    ∧ (decodeDmx (dmx0 0xFF)).sitter = 2047 ∧ (net.sitter 2047).sourceHost = false ∧ (net.sitter 2047).ing.head = some 65545
    ∧ (net.sitter 2047).ing.window = [] ∧ extend 16 (net.sitter 2047).ing.hiSeq rtp1.seq.toNat = 65545
    ∧ (let w : WinPkt := { ext := 65546, ts := 0, pkt := rtp1, arrival := 0 }
       let s : State := { net with sitters := [(2047, { state := 2, ing := { head := some 65545, window := [w] } })] }
       (s.sitter 2047).ing.window = w :: [] ∧ (s.sitter 2047).ing.head = some 65545 ∧ (65545 : Int) ≤ w.ext)
    ∧ (31, (1 : BitVec 128)) ∈ ({ net with ing := { net.ing with reports := [(31, 1)] } } : State).ing.reports
    ∧ ({ net with ing := { net.ing with members := [(31, 1, [])] } } : State).ing.members.find? (fun m => m.1 = 31 && m.2.1 = 1) = some (31, 1, []) := by
  decide +kernel

def pic (t : PicType) : PicDesc :=
  { still 16 16 with type := t, vclBytes := 100, luma := List.replicate 256 0, cb := List.replicate 64 0, cr := List.replicate 64 0 }
def au0 : Au := { index := 0, capture := 1000, arrival := 1000, marks := 0, bytes := [1, 2, 3, 4, 5], disposition := 0, reason := 0 }
/-- Sitter 2047 has a JPEG unit in its queue. -/
def queued (P : Part) : State :=
  { hosts P with sitters := [(2047, { decodeSitter sit0 with state := 1, slots := 0x100000, slotBytes := 16384, bounds := (0x100000, 524288), known := true, ing := { queue := [au0], esUsed := 5, esBytes := 65536 }
                                                             frames := [{ au := 0, capture := 1000, fromArrival := false, adjusted := false }] })] }
def job0 : DecodeJob := { sitter := 2047, au := au0, pic := pic .jpeg, slot := 0, th := 0, drop := false }

theorem test_hyp_DecodeResults : (queued part0).ready = true ∧ (tget {} (queued part0).med.engines 35).job = none
    ∧ (queued part0).nextDecode (isJpegEngine 35) = some 2047 ∧ ((queued part0).sitter 2047).ing.queue = au0 :: [] ∧ (queued part0).freeSlot 2047 = some 0
    ∧ ((queued part0).openUnit 2047 35 (pic .jpeg)).skipReason 2047 au0 (pic .jpeg) = 0
    ∧ ((queued { part0 with state := .ready }).openUnit 2047 35 (pic .jpeg)).skipReason 2047 au0 (pic .jpeg) ≠ 0
    ∧ (queued part0).nextDecode (isJpegEngine 31) = none
    ∧ (let s : State := { (queued part0) with med := { engines := [(35, { job := some job0, on := true })] } }
       (tget {} s.med.engines 35).job = some job0 ∧ s.mem.flips = [] ∧ (s.sitter 2047).still = false
        ∧ (∀ i, i < 64 → (s.sitter 2047).inBounds ((s.sitter 2047).slotAt 0 + (s.sitter 2047).statsOff + i) = true) ∧ (tget {} s.med.engines 31).job = none)
    ∧ (tget {} base.med.fus 7).job = none ∧ (tget {} base.med.mss 1).job = none := by decide +kernel

/-- A slot of sitter 2047's frame for slot 1 of buffer 0 of queue 0. -/
def slotJ (dl : U64) : SlotJob :=
  { part := 0, queue := 0, buf := 0, slot := 1, sitter := 2047, au := 0, capture := 1000, deadline := dl, profile := 0, box := none, aug := []
    pic := { au := 0, slot := 0, capture := 1000, dispX := 0, dispY := 0, dispW := 16, dispH := 16, codedW := 16, codedH := 16, chroma := .c420, jpeg := true }
    staleUs := some 1, sitting := 1, instant := 0 }
def framed (P : Part) (cells : List (Nat × Byte)) : State := { (withPart { P with pkg := some pkg0 }) with mem := { dev := cells } }
def flowJ : FlowJob := { part := 0, sitter := 2047, flag := some 0x1000040400, cur := 0, ref := 0, dst := 0x10000, field := [1, 2, 3] }

theorem test_hyp_FramingResults_slots :
    (let s : State := { framed part0 [] with med := { slots := [slotJ 2000, slotJ 1000] } }
     s.ready = true ∧ (tget {} s.med.fus 7).job = none ∧ s.med.slots ≠ [])
    ∧ (let s : State := { framed { part0 with bufs := [(0, { count := 2, named := [1] })] } [] with
         tb := { time := 3000 }, med := { fus := [(7, { job := some (slotJ 0), on := true })] } }
       (tget {} s.med.fus 7).job = some (slotJ 0) ∧ (∃ f fq, s.framing 0 = some f ∧ f.queues[0]? = some fq)
        ∧ (∃ k, k < ((s.part 0).buf 0 0).count ∧ k ≠ 1 ∧ k ∉ ((s.part 0).buf 0 0).done)
        ∧ (1 : Nat) * 1000 < s.tb.time.toNat - (slotJ 0).capture.toNat) :=
  ⟨by decide +kernel, by decide +kernel, ⟨_, _, rfl, rfl⟩, ⟨0, by decide +kernel⟩, by decide +kernel⟩

/-! ### Witnesses: lists, sittings, results -/

theorem test_hyp_PackageCommands_swap : swapFail { pkg0 with bytes := loadable } 0 (pkgSection loadable 3 0) = none := by decide +kernel

/-- A framing section of two queues: as `framingSec`, with a second queue like the first at 0xC000. -/
def framing2 : List Byte := bytesOf 160 [(0, 1), (2, 2), (3, 3), (4, 64), (6, 64), (10, 1), (13, 0x10), (17, 1), (22, 1), (25, 0x20), (29, 2), (32, 0xFF), (33, 0xFF),
  (97, 0x80), (105, 0x10), (108, 2), (110, 2), (114, 0xFF), (115, 0xFF), (121, 4), (126, 1),
  (129, 0xC0), (137, 0x10), (140, 2), (142, 2), (146, 0xFF), (147, 0xFF), (153, 5), (158, 1)]
def pkg2 : Pkg := { pkg0 with bytes := bytesOf 96 [(6, 1), (64, 9), (72, 96), (80, 160)] ++ framing2 }
/-- Crop list 0 and flow request 0 are produced: a list of one entry at 0x3000 for slot 0 of buffer 0 of queue 1, whose header says one slot, and a request
at 0x4000. Both name the picture that sitter 0 holds. -/
def listCells (sitter : Byte) : List (Nat × Byte) :=
  [(0x1001, 0x30), (0x2001, 0x40), (0x3000, sitter), (0x3002, 1), (0x3004, 1), (0x3024, 16), (0x3026, 16), (0x302E, 0xFF), (0x302F, 0xFF), (0x4000, sitter),
   (0x401A, 1), (0xC008, 1), (0x1000040100, 1), (0x1000040200, 1)]
def cuts (sitter : Byte) : State :=
  { (withPart { part0 with pkg := some pkg2 }) with
    mem := { dev := listCells sitter }
    sitters := [(0, { state := 2, held := [{ (slotJ 0).pic with deadline := some 0 }] })] }

theorem test_hyp_FramingResults_lists : ∃ f, (cuts 0).framing 0 = some f ∧ (cuts 0).ready = true ∧ ((cuts 0).part 0).serves = true ∧ f.cropEntries ≠ 0
    ∧ (cuts 0).devLE f.cropProd 4 ≠ ((cuts 0).part 0).cropTaken.toNat ∧ (cuts 0).devLE (f.cropRing + 8 * (0 % f.cropEntries)) 8 = 0x3000
    ∧ (cuts 0).devLE (0x3000 + 2) 2 = 1 ∧ (cuts 0).cropListBad 0 f 0x3000 1 = false ∧ (cuts 1).cropListBad 0 f 0x3000 1 = true
    ∧ f.flowEntries ≠ 0 ∧ (cuts 0).devLE f.flowProd 4 ≠ ((cuts 0).part 0).flowTaken.toNat ∧ (cuts 0).devLE (f.flowRing + 8 * (0 % f.flowEntries)) 8 = 0x4000
    ∧ (cuts 0).within 0 0x4000 32 = true ∧ ((cuts 0).flowJob 0 f ((cuts 0).devN 0x4000 32)).isSome = true
    ∧ (cuts 1).flowJob 0 f ((cuts 1).devN 0x4000 32) = none ∧ (framed part0 []).devLE f.cropProd 4 = part0.cropTaken.toNat :=
  ⟨_, rfl, by decide +kernel⟩

theorem test_hyp_FramingResults_flow : (tget {} ({ base with med := { mss := [(1, { job := some flowJ, on := true })] } } : State).med.mss 1).job = some flowJ
    ∧ flowJ.flag = some 0x1000040400 ∧ (tget {} base.med.mss 1).job = none := by decide

/-- Partition 0's sitting at 1 s, of period 50 µs. -/
def sits (P : Part) : State := framed P []

theorem test_hyp_SittingResults : (sits part0).ready = true ∧ (sits part0).part? 0 = some { part0 with pkg := some pkg0 }
    ∧ (sits part0).mem.flips = []
    ∧ (let P : Part := { part0 with from_ := 1000000000 }; P.mayRun 1000000000 = true ∧ P.mayRun 1000000001 = false ∧ P.mayRun 999999999 = false)
    ∧ part0.mayRun 0 = true ∧ part0.run = none ∧ part0.job = none
    ∧ pkg0.stages ≠ []
    ∧ ({ part0 with run := some { number := 1, instant := 0, open_ := [0] } } : Part).run ≠ none := by decide +kernel

theorem test_hyp_SittingResults_training : ∃ f fq, (sits { part0 with job := some (decodeJob job1) }).framing 0 = some f ∧ f.queues[0]? = some fq
    ∧ (decodeJob job1).done < (decodeJob job1).steps ∧ ({ decodeJob job1 with done := 1 } : Job).steps ≤ ({ decodeJob job1 with done := 1 } : Job).done
    ∧ (sits part0).freeBuf fq ≠ none
    ∧ (framed part0 [(0x1000040400, 2), (0x1000040401, 2), (0x1000040404, 2), (0x1000040408, 2), (0x1000040409, 2), (0x100004040C, 2)]).freeBuf fq = none :=
  ⟨_, _, rfl, rfl, by decide +kernel⟩

theorem test_hyp_SittingResults_replay :
    let P : Part := { part0 with replay := true, advance := some (63, 7, 1000000), virtualTime := 990000, from_ := 990001 }
    let s := sits P
    P.replay = true ∧ P.state = .running ∧ P.run = none ∧ P.job = none ∧ P.advance = some (63, 7, 1000000) ∧ (1000000 : U64).toNat = P.nextInstant P.from_.toNat
      ∧ (1000000 : U64).toNat ≤ (1000000 : U64).toNat ∧ s.injectedDone 0 1000000 = true ∧ s.buffersReady 0 pkg0 1000000 = true := by decide +kernel

/-- The emit ring of partition 0 holds one entry: a block of 48 bytes at 0x5000 for frame 0 of sitter 0, shape 0 or 1, or shape 2. -/
def emits (shape : Byte) (S : Sitter) (P : Part) : State :=
  { framed P [(0x5002, shape), (0x1000042000, 1), (0x1000042041, 0x50), (0x1000042048, 48)] with sitters := [(0, S)] }
def awaits : Sitter := { state := 2, frames := [{ au := 0, capture := 0, fromArrival := false, adjusted := false, phase := .admitted }] }

theorem test_hyp_ResultPathResults_block : pkg0.emitRing = some (0x1000042000, 124)
    ∧ (let s := emits 0 awaits part0
       s.ready = true ∧ (s.part 0).pkg = some pkg0 ∧ (s.part 0).serves = true ∧ s.mem.flips = [] ∧ s.devLE 0x1000042000 4 % 124 ≠ 0
        ∧ s.devLE 0x1000042040 8 = 0x5000 ∧ s.devLE 0x1000042048 4 = 48)
    ∧ (let u := (emits 0 awaits part0).setEmit 0 pkg0 1
       blockBad (u.devN 0x5000 48) = false ∧ u.within 0 0x5000 48 = true ∧ u.awaited 0 (u.devN 0x5000 48) = true)
    ∧ (let u := (emits 1 awaits part0).setEmit 0 pkg0 1; blockBad (u.devN 0x5000 48) = false ∧ u.awaited 0 (u.devN 0x5000 48) = true)
    ∧ (let u := (emits 2 awaits part0).setEmit 0 pkg0 1; blockBad (u.devN 0x5000 48) = true)
    ∧ (let u := (emits 0 {} part0).setEmit 0 pkg0 1; u.awaited 0 (u.devN 0x5000 48) = false)
    ∧ { sitter := 0, au := 0, sitting := 0 } ∈ ((emits 0 {} { part0 with orphans := [{ sitter := 0, au := 0, sitting := 0 }] }).part 0).orphans
    ∧ (sits part0).devLE 0x1000042000 4 % 124 = 0 := by decide +kernel

theorem test_hyp_ResultPathResults_group :
    (∀ ph ∈ [FramePhase.dropped, .reported, .ready],
      let f : FrameRec := { au := 0, capture := 0, fromArrival := false, adjusted := false, phase := ph }
      earliest [f] = some f ∧ f.phase = ph)
    ∧ (hosts part0).busOn = true ∧ ((hosts part0).ring 2).sizeLog2 ≠ 0 ∧ ((hosts part0).ring 63).sizeLog2 = 0 ∧ 512 ≤ ((hosts part0).ring 2).free
    ∧ ({ sizeLog2 := 16, prod := 65528 } : Ring).free < 64
    ∧ ({ sizeLog2 := 16, unsigAny := true, intrUs := 1, vector := 255 } : Ring).unsigAny = true ∧ ((hosts part0).ring 2).unsigAny = false := by
  decide +kernel

/-! ### Witnesses: power, memory, board, invariant -/

theorem test_hyp_PowerEventResults : ({ base with pwr := { base.pwr with change := some { die := 5, to_ := 7 } } } : State).pwr.change = some { die := 5, to_ := 7 }
    ∧ base.pwr.todo = [] ∧ ({ base with boot := { base.boot with step := 1 } } : State).board.clocksStopped = false ∧ base.ready = true := by decide

/-- Every die at OP4, CD3 at 99 °C or 100 °C; Easel 0, the leaf of partition 0, was in a dispatch for so many of 100 cycles. -/
def warm (t : Int) (busy : Nat) : State :=
  { base with pwr := { base.pwr with ops := (List.range 8).map (fun d => (d, 4)), temps := [(0, 70), (1, 70), (2, 70), (3, t), (4, 70), (5, 70), (6, 70), (7, 70)] }
              parts := [(0, { part0 with pkg := some pkg0 })], easels := [(0, { powered := true, spanCyc := 100, busyCyc := busy })]
              host := { live := { phases := [(0, 0x0404040400000000), (1, 0x0000FFFF04040404)] } } }

theorem test_hyp_PowerEventResults_shift :
    (let s := warm 100 85
     s.ready = true ∧ s.pwr.alert = false ∧ 100 ≤ s.temp 3 ∧ (∀ x, x < 8 → x ≠ 3 → s.temp x < 100) ∧ 0 < s.planned 3 ∧ s.moveOk 3 (s.planned 3 - 1) = true)
    ∧ (let s := warm 99 85
       let u := s.passTo 0
       let occ (d : Nat) : Nat × Nat := if (u.occNow d).2 = 0 then (0, 1) else u.occNow d
       s.tb.time.toNat % 10000000 < 40 ∧ (∀ x, x < 8 → s.temp x < 100) ∧ (∀ x, x < 8 → ∀ y, y < 8 → neighbours x y = true → s.temp x ≤ s.temp y + 30) ∧ s.freeze = false
        ∧ (∀ x, x < 8 → (s.band x).1 ≤ s.planned x ∧ s.planned x ≤ (s.band x).2) ∧ s.budget = 0 ∧ occ 0 = (85, 100)
        ∧ (∀ x, x < 6 → (occ x).1 * (occ 0).2 ≤ (occ 0).1 * (occ x).2)
        ∧ s.planned 0 < 7 ∧ s.planned 0 < (s.band 0).2 ∧ s.moveOk 0 (s.planned 0 + 1) = true) := by decide +kernel

theorem test_hyp_PowerEventResults_settle : let near (mv : Nat) : Prop := 99 * opVolt 7 ≤ 100 * mv ∧ 100 * mv ≤ 101 * opVolt 7
    near (opVolt 7) ∧ ¬ near 0 ∧ base.op 5 < 7 ∧ (List.replicate 8 [(40 : Int)]).length = 8 := by decide

theorem test_hyp_PowerEventResults_pins : (let s : State := { base with boot := {} }; s.ready = false ∧ s.pwr.alertPin = false)
    ∧ ({ base with boot := { base.boot with journalA := base.boot.journalA } } : State).ready = true ∧ (18 : Nat) < 19 := by decide

theorem test_hyp_MemoryEventResults : base.board.clocksStopped = false ∧ base.groupState 15 = 0
    ∧ ({ base with mem := { groups := [(15, 2)] } } : State).groupState 15 ≠ 0
    ∧ (∀ l ∈ ([[], [79], [0, 79], [0, 1, 79]] : List (List Nat)), (tget [] base.mem.flips 0x7DFFFFFF8 ++ l).eraseDups = l)
    ∧ base.boot.state = 1 ∧ base.board.porAsserted = false ∧ base.mem.scrubAt % 128 = 0 ∧ base.mem.scrubFirst = [] ∧ base.mem.flips = []
    ∧ (let s : State := { base with mem := { groups := [(15, 1)], moving := [(15, 0)] } }; tfind s.mem.moving 15 = some 0 ∧ s.groupState 15 = 1)
    ∧ tfind ({ base with mem := { moving := [(15, 2)] } } : State).mem.moving 15 = some 2 ∧ tfind base.mem.moving 15 = none
    ∧ (0x5FFFFFF8 : Nat) < 0x60000000 ∧ 0x5FFFFFF8 % 8 = 0 ∧ edcOk 1 (some ⟨0x5FFFFFFF, .track 191 7⟩) = true ∧ edcOk 0 none = true := by
  decide +kernel

/-- R385: kind 4 is logged, and the partition that owns the unit restarts. -/
theorem test_edc_failure : (match exec (.gddrRetrack 0 1 (some ⟨0xFF, .track 0 0⟩)) { base with parts := [(0, part0)] } with
    | .next t => decide ((t.part 0).cause.map (fun c => (c.cause, c.detail, c.words.getLast?)) = some (2, 0x80, some 0xF8))
        && decide ((t.mem.errLog.map (fun r => r.2.take 7)) = [[1, 4, 6, 1, 0xFF, 0xFF, 0]])
    | _ => false) = true := by decide +kernel

theorem test_hyp_BoardPortResults : State.reset.board.porAsserted = true ∧ base.board.porAsserted = false ∧ base.board.clocksStopped = false
    ∧ ({ base with boot := { base.boot with step := 20 }, board := { base.board with sbTemps := List.replicate 8 40, sbIdentity := List.replicate 32 1 } } : State).board.sbTemps.length = 8
    ∧ (List.replicate 32 (1 : Byte)).length = 32 := by decide

theorem test_hyp_CarukRoundTrip : carukWord (.add 191 31 31 31) = some (191, 4, 0x3FFF80) ∧ carukWord (.trackOpComplete 0 0) = none := by decide

theorem test_hyp_EveryCommandCompletes : (Instr.bar4Read 0xFFFFFF8 8).wf = true ∧ 0xFFFFFF8 + 8 ≤ base.barSize 4 ∧ (Instr.registerReadCapture 2 0x3FFFFC 4).wf = true
    ∧ 0x3FFFFC + 4 ≤ base.barSize 2 := by decide

theorem test_hyp_StepTakesFront_idle : base.pending = [] ∧ base.board.clocksStopped = false ∧ base.boot.state = 1 := by decide

/-- A step from a state that keeps the memory form. -/
theorem test_hyp_MemoryInvariant : ∃ t, step { State.reset with pending := [.pwrAlert false] } = .next t := ⟨_, rfl⟩

theorem test_hyp_MemoryInvariant_form : (let s : State := { State.reset with pending := [.pwrAlert false] }
    Memory.wf 0 s.mem.dev = true ∧ Memory.wf 0 s.pcie.hostMem = true ∧ Memory.wf 0xFF s.boot.flash = true ∧ s.easels = []) := by
  decide

/-! ### Worked examples of the manual

Each expected value stands in the file named. -/

/-- 01, after R11: slot 3 of cluster 2 of CD1 fails. -/
theorem test_easel_map : ((easelMapOf { goodBoot 2 with selfTest := BitVec.ofNat 216 (2 ^ 216 - 1 - 2 ^ 57) }).filter (fun x => x.1 / 8 = 6)).map (·.2)
    = [54, 55, 56, 58, 59, 60, 61, 62] := by decide +kernel

/-- 02, after R48: exactly 120 ms old is not yet stale. -/
theorem test_staleness : staleAt 1780000000220000000 1780000000100000000 120000 = false
    ∧ staleAt 1780000000220000001 1780000000100000000 120000 = true := by decide

/-- 03, "a sender report across a timestamp wrap". -/
theorem test_sender_report : reportTime 3990000000 0x80000000 37 = 1781011237500000000 ∧ extend 32 12884834592 24000 = 12884925888
    ∧ reportTime 3990000000 0x80000000 37 + rneDiv ((12884925888 - 12884834592) * 1000000000) 90000 = 1781011238514400000
    ∧ rneDiv (6000 * 1000000000) 90000 = 66666667 := by decide

/-- 05, "one detector pixel of the reference workload". -/
def detector : Machine.Profile :=
  { outW := 1280, outH := 736, fit := 1, colour := 0, matrix := 1, range := 0, int8 := true, filterSet := 0, pixelBytes := 4, fill := [0, 0, 0], rowPitch := 5120
    scalePitch := 5120 }
theorem test_detector_geometry : (let g := geometry detector (0, 0, 7680, 4320); g.iw = 1280 ∧ g.ih = 720 ∧ g.ox = 0 ∧ g.oy = 8 ∧ g.stepX = 98304 ∧ g.stepY = 98304)
    ∧ lumaPos 0 0 98304 = 16384 ∧ lumaPos 1 0 98304 = 114688 ∧ lumaPos 2 0 98304 = 212992 ∧ chromaPos 2 32768 16384 = -8192 ∧ chromaPos 2 0 16384 = 8192 := by
  decide +kernel
theorem test_detector_colour : convertColour detector 100 110 150 = [137, 90, 60] ∧ rneDiv 514 4 = 128 ∧ rneDiv 518 4 = 130 := by decide +kernel
theorem test_detector_codes : (quantPixel [137, 90, 60]).codes = [17, -71, -127] := by decide +kernel

/-- 06, after R168: LUI s6, 0x04000 then LUIH s6, 0x00010 gives the base of the Gallery window of CD1. -/
theorem test_lui : (match exec (.lui 5 6 0x04000) (one (runs [])) with | .next t => (t.easel 5).sr 6 | _ => 0) = 0x04000000 := by decide +kernel
theorem test_luih : (match exec (.luih 5 6 0x00010) (one (runs [(6, 0x04000000)])) with | .next t => (t.easel 5).sr 6 | _ => 0) = 0x1004000000
    ∧ galleryBase 1 = 0x1004000000 := by decide +kernel

/-- 07: the parts of 3.14159274 as split-three multiplies them. -/
theorem test_split : encodeF fmtBF16 (hiBf (fv 0x40490FDB)) = 0x4049 ∧ encodeF fmtBF16 (loBf (fv 0x40490FDB)) = 0x3A7E := by decide +kernel

/-- 07, "encoding a stroke", and 10, "fetching one tap of a detector layer". -/
theorem test_stroke_words (e : Nat) :
    carukWord (.stroke e { rsv := 0, clr := 1, neg := 0, lt := 0, mode := 0, tf := 0, lf := 0, rp := 13, rk := 12, rt := 11, rl := 10 }) = some (e, 8, 0x000000200358B521)
    ∧ carukWord (.stroke e { rsv := 0, clr := 1, neg := 0, lt := 0, mode := 0, tf := 0, lf := 2, rp := 13, rk := 12, rt := 11, rl := 10 }) = some (e, 8, 0x000000201358B521)
    ∧ carukWord (.fetch e { rsv := 0, dev := 0, tb := 1, ta := 0, rg := 0, rf := 0, rl := 7, rc := 6, trk := 1, dn := 3 }) = some (e, 8, 0x0000001000398983) :=
  ⟨rfl, rfl, rfl⟩

/-- 08, "one position through a 1 × 1 layer": the input row, then output channel 0. -/
def layerRow : List (BitVec 32) := [0x3F000000, 0xBFA00000, 0x411C0000, 0, 0x3FFE0000, 0xBE99999A, 0x3F400000, 0x3F800000]
theorem test_layer_codes : (quantise layerRow 0x40C00000 1).codes = [32, -80, 0x80, 0, 127, -19, 48, 64] := by decide +kernel
theorem test_layer_scale : (quantise layerRow 0x40C00000 1).scale = 0x3C800000
    ∧ listBytes 1 (quantise layerRow 0x40C00000 1).out = [2, 0, 0, 0, 0, 0, 0x1C, 0x41]
    ∧ (quantise (layerRow.set 6 0xC11C0000) 0x40C00000 1).out.map (·.1) = [2] := by decide +kernel
/-- 0.755615234375 is 0x3F417000. -/
theorem test_layer_rescale : (rescale [{ acc := fInt 1022, sa := 0x3C800000, corr := [(fInt 5, 0x411C0000)] }] 0x3C000000 (some 0x3E800000)).v = 0x3F417000
    ∧ (quantise [0x3F417000, 0, 0x3FFE0000, 0x3E800000] 0x40800000 2).codes = [48, 0, 127, 16] := by decide +kernel

/-- 10, "one block under G2 and G3". -/
def glazeBlock : List Byte := [100, -40, 24, 8, 101] ++ List.replicate 12 0 ++ [0x80] ++ List.replicate 46 0
theorem test_glaze2 : (glazeEncode 1 glazeBlock).1.getD 0 0 = 0xE6 ∧ (glazeEncode 1 glazeBlock).2 = 4
    ∧ glazeDecode 1 64 0 (glazeEncode 1 glazeBlock).1 4 [17] = [96, -32, 32, 0, 96] ++ List.replicate 12 0 ++ [0x80] ++ List.replicate 46 0 := by decide +kernel
theorem test_glaze3 : (glazeEncode 2 glazeBlock).2 = 2
    ∧ glazeDecode 2 64 0 (glazeEncode 2 glazeBlock).1 2 [17] = [100, -40, 24, 8, 100] ++ List.replicate 12 0 ++ [0x80] ++ List.replicate 46 0 := by decide +kernel

/-- 10: descriptor d3 of "fetching one tap of a detector layer". -/
def tap : TDesc :=
  { base := 0x280100000, format := 0, eMax := 2, glaze := 0, pad := 0, rowScale := true, s1x64 := false, rsv := 0, dim0 := 128, dim1 := 160, dim2 := 92, dim3 := 1
    tile0 := 128, tile1 := 64, tile2 := 1, tile3 := 1, stride1 := 128, stride2 := 20480, stride3 := 29440 }
theorem test_tap_planes : scalePlane tap = 0x2802CC000 ∧ listPlane tap = 0x2802DA600 ∧ locBytes tap 0 1 = 9472 ∧ linePitch tap 0 1 = 64 ∧ codeArea tap 0 1 = 8192 := by decide +kernel
theorem test_tap_origin : (tileRows tap).countP (fun r => rowIn tap 0x00000027FFFF0000 r) = 63
    ∧ ((tileRows tap).filter (fun r => rowIn tap 0x00000027FFFF0000 r)).map (rowIndex tap 0x00000027FFFF0000) = (List.range 63).map (· + 6240) := by decide +kernel

/-- 13, "a group at the end of a ring". -/
theorem test_ring_end : (let R : Ring := { sizeLog2 := 16, prod := 0x2FF40, cons := 0x20000 }; R.tail = 192 ∧ R.free = 192)
    ∧ (let R : Ring := { sizeLog2 := 16, prod := 0x2FF40, cons := 0x2FF40, lostRecords := 4, lostGroups := 1 }
       R.free = 65536 ∧ recordsLen (overflowNotice R 0) = 0x30)
    ∧ recordLen (damageNotice 12 {} 0 { au := 0, capture := 0, fromArrival := false, adjusted := false } 0) = 48
    ∧ (recordBytes 5122 (State.reset.frameRecord 12 { partition := 0, lastRec := some (0, 0) } { au := 0, capture := 0, fromArrival := false, adjusted := false, block := List.replicate 48 0 })).take 16
      = [0x02, 0x14, 0, 0, 0, 0, 0, 0, 1, 0, 0x40, 0, 0x0C, 0, 0, 0] := by decide +kernel

/-- 15, "placing a tensor base". -/
theorem test_placement : place 0x100000 = { channel := 0, bank := 0, row := 21, column := 20 } ∧ place 0x100080 = { channel := 1, bank := 0, row := 21, column := 20 }
    ∧ place 0x100C00 = { channel := 0, bank := 3, row := 21, column := 20 } := by decide

end Sys2Proof.Tests
end

section
/-!
The atelier and partition commands (R29, R321 to R323). Each of them configures the part: it is refused by its first failing check, or answers
with its new state, measured. So a command's results are what its new state holds, and that the queues still hold the command in it.
-/
namespace Sys2Proof.Machine

/-! ### Tables and fields -/

@[simp] theorem tfind_terase_self {α : Type} (t : Tbl α) (k : Nat) : tfind (terase t k) k = none := by
  induction t with
  | nil => rfl
  | cons x t ih => obtain ⟨j, v⟩ := x; by_cases h : j = k <;> simp [terase, tfind, h, ih]

theorem tfind_terase_ne {α : Type} (t : Tbl α) {k i : Nat} (h : i ≠ k) : tfind (terase t k) i = tfind t i := by
  induction t with
  | nil => rfl
  | cons x t ih =>
    obtain ⟨j, v⟩ := x
    by_cases hj : j = k
    · subst hj; simp [terase, tfind, ih, Ne.symm h]
    · simp [terase, tfind, hj, ih]

theorem leNat_lt (l : List Byte) : leNat l < 256 ^ l.length := by
  induction l with
  | nil => simp [leNat]
  | cons b l ih =>
    have hb := b.isLt
    rw [leNat, List.length_cons, Nat.pow_succ]
    omega

/-- A field of two bytes keeps its value in a 16-bit word. -/
theorem toNat_ofNat_fieldLE_two (b : List Byte) (off : Nat) : (BitVec.ofNat 16 (fieldLE b off 2)).toNat = fieldLE b off 2 := by
  have h := leNat_lt ((List.range 2).map (fun i => b.getD (off + i) 0))
  rw [BitVec.toNat_ofNat]
  exact Nat.mod_eq_of_lt (by simpa [fieldLE] using h)

/-! ### What answering and measuring leave -/

section
variable (s : State) (q k : Nat) (n : U32) (st r : Nat) (e : Entry) (b : List Byte)

@[simp] theorem State.answer_sitters : (s.answer q n st r).sitters = s.sitters := rfl
@[simp] theorem State.answer_disps : (s.answer q n st r).disps = s.disps := rfl
@[simp] theorem State.part?_answer : (s.answer q n st r).part? k = s.part? k := rfl
@[simp] theorem State.easel_answer : (s.answer q n st r).easel k = s.easel k := rfl

@[simp] theorem State.measureConfig_sitters : (s.measureConfig e b k).sitters = s.sitters := rfl
@[simp] theorem State.measureConfig_disps : (s.measureConfig e b k).disps = s.disps := rfl
@[simp] theorem State.part?_measureConfig (i : Nat) : (s.measureConfig e b k).part? i = s.part? i := rfl
@[simp] theorem State.easel_measureConfig (i : Nat) : (s.measureConfig e b k).easel i = s.easel i := rfl
end

/-! ### The command that is answered -/

theorem mem_updFirst {p : Cmd → Bool} {f : Cmd → Cmd} {l : List Cmd} {c : Cmd} (h : l.find? p = some c) : f c ∈ updFirst p f l := by
  induction l with
  | nil => cases h
  | cons a l ih =>
    rw [List.find?_cons] at h
    rw [updFirst]
    cases hp : p a
    · rw [hp] at h; simpa using .inr (ih h)
    · rw [hp] at h; simp_all

/-- Changing a command that `p` does not find, into one that it does not find either, leaves what `p` finds. -/
theorem find?_updFirst {p p' : Cmd → Bool} {f : Cmd → Cmd} (hf : ∀ c, p' c = true → p c = false ∧ p (f c) = false) (l : List Cmd) :
    (updFirst p' f l).find? p = l.find? p := by
  induction l with
  | nil => rfl
  | cons c l ih =>
    rw [updFirst]
    split
    · next hc => simp [hf c hc]
    · simp [List.find?_cons, ih]

/-- The commands of the queues give the unanswered command of a number. -/
theorem State.cmd?_of_queues_eq {s t : State} (h : t.host.queues = s.host.queues) (q : Nat) (n : U32) : t.cmd? q n = s.cmd? q n := by
  simp [State.cmd?, State.queue, h]

/-- Answering a command leaves the commands of other numbers and of other queues. -/
theorem State.cmd?_answer_ne (s : State) {q q' : Nat} {n n' : U32} (st r : Nat) (h : q' ≠ q ∨ n' ≠ n) :
    (s.answer q' n' st r).cmd? q n = s.cmd? q n := by
  by_cases hq : q' = q
  · subst hq
    have hn : n' ≠ n := h.resolve_left (· rfl)
    simp only [State.cmd?, State.answer, State.updCmd, State.queue_setQueue_self]
    refine find?_updFirst (fun c hc => ?_) _
    have hs : c.entry.seq = n' := by simp [Cmd.unanswered] at hc; exact hc.1
    simp [Cmd.unanswered, Cmd.withAnswer, hs, hn]
  · simp only [State.cmd?, State.answer, State.updCmd, State.queue_setQueue_ne _ _ (Ne.symm hq)]

/-- An answer given in a state that still holds the command stands in its queue. -/
theorem answered_answer {s t : State} {q : Nat} {n : U32} {c : Cmd} (hc : s.cmd? q n = some c) (h : t.cmd? q n = s.cmd? q n) (st r : Nat) :
    Answered s (t.answer q n st r) q n st r := by
  refine ⟨c, hc, ?_⟩
  rw [State.answer, State.updCmd, State.queue_setQueue_self]
  exact mem_updFirst (f := fun c => c.withAnswer st r) (h.trans hc)

/-- Command i configures the part: with code 0 it gives the state s1, which is measured for a subject; any other code refuses it. -/
def Configures (i : Instr) (s : State) (q : Nat) (n : U32) (op : Nat) (e : Entry) (b : List Byte) (subject code : Nat) (s1 : State) : Prop :=
  ∃ f, exec i s = command q n op s f ∧ f e b = config s e b subject (if code ≠ 0 then .error code else .ok s1)

section
variable {i : Instr} {s s1 : State} {q : Nat} {n : U32} {op : Nat} {e : Entry} {b : List Byte} {subject code : Nat}

/-- A configuring command that passes answers 0 with its new state, measured. -/
theorem Configures.answers {P : State → Prop} (hx : Configures i s q n op e b subject code s1) (h : CmdReady s q n e b)
    (ho : e.opcode.toNat = op) (hcode : code = 0) (hc : s1.cmd? q n = s.cmd? q n) (hP : P ((s1.measureConfig e b subject).answer q n 0 0)) :
    Answers i s q n 0 0 P := by
  obtain ⟨f, hi, hf⟩ := hx
  obtain ⟨-, -, -, hcmd⟩ := id h
  refine ⟨_, hi.trans (command_next h ho), ?_⟩
  rw [hf, hcode]
  exact ⟨answered_answer hcmd (t := s1.measureConfig e b subject) hc 0 0, hP⟩

/-- A configuring command that fails a check answers its code and does nothing else (R429). -/
theorem Configures.refuses (hx : Configures i s q n op e b subject code s1) (h : CmdReady s q n e b) (ho : e.opcode.toNat = op)
    {k : Nat} (hcode : code = k) (hk : k ≠ 0) : Refuses i s q n k := by
  obtain ⟨f, hi, hf⟩ := hx
  subst hcode
  refine ⟨_, hi.trans (command_next h ho), ?_⟩
  rw [hf, if_pos hk]
  rfl
end

/-! ### ATL_SET and ATL_DELETE (R29) -/

/-- A descriptor that passes names at most 64 members. -/
theorem State.count_le_of_atelierError {s : State} {d : AtlDesc} {loader : Bool} (h : s.atelierError d loader = 0) : d.count ≤ 64 := by
  refine Nat.not_lt.mp (fun hc => ?_)
  have hd : (d.count = 0 || 64 < d.count : Bool) = true := by rw [decide_eq_true hc, Bool.or_true]
  simp only [State.atelierError, hd, if_true] at h
  split at h
  · cases h
  · split at h
    · cases h
    · split at h
      · split at h <;> cases h
      · split at h <;> cases h

theorem State.atelierError_builtin {s : State} {d : AtlDesc} {loader : Bool} (h : d.id < 31) : s.atelierError d loader = 0x0401 := by
  simp [State.atelierError, h]

theorem State.atelierDeleteError_builtin {s : State} {id : Nat} (h : id < 31) : s.atelierDeleteError id = 0x0401 := by
  simp [State.atelierDeleteError, h]

/-- The members of a decoded descriptor, one field each. -/
theorem decodeAtelier_members {b : List Byte} (h : (decodeAtelier b).count ≤ 64) :
    (decodeAtelier b).members = (List.range (fieldLE b 2 1)).map (fun i => fieldLE b (64 + 2 * i) 2) := by
  have h' : fieldLE b 2 1 ≤ 64 := h
  simp only [decodeAtelier, ← List.map_take, List.take_range, Nat.min_eq_left h']


section
variable {s : State} {q : Nat} {n : U32} {e : Entry} {b : List Byte}

theorem atlSet_configures : Configures (.atlSet q n) s q n 0x10 e b 0xFFFF (s.atelierError (decodeAtelier b) false)
    (s.setAtelier (decodeAtelier b) none) := by
  refine ⟨_, (show execAtlSet q n s = _ by rw [execAtlSet]), ?_⟩; rfl

theorem atlDelete_configures : Configures (.atlDelete q n) s q n 0x11 e b 0xFFFF (s.atelierDeleteError (e.arg0.toNat % 256))
    (s.freeAtelier (e.arg0.toNat % 256)) := by
  refine ⟨_, (show execAtlDelete q n s = _ by rw [execAtlDelete]), ?_⟩; rfl

/-- ATL_SET (R29). -/
theorem atlSet_results (h : CmdReady s q n e b) (ho : e.opcode = 0x10) :
    (s.atelierError (decodeAtelier b) false = 0 → Answers (.atlSet q n) s q n 0 0 (fun t =>
        tfind t.ateliers (fieldLE b 0 1) = some { entry := fieldLE b 4 4, loader := none
                                                  members := (List.range (fieldLE b 2 1)).map (fun i => BitVec.ofNat 16 (fieldLE b (64 + 2 * i) 2)) }
        ∧ (∀ k, k ≠ fieldLE b 0 1 → tfind t.ateliers k = tfind s.ateliers k) ∧ t.parts = s.parts ∧ t.easels = s.easels ∧ t.mem = s.mem))
      ∧ (fieldLE b 0 1 < 31 → Refuses (.atlSet q n) s q n 0x0401) := by
  have hop : e.opcode.toNat = 0x10 := by simp [ho]
  refine ⟨fun hok => atlSet_configures.answers h hop hok rfl ⟨?_, fun k hk => tfind_tinsert_ne _ _ hk, rfl, rfl, rfl⟩,
    fun hid => atlSet_configures.refuses h hop (State.atelierError_builtin hid) (by decide)⟩
  have hs : tfind (s.setAtelier (decodeAtelier b) none).ateliers (decodeAtelier b).id = _ := tfind_tinsert_self ..
  rw [decodeAtelier_members (State.count_le_of_atelierError hok), List.map_map] at hs
  exact hs

/-- ATL_DELETE (R29). -/
theorem atlDelete_results (h : CmdReady s q n e b) (ho : e.opcode = 0x11) :
    (s.atelierDeleteError (e.arg0.toNat % 256) = 0 → Answers (.atlDelete q n) s q n 0 0 (fun t =>
        tfind t.ateliers (e.arg0.toNat % 256) = none ∧ (∀ k, k ≠ e.arg0.toNat % 256 → tfind t.ateliers k = tfind s.ateliers k)
        ∧ t.parts = s.parts ∧ t.easels = s.easels))
      ∧ (e.arg0.toNat % 256 < 31 → Refuses (.atlDelete q n) s q n 0x0401) := by
  have hop : e.opcode.toNat = 0x11 := by simp [ho]
  exact ⟨fun hok => atlDelete_configures.answers h hop hok rfl ⟨tfind_terase_self .., fun k hk => tfind_terase_ne _ hk, rfl, rfl⟩,
    fun hid => atlDelete_configures.refuses h hop (State.atelierDeleteError_builtin hid) (by decide)⟩

/-! ### PART_CREATE (R321, R322) -/

theorem State.running_of_ready {op : Nat} (h : CmdReady s q n e b) (ho : e.opcode.toNat = op) :
    ∃ c, s.running q n op = some (c, b) := by
  obtain ⟨-, hr, -, hc⟩ := h
  simp [State.running, hr, hc, ho]

/-- The partition that a configuration makes, on the state it is made in (R321). -/
def State.createPart (s : State) (b : List Byte) : State :=
  (s.setPart (fieldLE b 0 1) { cfgPart b with gallery := s.takeGranules b }).powerOn (s.expansion (cfgPart b).root.toNat)

/-- A PART_CREATE that does not wait for zeros configures the part. -/
theorem partCreate_configures (h : CmdReady s q n e b) (ho : e.opcode.toNat = 0x20) (hw : s.partCreateCode b = 0 → s.createWaits b = false) :
    Configures (.partCreate q n) s q n 0x20 e b (fieldLE b 0 1) (s.partCreateCode b) (s.createPart b) := by
  obtain ⟨c, hc⟩ := State.running_of_ready h ho
  have hq : ¬ 64 ≤ q := Nat.not_le.mpr h.1
  have hwait : (s.partCreateCode b = 0 && s.createWaits b : Bool) = false := by simpa using hw
  refine ⟨_, (show execPartCreate q n s = _ by simp only [execPartCreate, hq, if_false, hc, hwait, Bool.false_eq_true]; rfl), ?_⟩
  rfl

/-- Powering leaves of a root touches Easels only. -/
theorem powerOn_frame (l : List Nat) (s : State) : { s.powerOn l with easels := s.easels } = s := by
  induction l generalizing s with
  | nil => rfl
  | cons a l ih => exact congrArg (fun t : State => { t with easels := s.easels }) (ih (s.setEasel a (s.woken a)))

@[simp] theorem powerOn_parts (l : List Nat) (s : State) : (s.powerOn l).parts = s.parts :=
  (congrArg State.parts (powerOn_frame l s) :)
@[simp] theorem powerOn_sitters (l : List Nat) (s : State) : (s.powerOn l).sitters = s.sitters :=
  (congrArg State.sitters (powerOn_frame l s) :)
@[simp] theorem powerOn_host (l : List Nat) (s : State) : (s.powerOn l).host = s.host :=
  (congrArg State.host (powerOn_frame l s) :)

theorem woken_powered (s : State) (e : Nat) : (s.woken e).powered = true := by
  unfold State.woken
  split
  · assumption
  · rfl

/-- An Easel that is on stays on. -/
theorem powerOn_keeps_powered (l : List Nat) {s : State} {k : Nat} (h : (s.easel k).powered = true) : ((s.powerOn l).easel k).powered = true := by
  induction l generalizing s with
  | nil => exact h
  | cons a l ih =>
    refine ih ?_
    by_cases hk : k = a
    · subst hk; rw [State.easel_setEasel_self]; exact woken_powered s k
    · rw [State.easel_setEasel_ne _ _ hk]; exact h

theorem powerOn_powered {l : List Nat} {s : State} {k : Nat} (h : k ∈ l) : ((s.powerOn l).easel k).powered = true := by
  induction l generalizing s with
  | nil => cases h
  | cons a l ih =>
    rcases List.mem_cons.mp h with rfl | h
    · exact powerOn_keeps_powered l (by rw [State.easel_setEasel_self]; exact woken_powered s k)
    · exact ih h

@[simp] theorem createPart_part?_self (s : State) (b : List Byte) :
    (s.createPart b).part? (fieldLE b 0 1) = some { cfgPart b with gallery := s.takeGranules b } := by
  rw [State.createPart, State.part?, powerOn_parts]
  exact State.part?_setPart_self ..

theorem createPart_part?_ne (s : State) (b : List Byte) {k : Nat} (h : k ≠ fieldLE b 0 1) : (s.createPart b).part? k = s.part? k := by
  rw [State.createPart, State.part?, powerOn_parts]
  exact State.part?_setPart_ne _ _ h

@[simp] theorem createPart_sitters (s : State) (b : List Byte) : (s.createPart b).sitters = s.sitters := by
  rw [State.createPart, powerOn_sitters, State.setPart_sitters]

@[simp] theorem createPart_host (s : State) (b : List Byte) : (s.createPart b).host = s.host := by
  rw [State.createPart, powerOn_host, State.setPart_host]

/-- The leaves of the configuration's root are on. -/
theorem createPart_powered (s : State) (b : List Byte) {l : Nat} (h : l ∈ s.expansion (fieldLE b 4 2)) :
    ((s.createPart b).easel l).powered = true := by
  refine powerOn_powered ?_
  have hroot : (cfgPart b).root.toNat = fieldLE b 4 2 := toNat_ofNat_fieldLE_two b 4
  rwa [hroot]

theorem partCreateCode_of_bad (h : cfgOk b = false) : s.partCreateCode b = partBad := by
  simp [State.partCreateCode, firstCode, h]

theorem partCreateCode_of_exists (h : cfgOk b = true) (hp : (s.part? (fieldLE b 0 1)).isSome = true) : s.partCreateCode b = partExists := by
  simp [State.partCreateCode, firstCode, h, hp]

/-- PART_CREATE (R321, R322). -/
theorem partCreate_results (h : CmdReady s q n e b) (ho : e.opcode = 0x20) :
    (s.partCreateCode b = 0 → s.createWaits b = false → Answers (.partCreate q n) s q n 0 0 (fun t =>
        (∃ P, t.part? (fieldLE b 0 1) = some P ∧ P.state = .empty ∧ P.root = BitVec.ofNat 16 (fieldLE b 4 2) ∧ P.period = fieldLE b 8 2
          ∧ P.offset = fieldLE b 10 2 ∧ P.maxSitters = fieldLE b 6 2 ∧ P.be = (fieldLE b 1 1 = 1 : Bool) ∧ P.pkg = none ∧ P.sitting = 0)
        ∧ (∀ k, k ≠ fieldLE b 0 1 → t.part? k = s.part? k) ∧ (∀ l ∈ s.expansion (fieldLE b 4 2), (t.easel l).powered = true)
        ∧ t.sitters = s.sitters))
      ∧ (cfgOk b = false → Refuses (.partCreate q n) s q n 0x0A11)
      ∧ (cfgOk b = true → (s.part? (fieldLE b 0 1)).isSome = true → Refuses (.partCreate q n) s q n 0x0A12) := by
  have hop : e.opcode.toNat = 0x20 := by simp [ho]
  have hrefuse : ∀ k, k ≠ 0 → s.partCreateCode b = k → Refuses (.partCreate q n) s q n k := fun k hk hcode =>
    (partCreate_configures h hop (fun h0 => absurd (hcode.symm.trans h0) hk)).refuses h hop hcode hk
  refine ⟨fun hok hw => ?_, fun hbad => hrefuse _ (by decide) (partCreateCode_of_bad hbad),
    fun hcfg hp => hrefuse _ (by decide) (partCreateCode_of_exists hcfg hp)⟩
  refine (partCreate_configures h hop (fun _ => hw)).answers h hop hok (State.cmd?_of_queues_eq (by rw [createPart_host]) q n) ?_
  simp only [State.part?_answer, State.part?_measureConfig, State.easel_answer, State.easel_measureConfig, State.answer_sitters,
    State.measureConfig_sitters]
  refine ⟨⟨_, createPart_part?_self s b, ?_⟩, fun k hk => createPart_part?_ne s b hk, fun l hl => createPart_powered s b hl,
    createPart_sitters s b⟩
  exact ⟨rfl, rfl, rfl, rfl, rfl, rfl, rfl, rfl⟩

end

/-! ### PART_TIMING (R322) -/

theorem State.part_of_part? {s : State} {p : Nat} {P : Part} (h : s.part? p = some P) : s.part p = P := by
  rw [State.part, h, Option.getD_some]

theorem State.partCode_of_part? {s : State} {p : Nat} {P : Part} (h : s.part? p = some P) (ok : PartState → Bool) :
    s.partCode p ok = if ok P.state then 0 else partStateErr := by
  rw [State.partCode, h]

/-- A partition with the period, offset and lend lead that an operand of PART_TIMING gives. -/
def Part.timed (P : Part) (a : Nat) : Part :=
  { P with period := a % 2 ^ 16, offset := a / 2 ^ 16 % 2 ^ 16, lendLead := a / 2 ^ 32 % 2 ^ 16 }

section
variable {s : State} {q : Nat} {n : U32} {e : Entry} {b : List Byte} {p : Nat} {P : Part}

/-- A PART_TIMING whose operand is in range is refused for the partition's state alone. -/
theorem partTiming_configures (hp : s.part? (e.arg0.toNat % 16) = some P)
    (ht : timingOk P.be (e.arg1.toNat % 2 ^ 16) (e.arg1.toNat / 2 ^ 16 % 2 ^ 16) (e.arg1.toNat / 2 ^ 32 % 2 ^ 16) = true) :
    Configures (.partTiming q n) s q n 0x22 e b (e.arg0.toNat % 16) (if P.state = .empty || P.state = .ready then 0 else partStateErr)
      (s.setPart (e.arg0.toNat % 16) (P.timed e.arg1.toNat)) := by
  have hlow : bits e.arg1.toNat 15 0 = e.arg1.toNat % 2 ^ 16 := by simp [bits]
  have hmid : bits e.arg1.toNat 31 16 = e.arg1.toNat / 2 ^ 16 % 2 ^ 16 := rfl
  have hhigh : bits e.arg1.toNat 47 32 = e.arg1.toNat / 2 ^ 32 % 2 ^ 16 := rfl
  refine ⟨_, (show execPartTiming q n s = _ by rw [execPartTiming]), ?_⟩
  simp only [State.part_of_part? hp, State.partCode_of_part? hp, hlow, hmid, hhigh, ht, firstCode, Bool.not_true, Bool.false_eq_true, if_false, if_true,
    Part.timed]

/-- PART_TIMING (R322). -/
theorem partTiming_results (h : CmdReady s q n e b) (ho : e.opcode = 0x22) (hp : s.part? (e.arg0.toNat % 16) = some P)
    (ht : timingOk P.be (e.arg1.toNat % 2 ^ 16) (e.arg1.toNat / 2 ^ 16 % 2 ^ 16) (e.arg1.toNat / 2 ^ 32 % 2 ^ 16) = true) :
    (P.state = .empty ∨ P.state = .ready → Answers (.partTiming q n) s q n 0 0 (fun t =>
        t.part? (e.arg0.toNat % 16) = some (P.timed e.arg1.toNat)
        ∧ (∀ k, k ≠ e.arg0.toNat % 16 → t.part? k = s.part? k) ∧ t.easels = s.easels ∧ t.mem = s.mem))
      ∧ (P.state = .running → Refuses (.partTiming q n) s q n 0x0A14) := by
  have hop : e.opcode.toNat = 0x22 := by simp [ho]
  have hx := partTiming_configures (q := q) (n := n) (b := b) hp ht
  constructor
  · intro hst
    refine hx.answers h hop (if_pos (by simpa using hst)) (State.cmd?_of_queues_eq rfl q n) ?_
    exact ⟨State.part?_setPart_self .., fun k hk => State.part?_setPart_ne _ _ hk, rfl, rfl⟩
  · intro hst
    exact hx.refuses h hop (if_neg (by simp [hst])) (by decide)
end

/-! ### What leaves the queues and the set of partitions alone -/

/-- The queues are as before, and the same partitions exist. -/
def SameUnits (s t : State) : Prop := t.host.queues = s.host.queues ∧ ∀ k, (t.part? k).isSome = (s.part? k).isSome

namespace SameUnits
variable {s t u : State}

theorem refl (s : State) : SameUnits s s := ⟨rfl, fun _ => rfl⟩
theorem trans (h : SameUnits s t) (h' : SameUnits t u) : SameUnits s u := ⟨h'.1.trans h.1, fun k => (h'.2 k).trans (h.2 k)⟩
theorem of_parts_eq (h : t.host.queues = s.host.queues) (hp : t.parts = s.parts) : SameUnits s t :=
  ⟨h, fun k => by rw [State.part?, hp, ← State.part?]⟩

theorem foldl {α : Type} {f : State → α → State} (hf : ∀ s a, SameUnits s (f s a)) (l : List α) (s : State) : SameUnits s (l.foldl f s) := by
  induction l generalizing s with
  | nil => exact refl s
  | cons a l ih => exact (hf s a).trans (ih (f s a))

theorem ringBytes (s : State) (r : Nat) (b : List Byte) : SameUnits s (s.ringBytes r b) := of_parts_eq rfl rfl
theorem setRing (s : State) (r : Nat) (R : Ring) : SameUnits s (s.setRing r R) := of_parts_eq rfl rfl
theorem setEasel (s : State) (e : Nat) (E : Easel) : SameUnits s (s.setEasel e E) := of_parts_eq rfl rfl
theorem setPrimer (s : State) (c : Nat) (l : List PrimerJob) : SameUnits s (s.setPrimer c l) := of_parts_eq rfl rfl
theorem setDev (s : State) (l : List (Nat × Byte)) : SameUnits s (s.setDev l) := of_parts_eq rfl rfl
theorem draw (s : State) : SameUnits s s.draw.2 := of_parts_eq rfl rfl
theorem writeback (s : State) (r : Nat) : SameUnits s (s.writeback r) := of_parts_eq rfl rfl
theorem ringSignal (s : State) (r : Nat) : SameUnits s (s.ringSignal r) := of_parts_eq rfl rfl
theorem padRecord (s : State) (n : Nat) : SameUnits s (s.padRecord n).2 := of_parts_eq rfl rfl
theorem abandonPut (s : State) (E : Easel) (o : TrackOp) : SameUnits s (s.abandonPut E o) := of_parts_eq rfl rfl
theorem dropDisps (s : State) (gone : Disp → Bool) : SameUnits s (s.dropDisps gone) := of_parts_eq rfl rfl
theorem dropMedWork (s : State) (p : Nat) : SameUnits s (s.dropMedWork p) := of_parts_eq rfl rfl
theorem deallocate (s : State) (a : Nat) : SameUnits s (s.deallocate a) := of_parts_eq rfl rfl
theorem freeAtelier (s : State) (id : Nat) : SameUnits s (s.freeAtelier id) := of_parts_eq rfl rfl
theorem freePart (s : State) (P : Part) : SameUnits s (s.freePart P) := of_parts_eq rfl rfl

theorem ite {c : Prop} [Decidable c] (ht : SameUnits s t) (hu : SameUnits s u) : SameUnits s (if c then t else u) := by
  split
  · exact ht
  · exact hu

theorem padTail (r fuel : Nat) (s : State) (left : Nat) : SameUnits s (s.padTail r fuel left) := by
  induction fuel generalizing s left with
  | zero => exact refl s
  | succ fuel ih =>
    rw [State.padTail]
    exact ite (ringBytes ..) (((padRecord s (min left 65528)).trans (ringBytes ..)).trans (ih _ _))

theorem ringRecords (r : Nat) (l : List Rec) (s : State) : SameUnits s (s.ringRecords r l) := by
  induction l generalizing s with
  | nil => exact refl s
  | cons x l ih =>
    rw [State.ringRecords]
    exact ((setRing ..).trans (ringBytes ..)).trans (ih _)

theorem ringCheckSignal (s : State) (r : Nat) : SameUnits s (s.ringCheckSignal r) := by
  rw [State.ringCheckSignal]
  exact ite (ringSignal ..) (refl s)

theorem writeGroup (s : State) (r : Nat) (g : List Rec) : SameUnits s (s.writeGroup r g) := by
  rw [State.writeGroup]
  refine ite (refl s) (ite ?_ (setRing ..))
  refine .trans ?_ (ringCheckSignal ..)
  refine .trans ?_ (writeback ..)
  refine .trans ?_ (ringRecords ..)
  exact (ite (refl s) (padTail ..)).trans (setRing ..)

theorem partEvent (s : State) (p : Nat) (v : PartEvt) : SameUnits s (s.partEvent p v) := foldl (fun s i => writeGroup s i _) _ s

theorem stopJob (s : State) (j : PrimerJob) : SameUnits s (s.stopJob j) := by
  rw [State.stopJob]
  exact ite (refl s) (ite ((draw s).trans (setEasel ..)) ((draw s).trans (setDev ..)))

theorem abandon (s : State) (e : Nat) : SameUnits s (s.abandon e) := by
  rw [State.abandon]
  exact (((foldl (fun s o => abandonPut s _ o) _ s).trans (foldl stopJob _ _)).trans (setEasel ..)).trans (setPrimer ..)

/-- A partition that exists gets another record. -/
theorem setPart {p : Nat} {P : Part} (h : s.part? p = some P) (Q : Part) : SameUnits s (s.setPart p Q) := by
  refine ⟨rfl, fun k => ?_⟩
  by_cases hk : k = p
  · subst hk; rw [State.part?_setPart_self, h]; rfl
  · rw [State.part?_setPart_ne _ _ hk]

theorem endLoan (s : State) (e : Nat) : SameUnits s (s.endLoan e) := by
  unfold State.endLoan
  split
  · exact refl s
  · extract_lets s1 E s2 s3
    have h : SameUnits s s3 := ((abandon s e).trans (setEasel ..)).trans (dropDisps ..)
    split
    · exact h
    · next hP => exact h.trans (setPart hP _)

theorem recallLoans (s : State) (f : Loan → Bool) : SameUnits s (s.recallLoans f) := by
  refine foldl (fun s e => ?_) _ s
  split
  · split
    · exact endLoan s e
    · exact refl s
  · exact refl s

end SameUnits

/-! ### PART_DELETE (R322, R323, R35) -/

/-- The state in which a partition's REPLAY_ADVANCE, if one waits, has been told that the partition is gone. -/
def State.dropAdvance (s : State) (p : Nat) : State :=
  match (s.part p).advance with
  | some (q, n, _) => s.answer q n partNotFound 0
  | none => s

@[simp] theorem part?_dropAdvance (s : State) (p k : Nat) : (s.dropAdvance p).part? k = s.part? k := by
  unfold State.dropAdvance
  split <;> rfl

/-- Only the command that the partition's REPLAY_ADVANCE is gets an answer. -/
theorem cmd?_dropAdvance {s : State} {p q : Nat} {n : U32} (h : ∀ x, (s.part p).advance = some x → x.1 ≠ q ∨ x.2.1 ≠ n) :
    (s.dropAdvance p).cmd? q n = s.cmd? q n := by
  unfold State.dropAdvance
  split
  · next hx => exact State.cmd?_answer_ne s _ _ (h _ hx)
  · rfl

/-- What a deleted partition held is given up (R35): its work, its loans, its package copy and atelier descriptors, its memory. -/
def State.releasePart (s : State) (p : Nat) : State :=
  let s1 := (((s.dropAdvance p).partEvent p { event := 8 }).recallLoans (fun l => l.borrower = p || l.lender = p)).dropMedWork p
  let s2 := match (s.part p).pkg with | some k => k.ateliers.foldl State.freeAtelier (s1.deallocate k.copyAddr) | none => s1
  s2.freePart (s.part p)

/-- A partition's entry and its dispatches are gone. -/
def State.erasePart (s : State) (p : Nat) : State := { s with parts := terase s.parts p, disps := s.disps.filter (fun d => d.part ≠ p) }

/-- Easels as a power-on finds them. -/
def State.resetEasels (s : State) (l : List Nat) : State := l.foldl (fun s e => s.setEasel e {}) s

theorem deletePart_eq (s : State) (p : Nat) : ∃ l, s.deletePart p = ((s.releasePart p).erasePart p).resetEasels l := ⟨_, rfl⟩

/-- Resetting Easels touches Easels only. -/
theorem resetEasels_frame (l : List Nat) (s : State) : { s.resetEasels l with easels := s.easels } = s := by
  induction l generalizing s with
  | nil => rfl
  | cons a l ih => exact congrArg (fun t : State => { t with easels := s.easels }) (ih (s.setEasel a {}))

@[simp] theorem resetEasels_host (l : List Nat) (s : State) : (s.resetEasels l).host = s.host := (congrArg State.host (resetEasels_frame l s) :)
@[simp] theorem resetEasels_parts (l : List Nat) (s : State) : (s.resetEasels l).parts = s.parts := (congrArg State.parts (resetEasels_frame l s) :)
@[simp] theorem resetEasels_disps (l : List Nat) (s : State) : (s.resetEasels l).disps = s.disps := (congrArg State.disps (resetEasels_frame l s) :)

theorem releasePart_sameUnits (s : State) (p : Nat) : SameUnits (s.dropAdvance p) (s.releasePart p) := by
  rw [State.releasePart]
  have h := ((SameUnits.partEvent (s.dropAdvance p) p { event := 8 }).trans
    (.recallLoans _ (fun l => l.borrower = p || l.lender = p))).trans (.dropMedWork _ p)
  refine .trans ?_ (.freePart ..)
  split
  · exact (h.trans (.deallocate ..)).trans (.foldl .freeAtelier _ _)
  · exact h

theorem part?_deletePart_self (s : State) (p : Nat) : (s.deletePart p).part? p = none := by
  obtain ⟨l, hl⟩ := deletePart_eq s p
  rw [hl, State.part?, resetEasels_parts]
  exact tfind_terase_self ..

theorem part?_deletePart_ne (s : State) {p k : Nat} (h : k ≠ p) : ((s.deletePart p).part? k).isSome = (s.part? k).isSome := by
  obtain ⟨l, hl⟩ := deletePart_eq s p
  have hk : ((s.releasePart p).erasePart p).part? k = (s.releasePart p).part? k := tfind_terase_ne _ h
  rw [hl, State.part?, resetEasels_parts, ← State.part?, hk, (releasePart_sameUnits s p).2 k, part?_dropAdvance]

theorem deletePart_disps (s : State) (p : Nat) : ∀ d ∈ (s.deletePart p).disps, d.part ≠ p := by
  obtain ⟨l, hl⟩ := deletePart_eq s p
  intro d hd
  rw [hl, resetEasels_disps] at hd
  simpa using (List.mem_filter.mp hd).2

/-- Deleting a partition answers no command but the partition's own REPLAY_ADVANCE. -/
theorem cmd?_deletePart {s : State} {p q : Nat} {n : U32} (h : ∀ x, (s.part p).advance = some x → x.1 ≠ q ∨ x.2.1 ≠ n) :
    (s.deletePart p).cmd? q n = s.cmd? q n := by
  obtain ⟨l, hl⟩ := deletePart_eq s p
  have hq : (s.deletePart p).host.queues = (s.dropAdvance p).host.queues := by
    rw [hl, resetEasels_host]; exact (releasePart_sameUnits s p).1
  rw [State.cmd?_of_queues_eq hq, cmd?_dropAdvance h]

section
variable {s : State} {q : Nat} {n : U32} {e : Entry} {b : List Byte} {P : Part}

/-- A PART_DELETE of a partition that does not run is refused for its sitters alone. -/
theorem partDelete_configures (hp : s.part? (e.arg0.toNat % 16) = some P) (hst : P.state = .empty ∨ P.state = .ready ∨ P.state = .failed) :
    Configures (.partDelete q n) s q n 0x25 e b (e.arg0.toNat % 16) (if s.sittersOf (e.arg0.toNat % 16) = [] then 0 else partHasSitters)
      (s.deletePart (e.arg0.toNat % 16)) := by
  have hok : (P.state = .empty || P.state = .ready || P.state = .failed : Bool) = true := by simpa [or_assoc] using hst
  refine ⟨_, (show execPartDelete q n s = _ by rw [execPartDelete]), ?_⟩
  simp only [State.partCode_of_part? hp, hok, if_true, firstCode, ne_eq, not_true_eq_false, decide_false, Bool.false_eq_true, if_false]
  cases s.sittersOf (e.arg0.toNat % 16) <;> rfl

/-- PART_DELETE (R322, R323). -/
theorem partDelete_results (h : CmdReady s q n e b) (ho : e.opcode = 0x25) (hp : s.part? (e.arg0.toNat % 16) = some P)
    (hst : P.state = .empty ∨ P.state = .ready ∨ P.state = .failed) (hadv : ∀ x, P.advance = some x → x.1 ≠ q ∨ x.2.1 ≠ n) :
    (s.sittersOf (e.arg0.toNat % 16) = [] → Answers (.partDelete q n) s q n 0 0 (fun t =>
        t.part? (e.arg0.toNat % 16) = none ∧ (∀ k, k ≠ e.arg0.toNat % 16 → (t.part? k).isSome = (s.part? k).isSome)
        ∧ (∀ d ∈ t.disps, d.part ≠ e.arg0.toNat % 16)))
      ∧ (s.sittersOf (e.arg0.toNat % 16) ≠ [] → Refuses (.partDelete q n) s q n 0x0A1B) := by
  have hop : e.opcode.toNat = 0x25 := by simp [ho]
  have hx := partDelete_configures (q := q) (n := n) (b := b) hp hst
  constructor
  · intro hno
    refine hx.answers h hop (if_pos hno) (cmd?_deletePart (by rwa [State.part_of_part? hp])) ?_
    simp only [State.part?_answer, State.part?_measureConfig, State.answer_disps, State.measureConfig_disps]
    exact ⟨part?_deletePart_self .., fun k hk => part?_deletePart_ne s hk, deletePart_disps _ _⟩
  · intro hsit
    exact hx.refuses h hop (if_neg hsit) (by decide)
end

/-- Settles O38: each of the five commands configures the part, so it answers with its new state, or its first failing check refuses it. -/
theorem atelierAndPartitionCommands : Obligations.AtelierAndPartitionCommands := by
  intro s q n e b h
  refine ⟨atlSet_results h, atlDelete_results h, partCreate_results h, ?_, ?_⟩
  · intro ho P hp a ht
    exact partTiming_results h ho hp ht
  · intro ho P hp hst hadv
    exact partDelete_results h ho hp hst hadv

end Sys2Proof.Machine
end

section
/-!
Which commands complete: a command answers a next state, or it names a unit that the part does not have. One rule for each shape of a
command's definition, and one lemma for each command of a shape of its own.
-/
namespace Sys2Proof.Machine

/-- A command answers a next state, or it names no unit of the part (log 7), and then `ok` does not hold. -/
def Serves (ok : Prop) (o : Out) : Prop := (∃ t, o = .next t) ∨ (¬ ok ∧ o = noUnit)

namespace Serves
variable {ok : Prop} {o o' : Out}

theorem next (t : State) : Serves ok (.next t) := .inl ⟨t, rfl⟩
theorem noUnit (h : ¬ ok) : Serves ok noUnit := .inr ⟨h, rfl⟩

theorem imp {ok' : Prop} (h : Serves ok o) (hok : ok' → ok) : Serves ok' o := h.imp_right (fun hn => ⟨fun h' => hn.1 (hok h'), hn.2⟩)

theorem ite {c : Prop} [Decidable c] (h : Serves ok o) (h' : Serves ok o') : Serves ok (if c then o else o') := by
  split
  · exact h
  · exact h'

/-- The check of a unit: the rest runs for a unit that exists. -/
theorem guard {bad : Prop} [Decidable bad] (hok : ok → ¬ bad) (h : Serves ok o) : Serves ok (if bad then Machine.noUnit else o) := by
  split
  · next hbad => exact noUnit (fun h' => hok h' hbad)
  · exact h

/-- The same check, written the other way round. -/
theorem guardOk {good : Prop} [Decidable good] (hok : ok → good) (h : Serves ok o) : Serves ok (if good then o else Machine.noUnit) := by
  split
  · exact h
  · next hbad => exact noUnit (fun h' => hbad (hok h'))

/-- The check of a unit's number n, of k. -/
theorem unit {n k : Nat} (h : Serves (n < k) o) : Serves (n < k) (if k ≤ n then Machine.noUnit else o) := guard Nat.not_le.mpr h

theorem completes (h : Serves ok o) (hok : ok) : ∃ t, o = .next t := h.resolve_right (fun hn => hn.1 hok)

theorem not_refused (h : Serves ok o) (r : Refusal) : o ≠ .refused r := by
  rcases h with ⟨t, rfl⟩ | ⟨-, rfl⟩
  · exact nofun
  · exact nofun
end Serves

/-! ### The shared shapes -/

section
variable {e q p len insn op : Nat} {n : U32} {legal : Bool} {u : Uses} {s : State}

theorem issue_serves {f : Easel → State} : Serves (e < 192) (issue e len insn legal u s f) := by
  by_cases he : e < 192
  · exact .inl (issue_completes he)
  · exact .inr ⟨he, by simp [issue, Nat.not_lt.mp he]⟩

theorem command_serves {f : Entry → List Byte → State × Nat × Nat} : Serves (q < 64) (command q n op s f) := by
  by_cases hq : q < 64
  · exact .inl (command_completes hq)
  · exact .inr ⟨hq, by simp [command, Nat.not_lt.mp hq]⟩

theorem onUnit_serves {ok : Prop} [Decidable ok] : Serves ok (onUnit ok s) := by
  unfold onUnit
  exact .guardOk decide_eq_true (.next s)

/-- A command that writes to host memory waits while the function may issue no request. -/
theorem outCommand_serves {f : Entry → List Byte → State × List Byte × Nat} : Serves (q < 64) (outCommand q n op s f) :=
  .unit (.ite (.next s) command_serves)

theorem withGroups_serves {code : State → Entry → Nat} {run : State → Entry → List Byte → State × Nat × Nat} :
    Serves (q < 64) (withGroups q n op s code run) := by
  unfold withGroups
  refine .unit ?_
  split
  · exact .next s
  · exact .ite (.next s) (.ite (.next _) (.ite (.ite (.next s) (.next _)) (.next _)))
end

/-! ### Host commands that may wait -/

section
variable {q : Nat} {n : U32} {s : State}

theorem submissionFetch_serves : Serves (q < 64) (execSubmissionFetch q s) := .unit (.ite (.next s) (.next _))

theorem commandStart_serves : Serves (q < 64) (execCommandStart q s) := by
  unfold execCommandStart
  refine .unit (.ite (.next s) ?_)
  split
  · exact .next s
  · exact .ite (.next _) (.next _)

theorem commandComplete_serves : Serves (q < 64) (execCommandComplete q n s) := by
  unfold execCommandComplete
  refine .unit (.ite (.next s) ?_)
  dsimp only
  split
  · exact .next s
  · split
    · exact .next s
    · exact .next _

theorem partCreate_serves : Serves (q < 64) (execPartCreate q n s) := by
  unfold execPartCreate
  refine .unit ?_
  split
  · exact .next s
  · exact .ite (.next s) command_serves

theorem partLoad_serves : Serves (q < 64) (execPartLoad q n s) := .ite onUnit_serves withGroups_serves

theorem partStop_serves : Serves (q < 64) (execPartStop q n s) := by
  unfold execPartStop
  refine .unit ?_
  split
  · exact .next s
  · exact .ite (.next s) (.ite (.next _) (.ite (.next _) (.next _)))

theorem weightSwap_serves : Serves (q < 64) (execWeightSwap q n s) := .ite onUnit_serves command_serves

theorem sitRegister_serves : Serves (q < 64) (execSitRegister q n s) := by
  unfold execSitRegister
  refine .unit ?_
  split
  · exact .next s
  · exact .ite (.next s) command_serves

theorem inject_serves : Serves (q < 64) (execInject q n s) := by
  unfold execInject
  split
  · exact .ite (.next s) command_serves
  · exact command_serves

theorem replayAdvance_serves : Serves (q < 64) (execReplayAdvance q n s) := by
  unfold execReplayAdvance
  refine .unit ?_
  split
  · exact .next s
  · exact .ite (.next _) (.ite (.next _) (.ite (.next s) (.next _)))

theorem memGroup_serves : Serves (q < 64) (execMemGroup q n s) := by
  unfold execMemGroup
  refine .unit ?_
  split
  · exact .next s
  · exact .ite (.next s) (.ite (.next _) (.ite (.next _) (.ite (.next _) (.next _))))
end

/-! ### The host's accesses -/

section
variable {s : State} {bar off : Nat}

theorem registerWrite_serves {size : Nat} {v : U64} :
    Serves (regShape bar off size = true ∧ (bar = 7 ∨ off + size ≤ s.barSize bar)) (execRegisterWrite bar off size v s) := by
  unfold execRegisterWrite
  split
  · next hcfg => exact .guardOk (fun h => by simpa [regShape, cfgShape, show bar = 7 from hcfg] using h.1) (.next _)
  · next hbar =>
    have hbar : bar ≠ 7 := hbar
    refine .guard (fun h => ?_) (.guard (fun h => ?_) (.next _))
    · have h1 := h.1; simp [regShape, hbar] at h1 ⊢; omega
    · have h2 := h.2; omega

theorem registerReadCapture_serves {size : Nat} :
    Serves (regShape bar off size = true ∧ (bar = 7 ∨ off + size ≤ s.barSize bar)) (execRegisterReadCapture bar off size s) := by
  unfold execRegisterReadCapture
  split
  · next hcfg => exact .guardOk (fun h => by simpa [regShape, cfgShape, show bar = 7 from hcfg] using h.1) (.next _)
  · next hbar =>
    have hbar : bar ≠ 7 := hbar
    refine .guard (fun h => ?_) (.guard (fun h => ?_) (.next _))
    · have h1 := h.1; simp [regShape, hbar] at h1 ⊢; omega
    · have h2 := h.2; omega

theorem barReadShapeAbort_serves {len : Nat} : Serves (bar = 0 ∨ bar = 2) (execBarReadShapeAbort bar off len s) :=
  .guard (by simp; omega) (.ite (.next _) (.ite (.next s) (.next _)))

theorem poisonedTlpReceived_serves {len : Nat} : Serves (bar = 0 ∨ bar = 2 ∨ bar = 4) (execPoisonedTlpReceived bar off len s) :=
  .guard (by simp; omega) (.ite (.next _) (.next _))

theorem bar4Read_serves {len : Nat} : Serves (off + len ≤ s.barSize 4) (execBar4Read off len s) :=
  .guard Nat.not_lt.mpr (.ite (.next _) (.ite (.next _) (.ite (.next _) (.ite (.next _) (.next _)))))

theorem bar4Write_serves {b : List Byte} : Serves (off + b.length ≤ s.barSize 4) (execBar4Write off b s) :=
  .guard Nat.not_lt.mpr (.ite (.next _) (.ite (.next _) (.ite (.next _) (.next _))))

theorem hostReadCompletion_serves {ok : Prop} {tag : Nat} {r : HostRead} : Serves ok (execHostReadCompletion tag r s) := by
  unfold execHostReadCompletion
  refine .ite (.next s) ?_
  split
  · exact .next _
  · exact .next _

theorem completionTimeout_serves {ok : Prop} {tag : Nat} : Serves ok (execCompletionTimeout tag s) := by
  unfold execCompletionTimeout
  split
  · exact .next s
  · exact .ite (.next s) (.next _)

theorem msixMessageSend_serves {v : Nat} : Serves (v < 256) (execMsixMessageSend v s) := .unit (.ite (.next s) (.next _))
end

/-! ### Start and recovery -/

section
variable {ok : Prop} {s : State} {sigs : FwSigs}

theorem recoveryVerify_serves : Serves ok (execRecoveryVerify sigs s) := by
  unfold execRecoveryVerify
  split
  · exact .next s
  · exact .next _

theorem recoveryRun_serves {b : BootObs} : Serves ok (execRecoveryRun sigs b s) := by
  unfold execRecoveryRun
  split
  · exact .next s
  · exact .ite (.next _) (.ite (.next _) (.next _))

theorem recoveryWrite_serves {flashOk : Bool} : Serves ok (execRecoveryWrite sigs flashOk s) := by
  unfold execRecoveryWrite
  split
  · exact .next s
  · exact .ite (.next _) (.ite (.next _) (.ite (.next _) (.next _)))

theorem partitionRestart_serves {p : Nat} {us : U32} : Serves (p < 16) (execPartitionRestart p us s) := by
  unfold execPartitionRestart
  refine .unit ?_
  split
  · exact .ite (.next s) (.next _)
  · exact .next s
end

/-! ### Ports, timebase and power -/

section
variable {ok : Prop} {s : State}

theorem ethPortLinkChange_serves {mac : Nat} {up : Bool} : Serves (mac < 8) (execEthPortLinkChange mac up s) :=
  .unit (.ite (.ite (.next s) (.next _)) (.next _))

theorem ethPortTrainFail_serves {port : Nat} : Serves (port < 2) (execEthPortTrainFail port s) := .unit (.ite (.next s) (.next _))

theorem ethFrameReceive_serves {mac : Nat} {f : Frame} : Serves (mac < 8) (execEthFrameReceive mac f s) := by
  unfold execEthFrameReceive
  refine .unit (.ite (.next s) (.ite (.next _) (.ite (.next _) ?_)))
  split
  · exact .next _
  · exact .next _

theorem reorderGapTimeout_serves {n : Nat} : Serves (n < 2048) (execReorderGapTimeout n s) := by
  unfold execReorderGapTimeout
  refine .unit ?_
  split
  · exact .next s
  · exact .ite (.next _) (.next s)

theorem mcastStateChangeReport_serves {i : Nat} {g : BitVec 128} : Serves (i < 32) (execMcastStateChangeReport i g s) :=
  .unit (.ite (.next s) (.next _))

theorem ptmDialogue_serves {r : Option (U64 × Int)} : Serves ok (execPtmDialogue r s) := by
  unfold execPtmDialogue
  refine .ite (.next s) ?_
  split
  · exact .next _
  · exact .next _

theorem ppsInEdge_serves {ferr : Int} : Serves ok (execPpsInEdge ferr s) := by
  unfold execPpsInEdge
  refine .ite (.next s) ?_
  split
  · exact .next _
  · exact .next _

theorem todRxMessage_serves {line : List Byte} : Serves ok (execTodRxMessage line s) := by
  unfold execTodRxMessage
  refine .ite (.next s) ?_
  split
  · exact .next _
  · exact .next s

theorem ptpDelayReqSend_serves : Serves ok (execPtpDelayReqSend s) := by
  unfold execPtpDelayReqSend
  refine .ite (.next s) ?_
  split
  · exact .next s
  · exact .next _

theorem opChangeSettle_serves {mv : Nat} : Serves ok (execOpChangeSettle mv s) := by
  unfold execOpChangeSettle
  split
  · exact .next s
  · exact .ite (.next s) (.next _)

theorem stretcherLinkRetrain_serves {link a b : Nat} : Serves (link < 19 ∧ a ≤ 72 ∧ b ≤ 72) (execStretcherLinkRetrain link a b s) :=
  .guard (fun h => Nat.not_le.mpr h.1) (.ite (.next s) (.ite (.next _) (.ite (.next _) (.next _))))
end

/-! ### Sitters, decoding and framing -/

section
variable {s : State}

theorem decodeStart_serves {e : Nat} {pic : PicDesc} : Serves (e < 36) (execDecodeStart e pic s) := by
  unfold execDecodeStart
  refine .unit (.ite (.next s) ?_)
  split
  · exact .next s
  · split
    · exact .ite (.next _) (.next _)
    · exact .next s

theorem decodeComplete_serves {e us : Nat} : Serves (e < 36) (execDecodeComplete e us s) := by
  unfold execDecodeComplete
  refine .unit ?_
  split
  · exact .next s
  · exact .ite (.next s) (.next _)

theorem engineDomainGate_serves {k : EngineKind} {n : Nat} : Serves (n < engineCount k) (execEngineDomainGate k n s) := by
  cases k with
  | vde | jd | fu | ms => exact .unit (.next _)

theorem framingSlotStart_serves {fu : Nat} : Serves (fu < 8) (execFramingSlotStart fu s) := by
  unfold execFramingSlotStart
  refine .unit (.ite (.next s) ?_)
  split
  · exact .next s
  · exact .next _

theorem framingSlotComplete_serves {fu : Nat} : Serves (fu < 8) (execFramingSlotComplete fu s) := by
  unfold execFramingSlotComplete
  refine .unit ?_
  dsimp only
  split
  · exact .next s
  · refine .ite (.next s) ?_
    split
    · exact .next _
    · split
      · exact .next _
      · exact .next _

theorem cropListTake_serves {p : Nat} : Serves (p < 16) (execCropListTake p s) := by
  unfold execCropListTake
  refine .unit ?_
  dsimp only
  split
  · exact .next s
  · exact .ite (.next s) (.next _)

theorem flowRequestTake_serves {ms p : Nat} : Serves (ms < 2 ∧ p < 16) (execFlowRequestTake ms p s) := by
  unfold execFlowRequestTake
  refine .guard (by simp) ?_
  dsimp only
  split
  · exact .next s
  · exact .ite (.next s) (.next _)

theorem flowComplete_serves {ms : Nat} : Serves (ms < 2) (execFlowComplete ms s) := by
  unfold execFlowComplete
  refine .unit ?_
  dsimp only
  split
  · exact .next s
  · exact .ite (.next s) (.next _)

theorem resultBlockTake_serves {p : Nat} : Serves (p < 16) (execResultBlockTake p s) := by
  unfold execResultBlockTake
  refine .unit ?_
  split
  · exact .next s
  · split
    · exact .next s
    · exact .ite (.next s) (.next _)

theorem resultGroupWrite_serves {n : Nat} : Serves (n < 2048) (execResultGroupWrite n s) := by
  unfold execResultGroupWrite
  refine .unit ?_
  dsimp only
  split
  · exact .next s
  · exact .ite (.next s) (.next _)

theorem sittingInstant_serves {p : Nat} {t : U64} : Serves (p < 16) (execSittingInstant p t s) := by
  unfold execSittingInstant
  refine .unit ?_
  split
  · exact .next s
  · refine .ite (.next s) ?_
    dsimp only
    split
    · exact .next _
    · exact .ite (.next _) (.next _)

theorem replaySitting_serves {p : Nat} {t : U64} : Serves (p < 16) (execReplaySitting p t s) := by
  unfold execReplaySitting
  refine .unit ?_
  dsimp only
  split
  · exact .ite (.next s) (.next _)
  · exact .next s
end

/-! ### Easels -/

section
variable {s : State} {e : Nat}

theorem trackOpComplete_serves {track : Nat} : Serves (e < 192 ∧ track < 8) (execTrackOpComplete e track s) := by
  unfold execTrackOpComplete
  refine .guard (by simp) (.ite (.next s) ?_)
  dsimp only
  split
  · exact .next s
  · exact .next _

theorem leafStart_serves : Serves (e < 192) (execLeafStart e s) := by
  unfold execLeafStart
  refine .unit (.ite (.next s) ?_)
  split
  · exact .next s
  · exact .next _

theorem leafHalted_serves : Serves (e < 192) (execLeafHalted e s) := by
  unfold execLeafHalted
  refine .unit (.ite (.next s) ?_)
  dsimp only
  split
  · exact .next _
  · exact .next _

theorem atelierComplete_serves {ok : Prop} {u : U16} : Serves ok (execAtelierComplete u s) := by
  unfold execAtelierComplete
  split
  · exact .next s
  · exact .ite (.next s) (.next _)

theorem loanStart_serves : Serves (e < 192) (execLoanStart e s) := by
  unfold execLoanStart
  refine .unit (.ite (.next s) ?_)
  split
  · exact .next s
  · exact .next _
  · exact .ite (.next s) (.next _)

theorem loanRecall_serves {cause : RecallCause} : Serves (e < 192) (execLoanRecall e cause s) := by
  unfold execLoanRecall
  refine .unit (.ite (.next s) ?_)
  split
  · exact .next s
  · split
    · exact .next s
    · exact .next _

theorem paletteQueueExecute_serves : Serves (e < 192) (execPaletteQueueExecute e s) := by
  unfold execPaletteQueueExecute
  refine .unit (.ite (.next s) ?_)
  dsimp only
  split
  · exact .next s
  · exact .next _

theorem primerJobStart_serves {c : Nat} : Serves (c < 24) (execPrimerJobStart c s) := by
  unfold execPrimerJobStart
  refine .unit (.ite (.next s) ?_)
  split
  · exact .next s
  · exact .ite (.next s) (.ite (.next _) (.next _))

theorem primerJobComplete_serves {c : Nat} : Serves (c < 24) (execPrimerJobComplete c s) := by
  unfold execPrimerJobComplete
  refine .unit (.ite (.next s) ?_)
  split
  · exact .next s
  · exact .ite (.next s) (.ite (.next _) (.next _))
end

/-! ### Memories -/

section
variable {s : State}

theorem scrubEasel_serves {e array addr : Nat} {l : List Nat} : Serves (e < 192) (s.scrubEasel e array addr l) :=
  .unit (.ite (.next s) (.ite (.next _) (.ite (.next _) (.ite (.next _) (.next _)))))

/-- The word that a scrub reads outside the Easels lies in usable memory (R18, R375). -/
theorem windowOf_ne_hole {a : EccArray} {addr : Nat} (ha : a ∈ [EccArray.gallery, .medSram, .hubSram, .gddr6]) (h : arrayOk a addr = true) :
    windowOf addr ≠ .hole := by
  simp only [List.mem_cons, List.not_mem_nil, or_false] at ha
  rcases ha with rfl | rfl | rfl | rfl <;> simp only [arrayOk, Bool.and_eq_true, decide_eq_true_eq] at h
  · have hlow : ¬ addr < 0x800000000 := by omega
    simp [windowOf, galleryBase, gallerySize, hlow, h]
  · have hlow : ¬ addr < 0x800000000 := by omega
    have hgal : ¬ addr < 0x1018000000 := by omega
    simp [windowOf, galleryBase, medBase, medSize, hlow, hgal, h]
  · have hlow : ¬ addr < 0x800000000 := by omega
    have hgal : ¬ addr < 0x1018000000 := by omega
    have hmed : ¬ addr < 0x1083400000 := by omega
    simp [windowOf, galleryBase, medBase, medSize, hubBase, hlow, hgal, hmed, h]
  · simp [windowOf, groupSize, h]

theorem scrubRead_serves {a : EccArray} {addr : Nat} {l : List Nat} : Serves (addr % 8 = 0 ∧ arrayOk a addr = true) (execScrubRead a addr l s) := by
  unfold execScrubRead
  refine .guard (fun h => Decidable.not_not.mpr h.1) (.ite (.next s) ?_)
  cases a with
  | localStore e | instStore e => exact scrubEasel_serves.imp (fun h => (by simpa [arrayOk] using h.2 : e < 192 ∧ _).1)
  | regFile e => exact scrubEasel_serves.imp (fun h => by simpa [arrayOk] using h.2)
  | gallery | medSram | hubSram | gddr6 =>
    refine .ite (onUnit_serves.imp (fun h => windowOf_ne_hole (by simp) h.2)) ?_
    dsimp only
    split
    · exact .ite (.next s) (.next _)
    · next hw => exact .noUnit (fun h => windowOf_ne_hole (by simp) h.2 hw)
    · exact .next _

theorem gddrRefresh_serves {group channel bank : Nat} : Serves (group < 16 ∧ channel < 2 ∧ bank < 16) (execGddrRefresh group channel bank s) :=
  .guardOk (by simp [and_assoc]) (.ite (.next _) (.next s))

theorem rowIdleClose_serves {group channel bank : Nat} : Serves (group < 16 ∧ channel < 2 ∧ bank < 16) (execRowIdleClose group channel bank s) :=
  .guardOk (by simp [and_assoc]) (.ite (.next s) (.next _))

theorem gddrRetrack_serves {group channel : Nat} {failed : Option EdcFail} :
    Serves (group < 16 ∧ channel < 2 ∧ edcOk channel failed = true) (execGddrRetrack group channel failed s) := by
  unfold execGddrRetrack
  refine .guardOk (by simp [and_assoc]) (.ite ?_ (.next s))
  dsimp only
  split
  · exact .next _
  · exact .next _

theorem memGroupTransitionDone_serves {group : Nat} {retrained : Bool} : Serves (group < 16) (execMemGroupTransitionDone group retrained s) := by
  unfold execMemGroupTransitionDone
  refine .unit (.ite (.next s) ?_)
  split
  · exact .next s
  · exact .next _
end

/-! ### Every command -/

/-- An access to a base address register lies inside it as the part has it configured. -/
def InsideBar (c : Instr) (s : State) : Prop :=
  match c with
  | .registerWrite bar off size _ => bar = 7 ∨ off + size ≤ s.barSize bar
  | .registerReadCapture bar off size => bar = 7 ∨ off + size ≤ s.barSize bar
  | .bar4Read off n => off + n ≤ s.barSize 4
  | .bar4Write off b => off + b.length ≤ s.barSize 4
  | _ => True

/-- A command names units of the part, and registers inside its base address registers. -/
def Reaches (c : Instr) (s : State) : Prop := c.wf = true ∧ InsideBar c s

/-- Where one number's range is the command's well-formedness, a command that reaches its unit is served. -/
theorem Serves.of_wf {c : Instr} {s : State} {ok : Prop} [Decidable ok] {o : Out} (h : Serves ok o) (hwf : c.wf = decide ok) :
    Serves (Reaches c s) o := h.imp (fun hr => of_decide_eq_true (hwf ▸ hr.1))

theorem Serves.of_wf_iff {c : Instr} {s : State} {ok : Prop} {o : Out} (h : Serves ok o) (hwf : c.wf = true ↔ ok) : Serves (Reaches c s) o :=
  h.imp (fun hr => hwf.mp hr.1)

/-- Every Caruk instruction is an issue on its Easel. -/
theorem carukInstruction_serves {c : Instr} (s : State) (h : (carukWord c).isSome = true) : Serves (Reaches c s) (exec c s) := by
  cases c with
  | add | sub | andR | orR | xorR | sll | srl | sra | minR | maxR | minu | maxu | clz | popc | andn | sel | addi | andi | ori | xori | slli | srli |
    srai | luih | lui | cmp | cmpi | pand | por | pxor | pandn | pnot | pset | ptos | stop | mul | mulh | mulhu | div | divu | rem | remu | drd | dwr
    | dcopy | collect =>
    dsimp only [exec, execAdd, execSub, execAndR, execOrR, execXorR, execSll, execSrl, execSra, execMinR, execMaxR, execMinu, execMaxu, execClz,
      execPopc, execAndn, execSel, execAddi, execAndi, execOri, execXori, execSlli, execSrli, execSrai, execLuih, execLui, execCmp, execCmpi,
      execPand, execPor, execPxor, execPandn, execPnot, execPset, execPtos, execStop, execMul, execMulh, execMulhu, execDiv, execDivu, execRem,
      execRemu, execDrd, execDwr, execDcopy, execCollect, aluOp, aluImm, predOp, issueReg]
    exact issue_serves.of_wf rfl
  | ldl | stl | ldg | stg | dld | dst | dldg | dstg | br | jal | jalr | fetch | put | take | tset | waitI | ring | post | barrier | dispatch | ecrr |
    ecrw | trap | halt | twait =>
    dsimp only [exec, execLdl, execStl, execLdg, execStg, execDld, execDst, execDldg, execDstg, execBr, execJal, execJalr, execFetch, execPut,
      execTake, execTset, execWaitI, execRing, execPost, execBarrier, execDispatch, execEcrr, execEcrw, execTrap, execHalt, execTwait, moveIssue]
    exact issue_serves.of_wf rfl
  | stroke | ewise | swap | loadacc | drain | plaunch | plaunchF | pwait =>
    dsimp only [exec, execStroke, execEwise, execSwap, execLoadacc, execDrain, execPlaunch, execPlaunchF, execPwait, strokeIssue, launch]
    exact issue_serves.of_wf rfl
  | vadd | vsub | vmul | vmin | vmax | vand | vor | vxor | vsll | vsrl | vsra | vfadd | vfsub | vfmul | vfmin | vfmax | vfdiv | vfsqrt | vfabs | vcmp
    | vsel | vbcast | vget | vput | vperm | viota | vcvt | vact | vsum | vmaxr | vargmax | visum | vld | vst | vrs | vcorr | vsort | vmerge | viou |
    pquant | psoftmax | plnorm | prmsnorm | ppool | pdwconv | pgconv | pewise =>
    dsimp only [exec, execVadd, execVsub, execVmul, execVmin, execVmax, execVand, execVor, execVxor, execVsll, execVsrl, execVsra, execVfadd,
      execVfsub, execVfmul, execVfmin, execVfmax, execVfdiv, execVfsqrt, execVfabs, execVcmp, execVsel, execVbcast, execVget, execVput, execVperm,
      execViota, execVcvt, execVact, execVsum, execVmaxr, execVargmax, execVisum, execVld, execVst, execVrs, execVcorr, execVsort, execVmerge,
      execViou, execPquant, execPsoftmax, execPlnorm, execPrmsnorm, execPpool, execPdwconv, execPgconv, execPewise, vecInt, vecFlt, vecRed, palIssue,
      palMem, palGroup, formIssue]
    exact issue_serves.of_wf rfl
  | _ => nomatch h

/-- The host's commands and accesses, and everything that happens to the part of itself. -/
theorem event_serves {c : Instr} (s : State) (h : carukWord c = none) : Serves (Reaches c s) (exec c s) := by
  cases c with
  | nop | atlSet | atlDelete | partTiming | partDelete | sitUpdate | sitDelete | sitParamsets | pbqMark | ifSet | ifClear | dmxSet | dmxClear |
    setTime | replaySetTime | ringSet | ringDelete | adaptSamples | adaptStart | adaptAbort | memInject | measExtend | licInstall | licRemove =>
    dsimp only [exec, execNop, execAtlSet, execAtlDelete, execPartTiming, execPartDelete, execSitUpdate, execSitDelete, execSitParamsets, execPbqMark,
      execIfSet, execIfClear, execDmxSet, execDmxClear, execSetTime, execReplaySetTime, execRingSet, execRingDelete, execAdaptSamples, execAdaptStart,
      execAdaptAbort, execMemInject, execMeasExtend, execLicInstall, execLicRemove]
    exact command_serves.of_wf rfl
  | secCerts | quote | measLog | licList =>
    dsimp only [exec, execSecCerts, execQuote, execMeasLog, execLicList]
    exact outCommand_serves.of_wf rfl
  | partStart =>
    dsimp only [exec, execPartStart]
    exact withGroups_serves.of_wf rfl
  | submissionFetch => exact submissionFetch_serves.of_wf rfl
  | commandStart => exact commandStart_serves.of_wf rfl
  | commandComplete => exact commandComplete_serves.of_wf rfl
  | partCreate => exact partCreate_serves.of_wf rfl
  | partLoad => exact partLoad_serves.of_wf rfl
  | partStop => exact partStop_serves.of_wf rfl
  | weightSwap => exact weightSwap_serves.of_wf rfl
  | sitRegister => exact sitRegister_serves.of_wf rfl
  | inject => exact inject_serves.of_wf rfl
  | replayAdvance => exact replayAdvance_serves.of_wf rfl
  | memGroup => exact memGroup_serves.of_wf rfl
  | cqCoalTimer | ringIntrTimer | waitSatisfied | watchdogExpiry | canvasQueueExecute => exact (Serves.unit (.ite (.next _) (.next _))).of_wf rfl
  | laneMarginCommand | resume | dbSqWrite | hqQnCqConsWrite | hqRingConsWrite | dbHostMaskWrite | mbEmbxDataWrite | mbFromDataRead =>
    exact (Serves.unit (.next _)).of_wf rfl
  | registerWrite => exact registerWrite_serves.imp id
  | registerReadCapture => exact registerReadCapture_serves.imp id
  | bar4Read => exact bar4Read_serves.imp And.right
  | bar4Write => exact bar4Write_serves.imp And.right
  | barReadShapeAbort => exact barReadShapeAbort_serves.of_wf_iff (by simp [Instr.wf])
  | poisonedTlpReceived => exact poisonedTlpReceived_serves.of_wf_iff (by simp [Instr.wf, or_assoc])
  | trackOpComplete => exact trackOpComplete_serves.of_wf_iff (by simp [Instr.wf])
  | flowRequestTake => exact flowRequestTake_serves.of_wf_iff (by simp [Instr.wf])
  | gddrRefresh => exact gddrRefresh_serves.of_wf_iff (by simp [Instr.wf, and_assoc])
  | rowIdleClose => exact rowIdleClose_serves.of_wf_iff (by simp [Instr.wf, and_assoc])
  | gddrRetrack => exact gddrRetrack_serves.of_wf_iff (by simp [Instr.wf, and_assoc])
  | scrubRead => exact scrubRead_serves.of_wf_iff (by simp [Instr.wf])
  | stretcherLinkRetrain => exact stretcherLinkRetrain_serves.of_wf_iff (by simp [Instr.wf, and_assoc])
  | msixMessageSend => exact msixMessageSend_serves.of_wf rfl
  | partitionRestart => exact partitionRestart_serves.of_wf rfl
  | ethPortLinkChange => exact ethPortLinkChange_serves.of_wf rfl
  | ethPortTrainFail => exact ethPortTrainFail_serves.of_wf rfl
  | ethFrameReceive => exact ethFrameReceive_serves.of_wf rfl
  | reorderGapTimeout => exact reorderGapTimeout_serves.of_wf rfl
  | decodeStart => exact decodeStart_serves.of_wf rfl
  | decodeComplete => exact decodeComplete_serves.of_wf rfl
  | engineDomainGate => exact engineDomainGate_serves.of_wf rfl
  | framingSlotStart => exact framingSlotStart_serves.of_wf rfl
  | framingSlotComplete => exact framingSlotComplete_serves.of_wf rfl
  | cropListTake => exact cropListTake_serves.of_wf rfl
  | flowComplete => exact flowComplete_serves.of_wf rfl
  | resultBlockTake => exact resultBlockTake_serves.of_wf rfl
  | resultGroupWrite => exact resultGroupWrite_serves.of_wf rfl
  | sittingInstant => exact sittingInstant_serves.of_wf rfl
  | replaySitting => exact replaySitting_serves.of_wf rfl
  | leafStart => exact leafStart_serves.of_wf rfl
  | leafHalted => exact leafHalted_serves.of_wf rfl
  | loanStart => exact loanStart_serves.of_wf rfl
  | loanRecall => exact loanRecall_serves.of_wf rfl
  | paletteQueueExecute => exact paletteQueueExecute_serves.of_wf rfl
  | primerJobStart => exact primerJobStart_serves.of_wf rfl
  | primerJobComplete => exact primerJobComplete_serves.of_wf rfl
  | memGroupTransitionDone => exact memGroupTransitionDone_serves.of_wf rfl
  | mcastStateChangeReport => exact mcastStateChangeReport_serves.of_wf rfl
  | hostReadCompletion => exact hostReadCompletion_serves
  | completionTimeout => exact completionTimeout_serves
  | recoveryVerify => exact recoveryVerify_serves
  | recoveryRun => exact recoveryRun_serves
  | recoveryWrite => exact recoveryWrite_serves
  | ptmDialogue => exact ptmDialogue_serves
  | ppsInEdge => exact ppsInEdge_serves
  | todRxMessage => exact todRxMessage_serves
  | ptpDelayReqSend => exact ptpDelayReqSend_serves
  | opChangeSettle => exact opChangeSettle_serves
  | atelierComplete => exact atelierComplete_serves
  | curatorWatchdogExpiry | flr | perstNAssert | hotReset | linkDown | d3hotToD0 | assertInta | commitIngPort | commitIngSp | commitTbSrc |
    commitTbPhase | commitGlbBar4 | commitPwr | commitQueue | ptpAnnounceTimeout | ppsEdgeTimeout | ingSprxConsWrite | ingSptxProdWrite | mbH2cWrite |
    mbC2hRead | thermTrip | smbusReadStatus | smbusReadTemperature | smbusReadPower | smbusReadDieTemps | smbusReadIdentity | smbusReadPwrStatus |
    smbusWriteRefused | bypass | idcode | samplePreload | extest | highz | pcieLinkUp | powerLoss => exact .next _
  | pcieLinkRetrain | groupApply | phaseBoundary | ppsOutEdge | todTxSend | telemetrySample | pmAlert | shiftStep | pwrAlert | alertAutoClear |
    smbusCopyRefresh | deviceRestart | curatorMailboxEcho | freedMemoryZeroed => exact .ite (.next _) (.next _)
  | porNDeassert | porNAssert => exact .ite (.next _) (.ite (.next _) (.next _))
  | _ => nomatch h

theorem exec_serves (c : Instr) (s : State) : Serves (Reaches c s) (exec c s) := by
  cases h : carukWord c with
  | none => exact event_serves s h
  | some w => exact carukInstruction_serves s (by rw [h]; rfl)

/-- Settles O60: every command is an instruction that issues on its Easel, a host command that runs from its queue, or an event whose definition
checks its unit first; each answers a next state once its unit exists, and none is refused. -/
theorem everyCommandCompletes : Obligations.EveryCommandCompletes :=
  ⟨fun c s hwf hbar => (exec_serves c s).completes ⟨hwf, hbar⟩, fun c s => (exec_serves c s).not_refused⟩

end Sys2Proof.Machine
end

section
/-!
Frames on a MAC (R68 to R71, R84, R95): what a frame that is not taken counts, what the stack answers, what a packet that continues its
stream and a gap that times out do to the reorder window, and the second report of a membership change. The packets that leave a
window build access units, which are archived: all of that leaves the window, its head and the counts of packets received and lost.
-/
namespace Sys2Proof.Machine

/-! ### Counters -/

theorem tget_bump48_self (t : Tbl (BitVec 48)) (k n : Nat) : tget 0 (bump48 t k n) k = tget 0 t k + BitVec.ofNat 48 n := tget_tset_self ..
theorem tget_bump48_ne (t : Tbl (BitVec 48)) {k i : Nat} (n : Nat) (h : i ≠ k) : tget 0 (bump48 t k n) i = tget 0 t i := tget_tset_ne _ _ _ h

theorem macCount_self (s : State) (m j : Nat) : tget 0 (s.macCount m j).ing.macCnt (8 * m + j) = tget 0 s.ing.macCnt (8 * m + j) + 1 :=
  tget_bump48_self ..
theorem macCount_ne (s : State) (m : Nat) {j i : Nat} (h : i ≠ j) :
    tget 0 (s.macCount m j).ing.macCnt (8 * m + i) = tget 0 s.ing.macCnt (8 * m + i) :=
  tget_bump48_ne _ _ (by omega)

/-- Counting touches the MAC's counters only. -/
theorem macCount_frame (s : State) (m j : Nat) (c : Tbl (BitVec 48)) :
    { s.macCount m j with ing := { (s.macCount m j).ing with macCnt := c } } = { s with ing := { s.ing with macCnt := c } } := rfl

theorem acceptors_macCount (s : State) (m j mac : Nat) (f : Frame) : (s.macCount m j).acceptors mac f = s.acceptors mac f := rfl
theorem pick_macCount (s : State) (m j : Nat) (u : Udp) : (s.macCount m j).pick u = s.pick u := rfl

/-! ### What a sitter's ingress state keeps of its reorder window -/

/-- Two ingress states have the same window, with the same head, and the same counts of packets received and lost. -/
structure SameReorder (a b : SitIng) : Prop where
  head : b.head = a.head
  window : b.window = a.window
  packets : tget 0 b.cnt ingPackets = tget 0 a.cnt ingPackets
  lost : tget 0 b.cnt ingLost = tget 0 a.cnt ingLost

namespace SameReorder
variable {a b c : SitIng}

theorem refl (a : SitIng) : SameReorder a a := ⟨rfl, rfl, rfl, rfl⟩
theorem trans (h : SameReorder a b) (h' : SameReorder b c) : SameReorder a c :=
  ⟨h'.head.trans h.head, h'.window.trans h.window, h'.packets.trans h.packets, h'.lost.trans h.lost⟩

/-- Counting something else. -/
theorem ingCount (S : Sitter) {k : Nat} (n : Nat) (hp : k ≠ ingPackets) (hl : k ≠ ingLost) : SameReorder S.ing (S.ingCount k n).ing :=
  ⟨rfl, rfl, tget_bump48_ne _ _ (Ne.symm hp), tget_bump48_ne _ _ (Ne.symm hl)⟩

theorem numbered (S : Sitter) (u : AccessUnit) (r : Bool) : SameReorder S.ing (S.numbered u r).ing := by
  have h := (ingCount S (k := ingUnits) 1 (by decide) (by decide)).trans
    (ingCount _ (k := ingDamaged) (if u.marks &&& 0x0F = 0 then 0 else 1) (by decide) (by decide))
  exact ⟨h.head, h.window, h.packets, h.lost⟩

theorem enqueue (S : Sitter) (i : U64) (u : AccessUnit) (r : Bool) : SameReorder S.ing (S.enqueue i u r).ing := by
  unfold Sitter.enqueue
  split
  · exact ⟨rfl, rfl, rfl, rfl⟩
  · split <;> exact ⟨rfl, rfl, rfl, rfl⟩

end SameReorder

/-! ### What an archive copy leaves -/

/-- The sitters and the MACs are as before. -/
def SameIngress (s t : State) : Prop := t.ing = s.ing ∧ t.sitters = s.sitters

namespace SameIngress
variable {s t u : State}

theorem refl (s : State) : SameIngress s s := ⟨rfl, rfl⟩
theorem trans (h : SameIngress s t) (h' : SameIngress t u) : SameIngress s u := ⟨h'.1.trans h.1, h'.2.trans h.2⟩

theorem ite {c : Prop} [Decidable c] (ht : SameIngress s t) (hu : SameIngress s u) : SameIngress s (if c then t else u) := by
  split
  · exact ht
  · exact hu

theorem setRing (s : State) (r : Nat) (R : Ring) : SameIngress s (s.setRing r R) := ⟨rfl, rfl⟩
theorem ringBytes (s : State) (r : Nat) (b : List Byte) : SameIngress s (s.ringBytes r b) := ⟨rfl, rfl⟩
theorem writeback (s : State) (r : Nat) : SameIngress s (s.writeback r) := ⟨rfl, rfl⟩
theorem ringCheckSignal (s : State) (r : Nat) : SameIngress s (s.ringCheckSignal r) := ite ⟨rfl, rfl⟩ (refl s)
theorem archiveTail (s : State) (r n : Nat) : SameIngress s (s.archiveTail r n) := ite (refl s) (ite (ringBytes ..) (ringBytes ..))

theorem archiveEntry (s : State) (r n : Nat) (f : Nat → List Byte) : SameIngress s (s.archiveEntry r n f) :=
  ((((archiveTail s r n).trans (setRing ..)).trans (ringBytes ..)).trans (writeback ..)).trans (ringCheckSignal ..)

theorem archive (s : State) (r sitter disp reason marks : Nat) (capture arrival : U64) (data : List Byte) :
    SameIngress s (s.archive r sitter disp reason marks capture arrival data) :=
  ite (refl s) (ite ((ite (refl s) ((setRing ..).trans (archiveEntry ..))).trans (archiveEntry ..)) (setRing ..))

theorem drawCapture (s : State) (raw : Int) (arrival : U64) : SameIngress s (s.drawCapture raw arrival).2 := by
  unfold State.drawCapture
  split
  · exact refl s
  · exact ⟨rfl, rfl⟩

end SameIngress

/-! ### What the packets that leave the window keep of it -/

/-- The MACs are as before, and sitter n's reorder window. -/
def KeepsReorder (n : Nat) (s t : State) : Prop := t.ing = s.ing ∧ SameReorder (s.sitter n).ing (t.sitter n).ing

namespace KeepsReorder
variable {n : Nat} {s t u : State}

theorem refl (n : Nat) (s : State) : KeepsReorder n s s := ⟨rfl, .refl _⟩
theorem trans (h : KeepsReorder n s t) (h' : KeepsReorder n t u) : KeepsReorder n s u := ⟨h'.1.trans h.1, h.2.trans h'.2⟩

theorem ite {c : Prop} [Decidable c] (ht : KeepsReorder n s t) (hu : KeepsReorder n s u) : KeepsReorder n s (if c then t else u) := by
  split
  · exact ht
  · exact hu

theorem of_sameIngress (h : SameIngress s t) : KeepsReorder n s t := ⟨h.1, by rw [State.sitter, State.sitter, h.2]; exact .refl _⟩

theorem setSitter {S : Sitter} (h : SameReorder (s.sitter n).ing S.ing) : KeepsReorder n s (s.setSitter n S) :=
  ⟨rfl, by rwa [State.sitter_setSitter_self]⟩

theorem complete (s : State) (n : Nat) (u : AccessUnit) : KeepsReorder n s (s.complete n u) := by
  have h : KeepsReorder n s (s.setSitter n (((s.sitter n).numbered (s.withParams n u) (s.restarting n)).enqueue
      (s.sitter n).ing.nextIndex (s.withParams n u) (s.restarting n))) := setSitter ((SameReorder.numbered ..).trans (.enqueue ..))
  exact ite (h.trans (of_sameIngress (.archive ..))) h

theorem endUnit (s : State) (n : Nat) : KeepsReorder n s (s.endUnit n) := by
  unfold State.endUnit
  extract_lets S
  split
  · exact refl n s
  · next b _ =>
    have h := of_sameIngress (n := n) (SameIngress.drawCapture s (s.rawCapture n b.ts b.arrival).1 b.arrival)
    refine .trans ?_ (complete ..)
    exact h.trans (setSitter ⟨h.2.head.symm, h.2.window.symm, h.2.packets.symm, h.2.lost.symm⟩)

theorem takePacket (s : State) (n : Nat) (w : WinPkt) : KeepsReorder n s (s.takePacket n w) := by
  unfold State.takePacket
  extract_lets s1 S b0 body S1 _ s2
  have h1 : KeepsReorder n s s1 := by
    unfold s1
    split
    · split
      · exact endUnit s n
      · exact refl n s
    · exact refl n s
  have hS : SameReorder S.ing S1.ing := .ingCount S _ (by decide) (by decide)
  have h2 : KeepsReorder n s s2 := h1.trans (setSitter ⟨hS.head, hS.window, hS.packets, hS.lost⟩)
  exact ite (h2.trans (endUnit s2 n)) h2

end KeepsReorder

/-! ### The head of the reorder window (R84) -/

section
variable {s : State} {n : Nat} {w : WinPkt} {h : Int}

theorem lost_zero (s : State) (n : Nat) : s.lost n 0 = s := rfl

/-- Lost numbers are counted, and the window stays. -/
theorem lost_results (s : State) (n c : Nat) :
    ((s.lost n c).sitter n).ing.window = (s.sitter n).ing.window
      ∧ tget 0 ((s.lost n c).sitter n).ing.cnt ingLost = tget 0 (s.sitter n).ing.cnt ingLost + BitVec.ofNat 48 c := by
  unfold State.lost
  extract_lets S
  split
  · next hc => subst hc; simp
  · split
    · rw [State.sitter_setSitter_self]; exact ⟨rfl, tget_bump48_self ..⟩
    · rw [State.sitter_setSitter_self]; exact ⟨rfl, tget_bump48_self ..⟩

/-- A sitter's reorder window after the packet with number e has left its head. -/
def SitIng.headTaken (I : SitIng) (e : Int) : SitIng := { I with head := some (e + 1), window := I.window.filter (fun x => x.ext ≠ e) }

/-- A stored packet that is at the head leaves alone: no number is lost. -/
theorem advanceTo_head (hh : (s.sitter n).ing.head = some w.ext) :
    (s.advanceTo n (w.ext + 1) [w]).ing = s.ing
      ∧ SameReorder ((s.sitter n).ing.headTaken w.ext) ((s.advanceTo n (w.ext + 1) [w]).sitter n).ing := by
  obtain ⟨hing, hS⟩ := KeepsReorder.takePacket s n w
  simp only [State.advanceTo, hh, Option.getD_some, Int.sub_self, Int.toNat_zero, lost_zero, State.sitter_setSitter_self, State.setSitter_ing,
    Int.max_self]
  exact ⟨hing, rfl, by rw [hS.window]; rfl, hS.packets, hS.lost⟩

/-- Draining loses no number and never moves the head back. -/
theorem drain_head (fuel : Nat) (hh : (s.sitter n).ing.head = some h) :
    (∃ k, h ≤ k ∧ ((s.drain n fuel).sitter n).ing.head = some k)
      ∧ tget 0 ((s.drain n fuel).sitter n).ing.cnt ingLost = tget 0 (s.sitter n).ing.cnt ingLost := by
  induction fuel generalizing s h with
  | zero => exact ⟨⟨h, Int.le_refl h, hh⟩, rfl⟩
  | succ fuel ih =>
    rw [State.drain]
    split
    · exact ⟨⟨h, Int.le_refl h, hh⟩, rfl⟩
    · next w l hw =>
      split
      · next hat =>
        obtain rfl : w.ext = h := Option.some.inj (hat.trans hh)
        obtain ⟨-, hS⟩ := advanceTo_head hh
        obtain ⟨⟨k, hk, hhead⟩, hlost⟩ := ih hS.head
        exact ⟨⟨k, by omega, hhead⟩, hlost.trans hS.lost⟩
      · exact ⟨⟨h, Int.le_refl h, hh⟩, rfl⟩

theorem drain_of_window_nil (fuel : Nat) (hw : (s.sitter n).ing.window = []) : s.drain n fuel = s := by
  cases fuel with
  | zero => rfl
  | succ fuel => rw [State.drain, hw]

/-- The first stored packet leaves when it is at the head. -/
theorem drain_succ {l : List WinPkt} (fuel : Nat) (hw : (s.sitter n).ing.window = w :: l) (hh : (s.sitter n).ing.head = some w.ext) :
    s.drain n (fuel + 1) = (s.advanceTo n (w.ext + 1) [w]).drain n fuel := by
  rw [State.drain, hw]
  exact if_pos hh.symm

/-- The only stored packet, at the head, leaves an empty window. -/
theorem drain_single (fuel : Nat) (hw : (s.sitter n).ing.window = [w]) (hh : (s.sitter n).ing.head = some w.ext) :
    (s.drain n (fuel + 1)).ing = s.ing ∧ SameReorder ((s.sitter n).ing.headTaken w.ext) ((s.drain n (fuel + 1)).sitter n).ing := by
  have ht := advanceTo_head hh
  have hnil : ((s.advanceTo n (w.ext + 1) [w]).sitter n).ing.window = [] := by
    rw [ht.2.window, SitIng.headTaken, hw]; simp
  rw [drain_succ fuel hw hh, drain_of_window_nil fuel hnil]
  exact ht

end

/-! ### A packet that continues its stream (R79, R84) -/

/-- A sitter that has counted a packet near its window. -/
def Sitter.received (S : Sitter) (bytes : Nat) : Sitter :=
  let C := (S.ingCount ingPackets 1).ingCount ingBytes bytes
  { C with ing := { C.ing with farSeq := none } }

/-- A sitter whose window holds one packet, at its head. -/
def Sitter.storeAlone (S : Sitter) (w : WinPkt) : Sitter :=
  { S with ing := { S.ing with hiSeq := max S.ing.hiSeq w.ext, hiTs := highest S.ing.hiTs w.ts, head := some w.ext, window := [w] } }

section
variable {s : State} {n : Nat} {p : RtpPkt} {h : Int}

theorem Sitter.received_packets (S : Sitter) (bytes : Nat) : tget 0 (S.received bytes).ing.cnt ingPackets = tget 0 S.ing.cnt ingPackets + 1 :=
  (SameReorder.ingCount (S.ingCount ingPackets 1) bytes (k := ingBytes) (by decide) (by decide)).packets.trans (tget_bump48_self ..)

/-- A packet whose number is the head's is near the window: it is counted and stored. -/
theorem rtpPacket_near (arrival : U64) (hh : (s.sitter n).ing.head = some h) (he : extend 16 (s.sitter n).ing.hiSeq p.seq.toNat = h) :
    ∃ t : State, t.ing = s.ing ∧ t.sitter n = (s.sitter n).received p.bytes ∧ s.rtpPacket n p arrival = t.storePacket n h p arrival := by
  have hnear : ¬ ((h + 3000 < h || h < h - 100 : Bool) = true) := by
    simp only [Bool.or_eq_true, decide_eq_true_eq]
    omega
  subst he
  refine ⟨(s.setSitter n (((s.sitter n).ingCount ingPackets 1).ingCount ingBytes p.bytes)).setSitter n ((s.sitter n).received p.bytes),
    rfl, State.sitter_setSitter_self .., ?_⟩
  unfold State.rtpPacket
  extract_lets S s0
  split
  · next hnone => exact absurd (hh.symm.trans hnone) nofun
  · next k hk =>
    obtain rfl := Option.some.inj (hh.symm.trans hk)
    exact if_neg hnear

/-- A packet whose number is the head's, with nothing stored, is stored alone at the head, and the window drains. -/
theorem storePacket_at_head (arrival : U64) (hh : (s.sitter n).ing.head = some h) (hw : (s.sitter n).ing.window = []) :
    ∃ w, w.ext = h ∧ s.storePacket n h p arrival = (s.setSitter n ((s.sitter n).storeAlone w)).drain n 128 := by
  have hnear : ¬ h + 63 < h := by omega
  refine ⟨{ ext := h, ts := extendOpt 32 (s.sitter n).ing.hiTs p.ts.toNat, pkt := p, arrival := arrival }, rfl, ?_⟩
  simp only [State.storePacket, hh, hw, Option.getD_some, Int.lt_irrefl, hnear, if_false, List.any_nil, Bool.false_eq_true, insertPkt]
  rfl

/-- A packet in sequence moves the head by one, leaves the window empty, and is counted. -/
theorem rtpPacket_in_sequence (arrival : U64) (hh : (s.sitter n).ing.head = some h) (hw : (s.sitter n).ing.window = [])
    (he : extend 16 (s.sitter n).ing.hiSeq p.seq.toNat = h) :
    (s.rtpPacket n p arrival).ing = s.ing ∧ ((s.rtpPacket n p arrival).sitter n).ing.head = some (h + 1)
      ∧ ((s.rtpPacket n p arrival).sitter n).ing.window = []
      ∧ tget 0 ((s.rtpPacket n p arrival).sitter n).ing.cnt ingPackets = tget 0 (s.sitter n).ing.cnt ingPackets + 1 := by
  obtain ⟨t, hting, ht, hstart⟩ := rtpPacket_near arrival hh he
  obtain ⟨w, rfl, hstore⟩ := storePacket_at_head (s := t) (p := p) arrival (by rw [ht]; exact hh) (by rw [ht]; exact hw)
  obtain ⟨hing, hS⟩ := drain_single (s := t.setSitter n ((t.sitter n).storeAlone w)) (n := n) (w := w) 127
    (by rw [State.sitter_setSitter_self]; rfl) (by rw [State.sitter_setSitter_self]; rfl)
  rw [State.sitter_setSitter_self, ht] at hS
  rw [ht] at hstore hing
  rw [hstart, hstore]
  refine ⟨hing.trans hting, hS.head, hS.window.trans ?_, hS.packets.trans (Sitter.received_packets ..)⟩
  simp [SitIng.headTaken, Sitter.storeAlone]

end

/-! ### A gap that times out (R84) -/

section
variable {s : State} {n : Nat} {w : WinPkt} {h k : Int}

/-- Moving the head up to a number, with nothing stored below it, loses the numbers between. -/
theorem advanceTo_nil (hh : (s.sitter n).ing.head = some h) (hle : h ≤ k) :
    ((s.advanceTo n k []).sitter n).ing.head = some k ∧ ((s.advanceTo n k []).sitter n).ing.window = (s.sitter n).ing.window
      ∧ tget 0 ((s.advanceTo n k []).sitter n).ing.cnt ingLost = tget 0 (s.sitter n).ing.cnt ingLost + BitVec.ofNat 48 (k - h).toNat := by
  simp only [State.advanceTo, hh, Option.getD_some, State.sitter_setSitter_self, Int.max_eq_right hle, true_and]
  exact lost_results s n _

theorem reorderGapTimeout_results {l : List WinPkt} (hn : n < 2048) (hr : s.ready = true)
    (hw : (s.sitter n).ing.window = w :: l) (hh : (s.sitter n).ing.head = some h) (hle : h ≤ w.ext) :
    CompletesWith (.reorderGapTimeout n) s (fun t => (∃ k, (t.sitter n).ing.head = some k ∧ w.ext < k)
      ∧ tget 0 (t.sitter n).ing.cnt 4 = tget 0 (s.sitter n).ing.cnt 4 + BitVec.ofNat 48 (w.ext - h).toNat) := by
  obtain ⟨hhead, hwin, hlost⟩ := advanceTo_nil hh hle
  obtain ⟨-, ht⟩ := advanceTo_head hhead
  obtain ⟨⟨k, hk, hhead'⟩, hlost'⟩ := drain_head 127 ht.head
  refine ⟨(s.advanceTo n w.ext []).drain n 128, ?_, ?_⟩
  · show execReorderGapTimeout n s = _
    simp only [execReorderGapTimeout, Nat.not_le.mpr hn, hw, hr, if_true, if_false]
  · rw [drain_succ 127 (hwin.trans hw) hhead]
    exact ⟨⟨k, hhead', by omega⟩, hlost'.trans (ht.lost.trans hlost)⟩

end

/-! ### Frames that are discarded (R68, R71, R95) -/

/-- A frame on MAC m is counted as received. -/
def CountsFrame (m : Nat) (s t : State) : Prop :=
  tget 0 t.ing.macCnt (8 * m + macFrames) = tget 0 s.ing.macCnt (8 * m + macFrames) + 1

/-- A frame on MAC m is counted as received and in counter j, and does nothing else. -/
def CountsOnly (m j : Nat) (s t : State) : Prop :=
  CountsFrame m s t ∧ tget 0 t.ing.macCnt (8 * m + j) = tget 0 s.ing.macCnt (8 * m + j) + 1
    ∧ { t with ing := { t.ing with macCnt := s.ing.macCnt } } = s

theorem macCount_countsOnly (s : State) (m : Nat) {j : Nat} (hj : j ≠ macFrames) :
    CountsOnly m j s ((s.macCount m macFrames).macCount m j) := by
  refine ⟨?_, ?_, (macCount_frame ..).trans (macCount_frame ..)⟩
  · exact (macCount_ne (s.macCount m macFrames) m (Ne.symm hj)).trans (macCount_self s m macFrames)
  · rw [macCount_self, macCount_ne s m hj]

/-- An interface accepts frames of its own MAC and VLAN alone. -/
theorem acceptors_eq_nil {s : State} {mac : Nat} {f : Frame} (h : ∀ x ∈ s.ing.ifaces, x.2.mac ≠ mac ∨ x.2.vlan ≠ f.vlan) :
    s.acceptors mac f = [] := by
  refine List.filter_eq_nil_iff.mpr (fun x hx => ?_)
  rcases h x hx with hm | hv
  · simp [State.ifaceAccepts, hm]
  · simp [State.ifaceAccepts, hv]

section
variable {s : State} {mac : Nat} {f : Frame}

theorem ethFrameReceive_without_link (hmac : mac < 8) (hlink : (s.port (mac / 4)).link.getLsbD (mac % 4) = false) :
    exec (.ethFrameReceive mac f) s = .next s := by
  show execEthFrameReceive mac f s = _
  simp [execEthFrameReceive, Nat.not_le.mpr hmac, hlink]

variable (hmac : mac < 8) (hr : s.ready = true) (hlink : (s.port (mac / 4)).link.getLsbD (mac % 4) = true)
include hmac hr hlink

theorem ethFrameReceive_badFcs (hfcs : f.fcsOk = false) :
    CompletesWith (.ethFrameReceive mac f) s (CountsOnly mac macFcs s) := by
  refine ⟨_, (show execEthFrameReceive mac f s = _ from ?_), macCount_countsOnly s mac (by decide)⟩
  simp [execEthFrameReceive, Nat.not_le.mpr hmac, hr, hlink, hfcs]

theorem ethFrameReceive_oversize (hfcs : f.fcsOk = true) (hlen : 9216 < f.length) :
    CompletesWith (.ethFrameReceive mac f) s (CountsOnly mac macOversize s) := by
  refine ⟨_, (show execEthFrameReceive mac f s = _ from ?_), macCount_countsOnly s mac (by decide)⟩
  simp [execEthFrameReceive, Nat.not_le.mpr hmac, hr, hlink, hfcs, hlen]

theorem ethFrameReceive_filtered (hfcs : f.fcsOk = true) (hlen : f.length ≤ 9216) (hacc : s.acceptors mac f = []) :
    CompletesWith (.ethFrameReceive mac f) s (CountsOnly mac macFilter s) := by
  refine ⟨_, (show execEthFrameReceive mac f s = _ from ?_), macCount_countsOnly s mac (by decide)⟩
  simp [execEthFrameReceive, Nat.not_le.mpr hmac, hr, hlink, hfcs, Nat.not_lt.mpr hlen, acceptors_macCount, hacc]

/-- A frame that interfaces accept goes to the stack, unless its IP checksum is wrong. -/
theorem ethFrameReceive_accepted (hfcs : f.fcsOk = true) (hlen : f.length ≤ 9216) (hacc : s.acceptors mac f ≠ []) :
    exec (.ethFrameReceive mac f) s = .next (if f.ipSumOk then (s.macCount mac macFrames).stack mac (s.acceptors mac f) f
      else (s.macCount mac macFrames).macCount mac macChecksum) := by
  obtain ⟨x, l, hl⟩ := List.exists_cons_of_ne_nil hacc
  show execEthFrameReceive mac f s = _
  simp [execEthFrameReceive, Nat.not_le.mpr hmac, hr, hlink, hfcs, Nat.not_lt.mpr hlen, acceptors_macCount, hl]

theorem ethFrameReceive_badIpSum (hfcs : f.fcsOk = true) (hlen : f.length ≤ 9216) (hacc : s.acceptors mac f ≠ []) (hsum : f.ipSumOk = false) :
    CompletesWith (.ethFrameReceive mac f) s (CountsOnly mac macChecksum s) :=
  ⟨_, ethFrameReceive_accepted hmac hr hlink hfcs hlen hacc, by rw [hsum]; exact macCount_countsOnly s mac (by decide)⟩

end

/-! ### What the stack answers (R69) -/

/-- The first of some interfaces for which `p` holds sends an answer; nothing is sent when there is none. -/
def State.answerFrom (s : State) (l : List (Nat × Iface)) (p : Iface → Bool) (g : Nat × Iface → NetOut) : State :=
  (firstIface l p).elim s (fun x => s.netSend (g x))

section
variable {s : State} {mac : Nat} {l : List (Nat × Iface)} {f : Frame} {p : Iface → Bool} {g : Nat × Iface → NetOut}

@[simp] theorem answerFrom_macCnt : (s.answerFrom l p g).ing.macCnt = s.ing.macCnt := by
  unfold State.answerFrom
  cases firstIface l p <;> rfl

theorem answerFrom_sent_of_some {x : Nat × Iface} (h : firstIface l p = some x) : (s.answerFrom l p g).ing.sent = s.ing.sent ++ [g x] := by
  rw [State.answerFrom, h]; rfl

theorem answerFrom_sent_of_none (h : ∀ x ∈ l, p x.2 = false) : (s.answerFrom l p g).ing.sent = s.ing.sent := by
  have hnone : firstIface l p = none := List.find?_eq_none.mpr (fun x hx => by simp [h x hx])
  rw [State.answerFrom, hnone]; rfl

theorem arpCopy_of_no_copy (h : ∀ x ∈ l, x.2.arpCopy = false) (raw : List Byte) : s.arpCopy mac l raw = s := by
  have hany : l.any (fun x => x.2.arpCopy) = false := List.any_eq_false.mpr (fun x hx => by simp [h x hx])
  rw [State.arpCopy, hany]; rfl

theorem stack_arpRequest {a : BitVec 32} (hcopy : ∀ x ∈ l, x.2.arpCopy = false) (hb : f.body = .arpRequest a) :
    s.stack mac l f = s.answerFrom l (fun i => i.ipv4 = a && a ≠ 0) (fun x => .arpReply (viaOf x) f.src a) := by
  simp only [State.stack, hb, arpCopy_of_no_copy hcopy, State.answerFrom]
  cases firstIface l (fun i => i.ipv4 = a && a ≠ 0) <;> rfl

theorem stack_neighborSolicitation {a : BitVec 128} (hcopy : ∀ x ∈ l, x.2.arpCopy = false) (hb : f.body = .neighborSolicitation a) :
    s.stack mac l f = s.answerFrom l (·.owns 6 a) (fun x => .ndAdvert (viaOf x) f.src a) := by
  simp only [State.stack, hb, arpCopy_of_no_copy hcopy, State.answerFrom]
  cases firstIface l (·.owns 6 a) <;> rfl

end

/-! ### What the demux gives to a stream (R75, R79) -/

section
variable {s : State} {mac : Nat} {l : List (Nat × Iface)} {f : Frame}

theorem stack_udp {u : Udp} (hb : f.body = .udp u) : s.stack mac l f = s.datagram mac f.vlan l f.raw u := by
  simp only [State.stack, hb]

theorem datagram_badSum {vlan : Nat} {raw : List Byte} {u : Udp} (h : u.sumOk = false) : s.datagram mac vlan l raw u = s.macCount mac macChecksum := by
  simp [State.datagram, h]

theorem datagram_picked {vlan : Nat} {raw : List Byte} {u : Udp} {x : Nat × Dmx} (h : u.sumOk = true) (hp : s.pick u = some x) :
    s.datagram mac vlan l raw u = s.matched mac vlan raw u x := by
  simp [State.datagram, h, hp]

/-- An RTP packet that its entry takes goes to the sitter's stream, and its SSRC may be latched. -/
theorem matched_rtp {vlan j : Nat} {raw : List Byte} {u : Udp} {d : Dmx} {q : RtpPkt} (ht : d.takes mac vlan u = true)
    (hs : (s.sitter d.sitter).sourceHost = false) (hrtcp : d.asRtcp u.payload = false) (hq : parseRtp u.payload = some q) :
    s.matched mac vlan raw u (j, d) = (s.latch j d q).rtpPacket d.sitter q s.tb.time := by
  simp [State.matched, ht, hs, hrtcp, hq]

@[simp] theorem latch_macCnt (s : State) (i : Nat) (d : Dmx) (q : RtpPkt) : (s.latch i d q).ing.macCnt = s.ing.macCnt := by
  unfold State.latch; split <;> rfl
@[simp] theorem sitter_latch (s : State) (i : Nat) (d : Dmx) (q : RtpPkt) (n : Nat) : (s.latch i d q).sitter n = s.sitter n := by
  unfold State.latch; split <;> rfl

end

/-! ### What a frame that reaches the stack does (R69, R71, R79) -/

section
variable {s : State} {mac : Nat} {f : Frame} {l : List (Nat × Iface)}
variable (hx : exec (.ethFrameReceive mac f) s = .next ((s.macCount mac macFrames).stack mac l f))
include hx

theorem ethFrameReceive_badUdpSum {u : Udp} (hb : f.body = .udp u) (hsum : u.sumOk = false) :
    CompletesWith (.ethFrameReceive mac f) s (CountsOnly mac macChecksum s) :=
  ⟨_, hx, by rw [stack_udp hb, datagram_badSum hsum]; exact macCount_countsOnly s mac (by decide)⟩

theorem ethFrameReceive_arpRequest {a : BitVec 32} (hcopy : ∀ x ∈ l, x.2.arpCopy = false) (hb : f.body = .arpRequest a) :
    CompletesWith (.ethFrameReceive mac f) s (fun t => CountsFrame mac s t
      ∧ (∀ k i, l.find? (fun x => x.2.ipv4 = a && a ≠ 0) = some (k, i) → t.ing.sent = s.ing.sent ++ [.arpReply (viaOf (k, i)) f.src a])
      ∧ ((∀ x ∈ l, x.2.ipv4 ≠ a ∨ a = 0) → t.ing.sent = s.ing.sent)) := by
  refine ⟨_, hx, ?_⟩
  rw [stack_arpRequest hcopy hb]
  refine ⟨by rw [CountsFrame, answerFrom_macCnt, macCount_self], fun k i hki => answerFrom_sent_of_some hki,
    fun hno => answerFrom_sent_of_none (fun x hmem => ?_)⟩
  rcases hno x hmem with h | h
  · simp [h]
  · simp [h]

theorem ethFrameReceive_neighborSolicitation {a : BitVec 128} (hcopy : ∀ x ∈ l, x.2.arpCopy = false) (hb : f.body = .neighborSolicitation a) :
    CompletesWith (.ethFrameReceive mac f) s (fun t => CountsFrame mac s t
      ∧ (∀ k i, l.find? (fun x => a ≠ 0 && (x.2.ipv6a = a || x.2.ipv6b = a)) = some (k, i) →
          t.ing.sent = s.ing.sent ++ [.ndAdvert (viaOf (k, i)) f.src a])
      ∧ ((∀ x ∈ l, a = 0 ∨ (x.2.ipv6a ≠ a ∧ x.2.ipv6b ≠ a)) → t.ing.sent = s.ing.sent)) := by
  refine ⟨_, hx, ?_⟩
  rw [stack_neighborSolicitation hcopy hb]
  refine ⟨by rw [CountsFrame, answerFrom_macCnt, macCount_self], fun k i hki => answerFrom_sent_of_some hki,
    fun hno => answerFrom_sent_of_none (fun x hmem => ?_)⟩
  rcases hno x hmem with h | ⟨ha, hb⟩
  · simp [Iface.owns, h]
  · simp [Iface.owns, ha, hb]

theorem ethFrameReceive_rtp {u : Udp} {p : RtpPkt} {j : Nat} {d : Dmx} {h : Int} (hb : f.body = .udp u) (hsum : u.sumOk = true)
    (hp : parseRtp u.payload = some p) (hpick : s.pick u = some (j, d)) (ht : d.takes mac f.vlan u = true) (hrtcp : d.asRtcp u.payload = false)
    (hs : (s.sitter d.sitter).sourceHost = false) (hh : (s.sitter d.sitter).ing.head = some h) (hw : (s.sitter d.sitter).ing.window = [])
    (he : extend 16 (s.sitter d.sitter).ing.hiSeq p.seq.toNat = h) :
    CompletesWith (.ethFrameReceive mac f) s (fun t => CountsFrame mac s t
      ∧ (t.sitter d.sitter).ing.head = some (h + 1) ∧ (t.sitter d.sitter).ing.window = []
      ∧ tget 0 (t.sitter d.sitter).ing.cnt ingPackets = tget 0 (s.sitter d.sitter).ing.cnt ingPackets + 1) := by
  have hlatch : ((s.macCount mac macFrames).latch j d p).sitter d.sitter = s.sitter d.sitter := sitter_latch ..
  obtain ⟨hing, hhead, hwin, hcnt⟩ := rtpPacket_in_sequence (s := (s.macCount mac macFrames).latch j d p) (n := d.sitter) s.tb.time
    (by rwa [hlatch]) (by rwa [hlatch]) (by rwa [hlatch])
  refine ⟨_, hx, ?_⟩
  have hstate : (s.macCount mac macFrames).stack mac l f = ((s.macCount mac macFrames).latch j d p).rtpPacket d.sitter p s.tb.time := by
    rw [stack_udp hb, datagram_picked hsum ((pick_macCount ..).trans hpick)]
    exact matched_rtp ht hs hrtcp hp
  rw [hstate]
  rw [hlatch] at hcnt
  exact ⟨by rw [CountsFrame, hing, latch_macCnt, macCount_self], hhead, hwin, hcnt⟩

end

/-! ### The second report of a membership change (R70) -/

theorem memberReport_of_member {s : State} {i k : Nat} {g g' : BitVec 128} {src : List (BitVec 128)}
    (h : s.ing.members.find? (fun m => m.1 = i && m.2.1 = g) = some (k, g', src)) : s.memberReport i g = [s.reportOf i g src] := by
  rw [State.memberReport, h]

theorem memberReport_of_no_member {s : State} {i : Nat} {g : BitVec 128} (h : ∀ m ∈ s.ing.members, m.1 ≠ i ∨ m.2.1 ≠ g) :
    s.memberReport i g = s.leaveOf i g := by
  have hnone : s.ing.members.find? (fun m => m.1 = i && m.2.1 = g) = none := by
    refine List.find?_eq_none.mpr (fun m hm => ?_)
    rcases h m hm with hi | hg
    · simp [hi]
    · simp [hg]
  rw [State.memberReport, hnone]

theorem mcastStateChangeReport_next {s : State} {i : Nat} {g : BitVec 128} (hi : i < 32) (hr : s.ready = true) (hg : (i, g) ∈ s.ing.reports) :
    exec (.mcastStateChangeReport i g) s
      = .next { s with ing := { s.ing with reports := s.ing.reports.filter (· ≠ (i, g)), sent := s.ing.sent ++ s.memberReport i g } } := by
  show execMcastStateChangeReport i g s = _
  simp [execMcastStateChangeReport, Nat.not_le.mpr hi, hr, hg]

theorem mcastStateChangeReport_results {s : State} {i : Nat} {g : BitVec 128} (hi : i < 32) (hr : s.ready = true) (hg : (i, g) ∈ s.ing.reports) :
    CompletesWith (.mcastStateChangeReport i g) s (fun t => (i, g) ∉ t.ing.reports ∧ { t with ing := s.ing } = s
      ∧ (let v := s.hostVersion i (isV6 g)
         (∀ src, s.ing.members.find? (fun m => m.1 = i && m.2.1 = g) = some (i, g, src) →
            t.ing.sent = s.ing.sent ++ [.groupReport i v g (if fullVersion (isV6 g) v = true then src else [])])
         ∧ ((∀ m ∈ s.ing.members, m.1 ≠ i ∨ m.2.1 ≠ g) →
            t.ing.sent = s.ing.sent ++ (if isV6 g = false ∧ v = 1 then [] else [.groupLeave i v g])))) := by
  refine ⟨_, mcastStateChangeReport_next hi hr hg, by simp, rfl, fun src hm => ?_, fun hno => ?_⟩
  · exact congrArg (s.ing.sent ++ ·) (memberReport_of_member hm)
  · refine congrArg (s.ing.sent ++ ·) ((memberReport_of_no_member hno).trans ?_)
    simp [State.leaveOf]

/-- Settles O48: a frame that fails a check is counted and goes no further, one that reaches the stack does what its body says, and a
packet or a gap at the head of a reorder window moves the head by what leaves the window there. -/
theorem frameReceiveResults : Obligations.FrameReceiveResults := by
  intro s mac f hmac hr count same base
  refine ⟨ethFrameReceive_without_link hmac, fun hlink => ⟨ethFrameReceive_badFcs hmac hr hlink, ethFrameReceive_oversize hmac hr hlink,
    fun hfcs hlen hno => ethFrameReceive_filtered hmac hr hlink hfcs hlen (acceptors_eq_nil hno), ?_, ?_⟩,
    fun n w l h hn hw hh hle => reorderGapTimeout_results hn hr hw hh hle, ?_⟩
  · intro hfcs hlen hacc hsum
    exact ethFrameReceive_badIpSum hmac hr hlink hfcs hlen hacc hsum
  · intro hfcs hlen hacc hsum l via
    have hstack := ethFrameReceive_accepted hmac hr hlink hfcs hlen hacc
    rw [if_pos hsum] at hstack
    exact ⟨fun u => ethFrameReceive_badUdpSum hstack, fun a => ethFrameReceive_arpRequest hstack,
      fun a => ethFrameReceive_neighborSolicitation hstack, fun u p j d h => ethFrameReceive_rtp hstack⟩
  · exact fun i g hi hg => mcastStateChangeReport_results hi hr hg

end Sys2Proof.Machine
end

section
/-!
The decoding engines (R98, R100, R105, R116, R120, R126, R477). A picture's start and its completion change a sitter in many ways, but the
delivery in output order, which both can set off, touches the frames, the pictures held and the output order alone: of a frame it makes a
waiting one ready. So what a start or a completion does to the queue, the ring and the counters is read off its own steps.
-/
namespace Sys2Proof.Machine

/-! ### The phases of a sitter's frames with one au_index -/

/-- Every frame of the au_index is in a phase of `P`. -/
def Sitter.FramesIn (S : Sitter) (i : U64) (P : FramePhase → Prop) : Prop := ∀ f ∈ S.frames, f.au = i → P f.phase

/-- The phases of a frame that has left the decoder for good. -/
def FramePhase.Discarded (p : FramePhase) : Prop := p = .dropped ∨ p = .reported

/-- The phases of a frame whose picture has been decoded (R105, R116). -/
def FramePhase.Judged (p : FramePhase) : Prop := p = .waiting ∨ p = .ready ∨ p = .dropped

namespace Sitter.FramesIn
variable {S T : Sitter} {i au : U64} {P : FramePhase → Prop}

theorem of_frames_eq (h : S.FramesIn i P) (hT : T.frames = S.frames) : T.FramesIn i P := by
  rwa [FramesIn, hT]

theorem updFrame {g : FrameRec → FrameRec} (hau : ∀ f, (g f).au = f.au)
    (hP : ∀ f ∈ S.frames, f.au = i → P (if f.au = au then g f else f).phase) : (S.updFrame au g).FramesIn i P := by
  intro f' hf' hi
  obtain ⟨f, hf, rfl⟩ := List.mem_map.mp hf'
  refine hP f hf ?_
  split at hi
  · exact (hau f).symm.trans hi
  · exact hi

/-- A delivery makes a waiting frame ready, and leaves every other phase. -/
theorem deliver (h : S.FramesIn i P) (hready : P .waiting → P .ready) (au : U64) : (S.deliver au).FramesIn i P := by
  unfold Sitter.deliver
  extract_lets S1
  split
  · next f hfind =>
    split
    · next hw =>
      have hf : f.au = au := by simpa using List.find?_some hfind
      refine updFrame (fun _ => rfl) (fun g hg hgi => ?_)
      split
      · next hga => exact hready (hw ▸ h f (List.mem_of_find?_eq_some hfind) (hf.trans (hga.symm.trans hgi)))
      · exact h g hg hgi
    · exact h
  · exact h

/-- A drop leaves the frames of other units, and those whose outcome is known. -/
theorem drop (hdropped : P .dropped) (reason origin : Nat)
    (hother : ∀ f ∈ S.frames, f.au = i → f.au ≠ au ∨ f.phase.Discarded → P f.phase) : (S.drop au reason origin).FramesIn i P := by
  have hS1 : (S.updFrame au (fun f => if f.phase = .dropped || f.phase = .reported then f
      else { f with phase := .dropped, reason := BitVec.ofNat 8 reason, origin := BitVec.ofNat 8 origin })).FramesIn i P := by
    refine updFrame (fun f => by split <;> rfl) (fun f hf hi => ?_)
    split
    · split
      · next hd => exact hother f hf hi (.inr (by simpa [FramePhase.Discarded] using hd))
      · exact hdropped
    · next hau => exact hother f hf hi (.inl hau)
  unfold Sitter.drop
  extract_lets S1
  split
  · exact hS1
  · exact hS1

theorem drop_keeps (h : S.FramesIn i P) (hdropped : P .dropped) (au : U64) (reason origin : Nat) : (S.drop au reason origin).FramesIn i P :=
  drop hdropped reason origin (fun f hf hi _ => h f hf hi)

/-- After a drop, its frame is dropped, unless its record was due already. -/
theorem drop_self (S : Sitter) (i : U64) (reason origin : Nat) : (S.drop i reason origin).FramesIn i FramePhase.Discarded :=
  drop (.inl rfl) reason origin (fun _ _ hi h => h.resolve_left (not_not_intro hi))

end Sitter.FramesIn

/-! ### Counting, ring space, and a place in the output order -/

section
variable (S : Sitter) (k c : Nat) (p : PicDesc) (au : U64) (poc : Int)

@[simp] theorem Sitter.decCount_ing : (S.decCount k c).ing = S.ing := rfl
@[simp] theorem Sitter.decCount_engine : (S.decCount k c).engine = S.engine := rfl
@[simp] theorem Sitter.decCount_frames : (S.decCount k c).frames = S.frames := rfl

@[simp] theorem Sitter.counted_ing : (S.counted p).ing = S.ing := rfl
@[simp] theorem Sitter.counted_engine : (S.counted p).engine = S.engine := rfl
@[simp] theorem Sitter.counted_decCnt : (S.counted p).decCnt = S.decCnt := rfl
@[simp] theorem Sitter.counted_frames : (S.counted p).frames = S.frames := rfl

@[simp] theorem Sitter.awaitOutput_ing : (S.awaitOutput au poc).ing = S.ing := rfl
@[simp] theorem Sitter.awaitOutput_engine : (S.awaitOutput au poc).engine = S.engine := rfl
@[simp] theorem Sitter.awaitOutput_decCnt : (S.awaitOutput au poc).decCnt = S.decCnt := rfl
@[simp] theorem Sitter.awaitOutput_frames : (S.awaitOutput au poc).frames = S.frames := rfl

@[simp] theorem Sitter.freeUnit_queue : (S.freeUnit k).ing.queue = S.ing.queue := rfl
@[simp] theorem Sitter.freeUnit_esUsed : (S.freeUnit k).ing.esUsed = S.ing.esUsed - k := rfl
@[simp] theorem Sitter.freeUnit_engine : (S.freeUnit k).engine = S.engine := rfl
@[simp] theorem Sitter.freeUnit_decCnt : (S.freeUnit k).decCnt = S.decCnt := rfl

theorem Sitter.without_ing (x : SetNal) : (S.without x).ing = S.ing := by
  cases x <;> rfl
theorem Sitter.without_engine (x : SetNal) : (S.without x).engine = S.engine := by
  cases x <;> rfl

/-- A decode counter steps, and no other. -/
theorem Sitter.decCount_self : tget 0 (S.decCount k c).decCnt k = tget 0 S.decCnt k + BitVec.ofNat 48 c := tget_bump48_self ..
theorem Sitter.decCount_ne {i : Nat} (h : i ≠ k) : tget 0 (S.decCount k c).decCnt i = tget 0 S.decCnt i := tget_bump48_ne _ _ h
end

/-! ### What output leaves (R105) -/

/-- What every delivery keeps, output keeps, however long it goes on. -/
theorem Sitter.bumpWhile_keeps {Q : Sitter → Prop} (hQ : ∀ S au, Q S → Q (S.deliver au)) (more : Sitter → Bool) (fuel : Nat) {S : Sitter}
    (h : Q S) : Q (S.bumpWhile more fuel) := by
  induction fuel generalizing S with
  | zero => exact h
  | succ fuel ih =>
    rw [Sitter.bumpWhile]
    split
    · exact h
    · split
      · exact ih (hQ S _ h)
      · exact h

/-- Two sitters have the same ingress state, picture on an engine, and decode counters. -/
structure SameBooks (S T : Sitter) : Prop where
  ing : T.ing = S.ing
  engine : T.engine = S.engine
  decCnt : T.decCnt = S.decCnt

namespace SameBooks
variable {S T U : Sitter}

theorem refl (S : Sitter) : SameBooks S S := ⟨rfl, rfl, rfl⟩
theorem trans (h : SameBooks S T) (h' : SameBooks T U) : SameBooks S U :=
  ⟨h'.ing.trans h.ing, h'.engine.trans h.engine, h'.decCnt.trans h.decCnt⟩

theorem deliver (S : Sitter) (au : U64) : SameBooks S (S.deliver au) := by
  unfold Sitter.deliver
  extract_lets S1
  split
  · split
    · exact ⟨rfl, rfl, rfl⟩
    · exact ⟨rfl, rfl, rfl⟩
  · exact ⟨rfl, rfl, rfl⟩

theorem bumpWhile (S : Sitter) (more : Sitter → Bool) (fuel : Nat) : SameBooks S (S.bumpWhile more fuel) :=
  Sitter.bumpWhile_keeps (fun T au h => h.trans (deliver T au)) more fuel (refl S)

theorem flushOut (S : Sitter) : SameBooks S S.flushOut := bumpWhile ..
theorem bump (S : Sitter) : SameBooks S S.bump := bumpWhile ..

theorem drop (S : Sitter) (au : U64) (reason origin : Nat) : SameBooks S (S.drop au reason origin) := by
  unfold Sitter.drop
  extract_lets S1
  split
  · exact ⟨rfl, rfl, rfl⟩
  · exact ⟨rfl, rfl, rfl⟩

end SameBooks

theorem Sitter.FramesIn.bump {S : Sitter} {i : U64} {P : FramePhase → Prop} (h : S.FramesIn i P) (hready : P .waiting → P .ready) :
    S.bump.FramesIn i P :=
  Sitter.bumpWhile_keeps (Q := fun T => T.FramesIn i P) (fun _ au hT => hT.deliver hready au) _ _ h

/-! ### What storing and rejecting sets, and building references, leave (R106 to R111) -/

/-- The engines are as before, and sitter n's ingress state and its place on an engine. -/
structure KeepsEngines (n : Nat) (s t : State) : Prop where
  engines : t.med.engines = s.med.engines
  ing : (t.sitter n).ing = (s.sitter n).ing
  engine : (t.sitter n).engine = (s.sitter n).engine

namespace KeepsEngines
variable {n : Nat} {s t u : State}

theorem refl (n : Nat) (s : State) : KeepsEngines n s s := ⟨rfl, rfl, rfl⟩
theorem trans (h : KeepsEngines n s t) (h' : KeepsEngines n t u) : KeepsEngines n s u :=
  ⟨h'.engines.trans h.engines, h'.ing.trans h.ing, h'.engine.trans h.engine⟩

theorem setSitter {S : Sitter} (hing : S.ing = (s.sitter n).ing) (hengine : S.engine = (s.sitter n).engine) : KeepsEngines n s (s.setSitter n S) :=
  ⟨rfl, by rwa [State.sitter_setSitter_self], by rwa [State.sitter_setSitter_self]⟩

theorem ite {c : Prop} [Decidable c] (ht : KeepsEngines n s t) (hu : KeepsEngines n s u) : KeepsEngines n s (if c then t else u) := by
  split
  · exact ht
  · exact hu

theorem clearStill (s : State) (n : Nat) : KeepsEngines n s (s.clearStill n) := ⟨rfl, rfl, rfl⟩

theorem foldl {α : Type} {f : State → α → State} (hf : ∀ s a, KeepsEngines n s (f s a)) (l : List α) (s : State) :
    KeepsEngines n s (l.foldl f s) := by
  induction l generalizing s with
  | nil => exact refl n s
  | cons a l ih => exact (hf s a).trans (ih (f s a))

theorem draw (s : State) (n : Nat) : KeepsEngines n s s.draw.2 := ⟨rfl, rfl, rfl⟩
theorem setDev (s : State) (n : Nat) (l : List (Nat × Byte)) : KeepsEngines n s (s.setDev l) := ⟨rfl, rfl, rfl⟩

theorem cacheContext (s : State) (n : Nat) : KeepsEngines n s (s.cacheContext n) := by
  unfold State.cacheContext
  split
  · exact refl n s
  · extract_lets S put
    have hput (t : State) (i : Nat) : KeepsEngines n t (put t i) := ⟨rfl, rfl, rfl⟩
    split
    · refine .trans ?_ (hput ..)
      exact setSitter rfl rfl
    · refine .trans ((draw s n).trans ?_) (hput ..)
      exact setSitter rfl rfl

theorem rejectSet (s : State) (n : Nat) (x : SetNal) : KeepsEngines n s (s.rejectSet n x) := by
  unfold State.rejectSet
  extract_lets S
  have hing : S.ing = (s.sitter n).ing := Sitter.without_ing ..
  have hengine : S.engine = (s.sitter n).engine := Sitter.without_engine ..
  split
  · exact setSitter hing hengine
  · exact setSitter hing hengine
  · extract_lets refers _ S1 act
    have hflush := SameBooks.flushOut S1
    refine ite (.trans ?_ (clearStill ..)) (setSitter hing hengine)
    exact setSitter (hflush.ing.trans hing) (hflush.engine.trans hengine)

theorem storeSet (s : State) (n : Nat) (x : SetNal) : KeepsEngines n s (s.storeSet n x) := by
  unfold State.storeSet
  extract_lets S T
  split
  · exact rejectSet s n x
  · cases x with
    | video id k => exact setSitter rfl rfl
    | pic p =>
      dsimp only
      split
      · exact rejectSet s n (.pic p)
      · exact setSitter rfl rfl
    | seq p =>
      dsimp only
      split
      · exact rejectSet s n (.seq p)
      · exact setSitter rfl rfl

theorem rejectPicture (s : State) (n : Nat) (p : PicDesc) : KeepsEngines n s (s.rejectPicture n p) := by
  unfold State.rejectPicture
  extract_lets S
  split
  · split
    · exact refl n s
    · exact setSitter rfl rfl
  · split
    · split
      · refine .trans ?_ (rejectSet ..)
        exact setSitter rfl rfl
      · exact refl n s
    · exact refl n s

theorem buildRef (s : State) (n : Nat) (p : PicDesc) (poc : Int) : KeepsEngines n s (s.buildRef n p poc) := by
  unfold State.buildRef
  split
  · exact refl n s
  · exact (setDev s n _).trans (setSitter rfl rfl)

end KeepsEngines

/-! ### A picture's start (R98, R100) -/

section
variable (s : State) (n e slot : Nat) (a : Au) (p : PicDesc)

/-- A unit that is opened leaves the queue, and its engine is on. -/
theorem openUnit_results :
    ((s.openUnit n e p).sitter n).ing.queue = (s.sitter n).ing.queue.drop 1 ∧ ((s.openUnit n e p).sitter n).ing.esUsed = (s.sitter n).ing.esUsed
      ∧ (s.openUnit n e p).med.engines = tset {} s.med.engines e { tget {} s.med.engines e with on := true, lastSitter := some n } := by
  have hc := KeepsEngines.cacheContext s n
  unfold State.openUnit
  extract_lets s0 S E _ _ s1
  have hs := KeepsEngines.foldl (n := n) (fun t x => KeepsEngines.storeSet t n x) p.sets s1
  have hqueue : (s1.sitter n).ing.queue = S.ing.queue.drop 1 := by rw [State.sitter_setSitter_self]
  have hused : (s1.sitter n).ing.esUsed = S.ing.esUsed := by rw [State.sitter_setSitter_self]
  refine ⟨by rw [hs.ing, hqueue, hc.ing], by rw [hs.ing, hused, hc.ing], hs.engines.trans ?_⟩
  show tset {} s0.med.engines e { tget {} s0.med.engines e with on := true, lastSitter := some n } = _
  rw [hc.engines]

/-- A picture that starts is on its engine, in its slot. -/
theorem startPicture_results :
    ((s.startPicture n e slot a p).sitter n).ing = (s.sitter n).ing ∧ ((s.startPicture n e slot a p).sitter n).engine = some e
      ∧ ∃ j : DecodeJob, (j.sitter = n ∧ j.au = a ∧ j.pic = p ∧ j.slot = slot)
        ∧ (s.startPicture n e slot a p).med.engines = tset {} s.med.engines e { tget {} s.med.engines e with job := some j } := by
  unfold State.startPicture
  extract_lets S miss E j _ s1
  have hb := KeepsEngines.foldl (n := n) (fun t poc => KeepsEngines.buildRef t n p poc) miss s1
  have hS : s1.sitter n = S.begun e a.index p := State.sitter_setSitter_self ..
  exact ⟨hb.ing.trans (by rw [hS]; rfl), hb.engine.trans (by rw [hS]; rfl), j, ⟨rfl, rfl, rfl, rfl⟩, hb.engines⟩

/-- A skipped unit frees its ring space, and its frame is dropped. -/
theorem skipUnit_results (r : Nat) :
    (s.skipUnit n a p r).med = s.med ∧ ((s.skipUnit n a p r).sitter n).ing.queue = (s.sitter n).ing.queue
      ∧ ((s.skipUnit n a p r).sitter n).ing.esUsed = (s.sitter n).ing.esUsed - a.bytes.length
      ∧ ((s.skipUnit n a p r).sitter n).FramesIn a.index FramePhase.Discarded := by
  obtain ⟨hing, -, -⟩ := SameBooks.drop ((s.sitter n).freeUnit a.bytes.length) a.index (dropBy a r).1 (dropBy a r).2
  have hframes := Sitter.FramesIn.drop_self ((s.sitter n).freeUnit a.bytes.length) a.index (dropBy a r).1 (dropBy a r).2
  simp only [State.skipUnit, State.setSitter_med, State.sitter_setSitter_self, true_and]
  generalize ((s.sitter n).freeUnit a.bytes.length).drop a.index (dropBy a r).1 (dropBy a r).2 = D at hing hframes ⊢
  split
  · rw [(SameBooks.bump _).ing]
    exact ⟨by simp [hing], by simp [hing], (hframes.of_frames_eq (by simp)).bump (by simp [FramePhase.Discarded])⟩
  · exact ⟨by simp [hing], by simp [hing], hframes.of_frames_eq (by simp)⟩

end

theorem freeSlot_not_used {s : State} {n slot : Nat} (h : s.freeSlot n = some slot) : slot ∉ s.slotsUsed n := by
  simpa using List.find?_some h

section
variable {s : State} {e : Nat} {p : PicDesc}

theorem decodeStart_busy (he : e < 36) (hj : (tget {} s.med.engines e).job ≠ none) : exec (.decodeStart e p) s = .next s := by
  obtain ⟨j, hj⟩ := Option.ne_none_iff_exists'.mp hj
  show execDecodeStart e p s = _
  rw [execDecodeStart, if_neg (Nat.not_le.mpr he), hj]
  exact if_pos (Bool.or_true _)

theorem decodeStart_no_sitter (he : e < 36) (hn : s.nextDecode (isJpegEngine e) = none) : exec (.decodeStart e p) s = .next s := by
  show execDecodeStart e p s = _
  simp [execDecodeStart, Nat.not_le.mpr he, hn]

theorem decodeStart_next {n slot : Nat} {a : Au} {l : List Au} (he : e < 36) (hr : s.ready = true) (hj : (tget {} s.med.engines e).job = none)
    (hn : s.nextDecode (isJpegEngine e) = some n) (hq : (s.sitter n).ing.queue = a :: l) (hf : s.freeSlot n = some slot) :
    exec (.decodeStart e p) s = .next (if (s.openUnit n e p).skipReason n a p ≠ 0
      then ((s.openUnit n e p).rejectPicture n p).skipUnit n a p ((s.openUnit n e p).skipReason n a p)
      else (s.openUnit n e p).startPicture n e slot a p) := by
  show execDecodeStart e p s = _
  simp only [execDecodeStart, Nat.not_le.mpr he, hr, hj, hn, hq, hf, if_false, Bool.not_true, Option.isSome_none, Bool.or_false, Bool.false_eq_true]
  exact (apply_ite Host.Outcome.next _ _ _).symm

/-- A free engine takes the sitter that is next: its picture starts, or its unit is skipped. -/
theorem decodeStart_results {n slot : Nat} {a : Au} {l : List Au} (he : e < 36) (hr : s.ready = true) (hj : (tget {} s.med.engines e).job = none)
    (hn : s.nextDecode (isJpegEngine e) = some n) (hq : (s.sitter n).ing.queue = a :: l) (hf : s.freeSlot n = some slot) :
    CompletesWith (.decodeStart e p) s (fun t => (t.sitter n).ing.queue = l
      ∧ (∀ k, k ≠ e → (tget {} t.med.engines k).job = (tget {} s.med.engines k).job) ∧ (tget {} t.med.engines e).on = true
      ∧ ((s.openUnit n e p).skipReason n a p = 0 → (t.sitter n).engine = some e
          ∧ ∃ j, (tget {} t.med.engines e).job = some j ∧ j.sitter = n ∧ j.au = a ∧ j.pic = p ∧ j.slot = slot ∧ slot ∉ s.slotsUsed n)
      ∧ ((s.openUnit n e p).skipReason n a p ≠ 0 → (tget {} t.med.engines e).job = none
          ∧ (t.sitter n).ing.esUsed = (s.sitter n).ing.esUsed - a.bytes.length
          ∧ ∀ f ∈ (t.sitter n).frames, f.au = a.index → f.phase = .dropped ∨ f.phase = .reported)) := by
  obtain ⟨hqueue, hused, hengines⟩ := openUnit_results s n e p
  rw [hq, List.drop_one, List.tail_cons] at hqueue
  refine ⟨_, decodeStart_next he hr hj hn hq hf, ?_⟩
  by_cases hskip : (s.openUnit n e p).skipReason n a p = 0
  · obtain ⟨hing, hengine, j, ⟨hjn, hja, hjp, hjs⟩, hengines'⟩ := startPicture_results (s.openUnit n e p) n e slot a p
    rw [if_neg (not_not_intro hskip)]
    rw [hengines] at hengines'
    refine ⟨by rw [hing, hqueue], fun k hk => ?_, ?_, fun _ => ⟨hengine, j, ?_, hjn, hja, hjp, hjs, freeSlot_not_used hf⟩, absurd hskip⟩
    · rw [hengines', tget_tset_ne _ _ _ hk, tget_tset_ne _ _ _ hk]
    · rw [hengines', tget_tset_self, tget_tset_self]
    · rw [hengines', tget_tset_self]
  · have hreject := KeepsEngines.rejectPicture (s.openUnit n e p) n p
    obtain ⟨hmed, hqueue', hused', hframes⟩ := skipUnit_results ((s.openUnit n e p).rejectPicture n p) n a p ((s.openUnit n e p).skipReason n a p)
    rw [if_pos hskip]
    dsimp only
    rw [hmed, hreject.engines, hengines]
    refine ⟨by rw [hqueue', hreject.ing, hqueue], fun k hk => ?_, ?_, fun h => absurd h hskip,
      fun _ => ⟨?_, by rw [hused', hreject.ing, hused], hframes⟩⟩
    · rw [tget_tset_ne _ _ _ hk]
    · rw [tget_tset_self]
    · rw [tget_tset_self]; exact hj

end

/-! ### The statistics header in device memory (R120) -/

theorem mwriteL_append (d : Byte) (c : Cells) (l m : List (Nat × Byte)) : mwriteL d c (l ++ m) = mwriteL d (mwriteL d c l) m := by
  induction l generalizing c with
  | nil => rfl
  | cons x l ih => exact ih _

/-- A list of bytes written one by one from an address on is a block write. -/
theorem mwriteL_zipIdx (d : Byte) (c : Cells) (a k : Nat) (b : List Byte) :
    mwriteL d c ((b.zipIdx k).map (fun x => (a + x.2, x.1))) = mwriteN d c (a + k) b := by
  induction b generalizing c k with
  | nil => rfl
  | cons x b ih => exact ih (mwrite d c (a + k) x) (k + 1)

theorem flatWrites_cons (x : Nat × List Byte) (l : List (Nat × List Byte)) : flatWrites (x :: l) = flatWrites [x] ++ flatWrites l := by
  simp [flatWrites]

theorem mwriteL_flatWrites (d : Byte) (c : Cells) (a : Nat) (b : List Byte) : mwriteL d c (flatWrites [(a, b)]) = mwriteN d c a b := by
  rw [flatWrites, List.flatMap_singleton]
  exact mwriteL_zipIdx d c a 0 b

theorem address_of_mem_flatWrites {a : Nat} {b : List Byte} {y : Nat × Byte} (h : y ∈ flatWrites [(a, b)]) : ∃ i < b.length, y.1 = a + i := by
  rw [flatWrites, List.flatMap_singleton] at h
  obtain ⟨x, hx, rfl⟩ := List.mem_map.mp h
  exact ⟨x.2, by simpa using (List.mem_zipIdx hx).2.1, rfl⟩

theorem leBytes_size (n v : Nat) : (leBytes n v).length = n := by
  induction n generalizing v with
  | zero => rfl
  | succ n ih => rw [leBytes, List.length_cons, ih]

theorem leNat_leBytes (n v : Nat) : leNat (leBytes n v) = v % 256 ^ n := by
  induction n generalizing v with
  | zero => simp [leBytes, leNat, Nat.mod_one]
  | succ n ih =>
    rw [leBytes, leNat, ih, Nat.pow_succ', Nat.mod_mul, BitVec.toNat_ofNat]

theorem devN_sub (s : State) (a : Nat) {k m n : Nat} (h : k + m ≤ n) : s.devN (a + k) m = ((s.devN a n).drop k).take m := by
  refine List.ext_getElem (by simp [State.devN, mreadN]; omega) (fun i h1 h2 => ?_)
  simp [State.devN, mreadN, Nat.add_assoc]

section
variable {s : State} {S : Sitter} {slot : Nat} {p : PicDesc} {capture au : U64} {r : PicResult}

theorem statsHeader_length (p : PicDesc) (capture au : U64) (r : PicResult) (cost : Nat) : (statsHeader p capture au r cost).length = 64 := by
  simp [statsHeader, leBytes_size]

/-- Outside stillness, a picture's samples are written first, then its header, then its block records. -/
theorem pictureWrites_not_still (hstill : S.still = false) :
    ∃ (samples : List (Nat × Byte)) (cost : Nat) (records : List Byte), s.pictureWrites S slot p capture au r
      = (samples ++ flatWrites [(S.slotAt slot + S.statsOff, statsHeader p capture au r cost), (S.slotAt slot + S.blocksOff, records)]).filter
          (fun x => S.inBounds x.1) := by
  unfold State.pictureWrites
  extract_lets jpeg dpb k recs cost snap at_
  exact ⟨s.sampleWrites S k p, cost, recs.flatten, by rw [hstill]; rfl⟩

/-- A header whose bytes all lie within the bounds registers stands whole in its slot. -/
theorem devN_pictureWrites_header (hstill : S.still = false) (hin : ∀ i, i < 64 → S.inBounds (S.slotAt slot + S.statsOff + i) = true) :
    ∃ cost, (s.setDev (s.pictureWrites S slot p capture au r)).devN (S.slotAt slot + S.statsOff) 64 = statsHeader p capture au r cost := by
  obtain ⟨samples, cost, records, hw⟩ := pictureWrites_not_still (s := s) (slot := slot) (p := p) (capture := capture) (au := au) (r := r) hstill
  have hlen := statsHeader_length p capture au r cost
  have hkeep : ∀ y ∈ flatWrites [(S.slotAt slot + S.statsOff, statsHeader p capture au r cost)], S.inBounds y.1 = true := by
    intro y hy
    obtain ⟨i, hi, hyi⟩ := address_of_mem_flatWrites hy
    exact hyi ▸ hin i (hlen ▸ hi)
  refine ⟨cost, List.ext_getElem (by simp [State.devN, mreadN, hlen]) (fun i _ hi => ?_)⟩
  have hrecords : ∀ y ∈ (flatWrites [(S.slotAt slot + S.blocksOff, records)]).filter (fun x => S.inBounds x.1),
      y.1 ≠ S.slotAt slot + S.statsOff + i := by
    intro y hy
    obtain ⟨k, -, hyk⟩ := address_of_mem_flatWrites (List.mem_filter.mp hy).1
    rw [hyk, Sitter.blocksOff]
    omega
  have hdev : (s.setDev (s.pictureWrites S slot p capture au r)).dev (S.slotAt slot + S.statsOff + i) = (statsHeader p capture au r cost)[i] := by
    show mread 0 (mwriteL 0 s.mem.dev _) _ = _
    rw [hw, flatWrites_cons, List.filter_append, List.filter_append, List.filter_eq_self.mpr hkeep, mwriteL_append, mwriteL_append,
      mread_mwriteL_out hrecords, mwriteL_flatWrites, mread_mwriteN_in hi]
  simpa [State.devN, mreadN, State.dev] using hdev


theorem statsHeader_type (cost : Nat) : ((statsHeader p capture au r cost).drop 8).take 1 = leBytes 1 (picTypeCode p.type) := by
  simp [statsHeader, leBytes_size, List.drop_append, List.drop_eq_nil_of_le]

theorem statsHeader_capture (cost : Nat) : ((statsHeader p capture au r cost).drop 32).take 8 = leBytes 8 capture.toNat := by
  simp [statsHeader, leBytes_size, List.drop_append, List.drop_eq_nil_of_le]

theorem statsHeader_au (cost : Nat) : ((statsHeader p capture au r cost).drop 40).take 8 = leBytes 8 au.toNat := by
  simp [statsHeader, leBytes_size, List.drop_append, List.drop_eq_nil_of_le]

/-- Capture time, au_index and type of the picture in its slot's header. -/
theorem devLE_pictureWrites_header (hstill : S.still = false) (hin : ∀ i, i < 64 → S.inBounds (S.slotAt slot + S.statsOff + i) = true) :
    let t := s.setDev (s.pictureWrites S slot p capture au r)
    let hdr := S.slotAt slot + S.statsOff
    t.devLE (hdr + 32) 8 = capture.toNat ∧ t.devLE (hdr + 40) 8 = au.toNat ∧ t.devLE (hdr + 8) 1 = picTypeCode p.type := by
  intro t hdr
  obtain ⟨cost, hdev⟩ := devN_pictureWrites_header (s := s) (p := p) (capture := capture) (au := au) (r := r) hstill hin
  have hfield (k m : Nat) (h : k + m ≤ 64) : t.devLE (hdr + k) m = leNat (((statsHeader p capture au r cost).drop k).take m) := by
    rw [State.devLE, devN_sub t hdr h, hdev]
  have hcode : picTypeCode p.type < 256 := by cases p.type <;> decide
  refine ⟨?_, ?_, ?_⟩
  · rw [hfield 32 8 (by decide), statsHeader_capture, leNat_leBytes]
    exact Nat.mod_eq_of_lt capture.isLt
  · rw [hfield 40 8 (by decide), statsHeader_au, leNat_leBytes]
    exact Nat.mod_eq_of_lt au.isLt
  · rw [hfield 8 1 (by decide), statsHeader_type, leNat_leBytes]
    exact Nat.mod_eq_of_lt hcode

end

/-! ### A picture's completion (R99, R105, R115, R116, R126) -/

section
variable (S : Sitter) (j : DecodeJob) (r : PicResult) (reason : Nat)

/-- Steps of other counters leave counter i, the ingress state and the place on an engine. -/
theorem foldl_decCount_results {i : Nat} (l : List (Nat × Nat)) (h : ∀ x ∈ l, x.1 ≠ i) :
    (l.foldl (fun S x => S.decCount x.1 x.2) S).ing = S.ing ∧ (l.foldl (fun S x => S.decCount x.1 x.2) S).engine = S.engine
      ∧ tget 0 (l.foldl (fun S x => S.decCount x.1 x.2) S).decCnt i = tget 0 S.decCnt i := by
  induction l generalizing S with
  | nil => exact ⟨rfl, rfl, rfl⟩
  | cons x l ih =>
    obtain ⟨hing, hengine, hcount⟩ := ih (S.decCount x.1 x.2) (fun y hy => h y (List.mem_cons_of_mem _ hy))
    exact ⟨hing, hengine, hcount.trans (Sitter.decCount_ne _ _ _ (h x (List.mem_cons_self ..)).symm)⟩

/-- A picture's counters are its sitter's decode counters alone, and one of them counts the picture. -/
theorem countPicture_results : (S.countPicture j r reason).ing = S.ing ∧ (S.countPicture j r reason).engine = S.engine
    ∧ tget 0 (S.countPicture j r reason).decCnt decPictures = tget 0 S.decCnt decPictures + 1 := by
  rw [Sitter.countPicture, List.foldl_cons]
  obtain ⟨hing, hengine, hcount⟩ := foldl_decCount_results (S.decCount decPictures 1) (i := decPictures)
    [(decConcealed, r.conc.length), (decSyntax, r.errors), (decSlices, r.discarded), (decBuilt, j.built), (decBudget, if r.overBudget then 1 else 0),
      (decBounds, if r.outOfBounds then 1 else 0), (decJoining, if reason = dropJoining then 1 else 0)]
    (by simp [decPictures, decConcealed, decSyntax, decSlices, decBuilt, decBudget, decBounds, decJoining])
  exact ⟨hing.trans (Sitter.decCount_ing ..), hengine.trans (Sitter.decCount_engine ..), hcount.trans (Sitter.decCount_self ..)⟩

theorem SameBooks.afterPicture : SameBooks S (S.afterPicture j r) := by
  unfold Sitter.afterPicture
  extract_lets p jpeg flush joins _ S1 kept dpb
  have hS1 : SameBooks S S1 := by
    unfold S1
    split
    · have hflush := SameBooks.flushOut S
      exact ⟨hflush.ing, hflush.engine, hflush.decCnt⟩
    · exact refl S
  exact ⟨by simp [hS1.ing], by simp [hS1.engine], by simp [hS1.decCnt]⟩

theorem SameBooks.judge : SameBooks S (S.judge j r reason) := by
  unfold Sitter.judge
  extract_lets a S1 forced x
  have hS1 : SameBooks S S1 := ⟨rfl, rfl, rfl⟩
  split
  · exact hS1.trans (drop ..)
  · exact hS1

/-- A frame whose picture is complete waits for output, or is dropped. -/
theorem judge_framesIn : (S.judge j r reason).FramesIn j.au.index FramePhase.Judged := by
  unfold Sitter.judge
  extract_lets a S1 forced x
  have hS1 : S1.FramesIn a.index FramePhase.Judged := by
    refine Sitter.FramesIn.updFrame (fun _ => rfl) (fun f _ hi => ?_)
    rw [if_pos hi]
    exact .inl rfl
  split
  · exact hS1.drop_keeps (.inr (.inr rfl)) _ _ _
  · exact hS1

end

/-- A sitter whose picture has left its engine: the picture is held, and its unit's ring space is free. -/
def Sitter.offEngine (S : Sitter) (j : DecodeJob) : Sitter :=
  { S with engine := none, held := S.held ++ [heldOf S j (picResult S j.pic j.slot)] }.freeUnit j.au.bytes.length

@[simp] theorem Sitter.offEngine_engine (S : Sitter) (j : DecodeJob) : (S.offEngine j).engine = none := rfl
@[simp] theorem Sitter.offEngine_esUsed (S : Sitter) (j : DecodeJob) : (S.offEngine j).ing.esUsed = S.ing.esUsed - j.au.bytes.length := rfl
@[simp] theorem Sitter.offEngine_decCnt (S : Sitter) (j : DecodeJob) : (S.offEngine j).decCnt = S.decCnt := rfl

theorem finishPicture_eq (s : State) (j : DecodeJob) : ∃ r reason, s.finishPicture j
    = (s.setDev (s.pictureWrites (s.sitter j.sitter) j.slot j.pic j.au.capture j.au.index r)).setSitter j.sitter
        (((((s.sitter j.sitter).offEngine j).countPicture j r reason).afterPicture j r).judge j r reason).bump :=
  ⟨_, _, rfl⟩

/-- A completed picture: what it leaves, what it writes, and its sitter after it. -/
theorem finishPicture_results (s : State) (j : DecodeJob) :
    let S := s.sitter j.sitter
    let T := (s.finishPicture j).sitter j.sitter
    (s.finishPicture j).med = s.med ∧ (∀ k, k ≠ j.sitter → (s.finishPicture j).sitter k = s.sitter k)
      ∧ (∃ r, (s.finishPicture j).mem = (s.setDev (s.pictureWrites S j.slot j.pic j.au.capture j.au.index r)).mem)
      ∧ T.engine = none ∧ T.ing.esUsed = S.ing.esUsed - j.au.bytes.length ∧ tget 0 T.decCnt decPictures = tget 0 S.decCnt decPictures + 1
      ∧ T.FramesIn j.au.index FramePhase.Judged := by
  intro S T
  obtain ⟨r, reason, hs⟩ := finishPicture_eq s j
  obtain ⟨hing, hengine, hcount⟩ := countPicture_results (S.offEngine j) j r reason
  have hT : T = ((((S.offEngine j).countPicture j r reason).afterPicture j r).judge j r reason).bump := by
    unfold T
    rw [hs, State.sitter_setSitter_self]
  have hbooks : SameBooks ((S.offEngine j).countPicture j r reason) T := by
    rw [hT]
    exact (SameBooks.afterPicture ..).trans ((SameBooks.judge ..).trans (SameBooks.bump _))
  have hframes : T.FramesIn j.au.index FramePhase.Judged := by
    rw [hT]
    exact Sitter.FramesIn.bump (judge_framesIn _ _ _ _) (fun _ => .inr (.inl rfl))
  refine ⟨?_, fun k hk => ?_, ⟨r, ?_⟩, by rw [hbooks.engine, hengine, Sitter.offEngine_engine],
    by rw [hbooks.ing, hing, Sitter.offEngine_esUsed],
    by rw [hbooks.decCnt, hcount, Sitter.offEngine_decCnt], hframes⟩
  · rw [hs, State.setSitter_med]; rfl
  · rw [hs, State.sitter_setSitter_ne _ _ hk]; rfl
  · rw [hs, State.setSitter_mem]

@[simp] theorem State.sitter_engineDone (s : State) (e us k : Nat) : (s.engineDone e us).sitter k = s.sitter k := rfl
@[simp] theorem State.engineDone_mem (s : State) (e us : Nat) : (s.engineDone e us).mem = s.mem := rfl
@[simp] theorem State.sitter_touch (s : State) (rs : List (Nat × Nat)) (k : Nat) : (s.touch rs).sitter k = s.sitter k := rfl
@[simp] theorem State.touch_med (s : State) (rs : List (Nat × Nat)) : (s.touch rs).med = s.med := rfl

/-- The engine whose picture completes is free, and has counted it. -/
theorem engineDone_engine (s : State) (e us : Nat) : tget {} (s.engineDone e us).med.engines e
    = { tget {} s.med.engines e with
        job := none, pictures := (tget {} s.med.engines e).pictures + 1, busyUs := (tget {} s.med.engines e).busyUs + BitVec.ofNat 48 us } :=
  tget_tset_self ..

theorem devLE_of_mem_eq {s t : State} (h : t.mem = s.mem) (a n : Nat) : t.devLE a n = s.devLE a n := by
  simp only [State.devLE, State.devN, h]

/-- Where no word is in error, a unit's read goes on. -/
theorem readElse_of_no_flips {s : State} (h : s.mem.flips = []) (agent : Nat) (rs : List (Nat × Nat)) (stop k : State → State) :
    s.readElse agent rs stop k = k (s.touch rs) := by
  simp [State.readElse, State.readCheck, State.flipsIn, h]

section
variable {s : State} {e us : Nat} {j : DecodeJob}

theorem decodeComplete_idle (he : e < 36) (hj : (tget {} s.med.engines e).job = none) : exec (.decodeComplete e us) s = .next s := by
  show execDecodeComplete e us s = _
  simp only [execDecodeComplete, Nat.not_le.mpr he, hj, if_false]

theorem decodeComplete_next (he : e < 36) (hr : s.ready = true) (hj : (tget {} s.med.engines e).job = some j) (hf : s.mem.flips = []) :
    exec (.decodeComplete e us) s
      = .next (((s.touch ((s.sitter j.sitter).decodeReads j.sitter j.pic)).finishPicture j).engineDone e us) := by
  show execDecodeComplete e us s = _
  simp only [execDecodeComplete, Nat.not_le.mpr he, hj, hr, if_false, Bool.not_true, Bool.false_eq_true, readElse_of_no_flips hf]

theorem decodeComplete_results (he : e < 36) (hr : s.ready = true) (hj : (tget {} s.med.engines e).job = some j) (hf : s.mem.flips = []) :
    CompletesWith (.decodeComplete e us) s (fun t =>
      let E := tget {} s.med.engines e
      let S := s.sitter j.sitter
      let T := t.sitter j.sitter
      let hdr := S.slotAt j.slot + S.statsOff
      tget {} t.med.engines e = { E with job := none, pictures := E.pictures + 1, busyUs := E.busyUs + BitVec.ofNat 48 us }
        ∧ T.engine = none ∧ T.ing.esUsed = S.ing.esUsed - j.au.bytes.length ∧ tget 0 T.decCnt 0 = tget 0 S.decCnt 0 + 1
        ∧ (∀ f ∈ T.frames, f.au = j.au.index → f.phase = .waiting ∨ f.phase = .ready ∨ f.phase = .dropped)
        ∧ (∀ k, k ≠ j.sitter → t.sitter k = s.sitter k)
        ∧ (S.still = false → (∀ i, i < 64 → S.inBounds (hdr + i) = true) → t.devLE (hdr + 32) 8 = j.au.capture.toNat
            ∧ t.devLE (hdr + 40) 8 = j.au.index.toNat ∧ t.devLE (hdr + 8) 1 = picTypeCode j.pic.type)) := by
  refine ⟨_, decodeComplete_next he hr hj hf, ?_⟩
  obtain ⟨hmed, hothers, ⟨r, hmem⟩, hengine, hused, hcount, hframes⟩ :=
    finishPicture_results (s.touch ((s.sitter j.sitter).decodeReads j.sitter j.pic)) j
  rw [State.touch_med] at hmed
  rw [State.sitter_touch] at hused hcount hmem
  intro E S T hdr
  have hT : T = _ := State.sitter_engineDone ..
  rw [hT]
  refine ⟨?_, hengine, hused, hcount, hframes, fun k hk => ?_, fun hstill hin => ?_⟩
  · rw [engineDone_engine, hmed]
  · rw [State.sitter_engineDone, hothers k hk, State.sitter_touch]
  · simp only [devLE_of_mem_eq ((State.engineDone_mem ..).trans hmem)]
    exact devLE_pictureWrites_header hstill hin

end

/-! ### Gating (R477) -/

section
variable {s : State} {k : Nat}

theorem clocks_run_of_ready (h : s.ready = true) : s.board.clocksStopped = false := by
  simpa using (Bool.and_eq_true_iff.mp h).2

variable (hr : s.ready = true)
include hr

/-- ENGINE_DOMAIN_GATE switches off a video or JPEG engine that has no picture, and does nothing to one that has. -/
theorem engineDomainGate_vde (hk : k < 32) : exec (.engineDomainGate .vde k) s = .next (if (tget {} s.med.engines k).job.isNone
    then { s with med := { s.med with engines := tset {} s.med.engines k { tget {} s.med.engines k with on := false } } } else s) := by
  show execEngineDomainGate .vde k s = _
  simp only [execEngineDomainGate, Nat.not_le.mpr hk, clocks_run_of_ready hr, if_false, Bool.not_false, Bool.and_true]

theorem engineDomainGate_jd (hk : k < 4) : exec (.engineDomainGate .jd k) s = .next (if (tget {} s.med.engines (32 + k)).job.isNone
    then { s with med := { s.med with engines := tset {} s.med.engines (32 + k) { tget {} s.med.engines (32 + k) with on := false } } } else s) := by
  show execEngineDomainGate .jd k s = _
  simp only [execEngineDomainGate, Nat.not_le.mpr hk, clocks_run_of_ready hr, if_false, Bool.not_false, Bool.and_true]

/-- ENGINE_DOMAIN_GATE switches off a framing unit or a motion search engine without a job, and does nothing to one with a job. -/
theorem engineDomainGate_fu (hk : k < 8) : exec (.engineDomainGate .fu k) s = .next (if (tget {} s.med.fus k).job.isNone
    then { s with med := { s.med with fus := tset {} s.med.fus k { tget {} s.med.fus k with on := false } } } else s) := by
  show execEngineDomainGate .fu k s = _
  simp only [execEngineDomainGate, Nat.not_le.mpr hk, clocks_run_of_ready hr, if_false, Bool.not_false, Bool.and_true]

theorem engineDomainGate_ms (hk : k < 2) : exec (.engineDomainGate .ms k) s = .next (if (tget {} s.med.mss k).job.isNone
    then { s with med := { s.med with mss := tset {} s.med.mss k { tget {} s.med.mss k with on := false } } } else s) := by
  show execEngineDomainGate .ms k s = _
  simp only [execEngineDomainGate, Nat.not_le.mpr hk, clocks_run_of_ready hr, if_false, Bool.not_false, Bool.and_true]

end

/-- Settles O49: a start is an opened unit that goes on its engine or is skipped, a completion is a picture written, judged and counted, and
neither the sets it stores nor the pictures it delivers touch the queue, the engines or the frames of other units. A gated engine has no job. -/
theorem decodeResults : Obligations.DecodeResults := by
  intro s e p he hr E jobOn
  refine ⟨decodeStart_busy he, decodeStart_no_sitter he, fun n a l slot hj hn hq hf => decodeStart_results he hr hj hn hq hf,
    fun us => decodeComplete_idle he, fun us j hj hf => decodeComplete_results he hr hj hf, fun k hk => ⟨fun hj => ?_, fun hj => ?_⟩,
    fun k hk hj => ?_, fun k hk => ⟨fun hj => ?_, fun hj => ?_⟩, fun k hk hj => ?_⟩
  · rw [engineDomainGate_vde hr hk, if_pos (Option.isNone_iff_eq_none.mpr hj)]
  · rw [engineDomainGate_vde hr hk, if_neg (mt Option.isNone_iff_eq_none.mp hj)]
  · refine ⟨_, engineDomainGate_jd hr hk, ?_⟩
    rw [if_pos (Option.isNone_iff_eq_none.mpr hj)]
    exact congrArg Engine.on (tget_tset_self ..)
  · refine ⟨_, engineDomainGate_fu hr hk, ?_⟩
    rw [if_pos (Option.isNone_iff_eq_none.mpr hj)]
    exact (tget_tset_self ..).trans (congrArg (fun j => ({ job := j, on := false } : FrameUnit)) hj)
  · rw [engineDomainGate_fu hr hk, if_neg (mt Option.isNone_iff_eq_none.mp hj)]
  · refine ⟨_, engineDomainGate_ms hr hk, ?_⟩
    rw [if_pos (Option.isNone_iff_eq_none.mpr hj)]
    exact (tget_tset_self ..).trans (congrArg (fun j => ({ job := j, on := false } : FlowUnit)) hj)

end Sys2Proof.Machine
end

section
/-!
Framing units, crop lists and flow requests (R127, R136, R137, R142, R143, R343). What a unit reads opens banks and nothing else, so what
MED decides on after its reads it would have decided before them.
-/
namespace Sys2Proof.Machine

/-! ### Reads without an error -/

section
variable (s : State) (rs : List (Nat × Nat)) (p : Nat) (P : Part)

@[simp] theorem State.touch_flips : (s.touch rs).mem.flips = s.mem.flips := rfl
@[simp] theorem State.part_touch (k : Nat) : (s.touch rs).part k = s.part k := rfl
@[simp] theorem State.devLE_touch (a n : Nat) : (s.touch rs).devLE a n = s.devLE a n := rfl
@[simp] theorem State.devLE_setPart (a n : Nat) : (s.setPart p P).devLE a n = s.devLE a n := rfl
@[simp] theorem State.part_setPart_self : (s.setPart p P).part p = P := by rw [State.part, State.part?_setPart_self, Option.getD_some]

theorem State.setPart_touch : (s.touch rs).setPart p P = (s.setPart p P).touch rs := rfl

/-- Two reads access their banks one after the other. -/
theorem State.touch_touch (rs' : List (Nat × Nat)) : (s.touch rs).touch rs' = s.touch (rs ++ rs') := by
  simp only [State.touch, touchBanks, List.flatMap_append, List.foldl_append]

theorem unitRead_of_no_flips {s : State} (h : s.mem.flips = []) (agent : Nat) (rs : List (Nat × Nat)) (k : State → State) :
    s.unitRead agent rs k = k (s.touch rs) := readElse_of_no_flips h agent rs id k

end

/-! ### What a restart cause leaves -/

section
variable (s : State) (p : Nat) (c : PartCause)

@[simp] theorem State.partFault_med : (s.partFault p c).med = s.med := by
  unfold State.partFault
  split
  · rfl
  · split <;> rfl

/-- A cause changes a partition's state and cause alone. -/
theorem State.part_partFault : { (s.partFault p c).part p with state := (s.part p).state, cause := (s.part p).cause } = s.part p := by
  unfold State.partFault
  split
  · rfl
  · next P hP =>
    rw [State.part_of_part? hP]
    split <;> simp only [State.part_setPart_self, State.part_of_part? hP]

/-- A RUNNING partition restarts (R457). -/
theorem State.partFault_of_running {s : State} {p : Nat} (h : (s.part p).state = .running) (c : PartCause) :
    s.partFault p c = s.setPart p { s.part p with state := .restarting, cause := some c } := by
  unfold State.partFault
  cases hP : s.part? p with
  | none => rw [State.part, hP] at h; cases h
  | some P =>
    rw [State.part_of_part? hP] at h ⊢
    simp only [h]

theorem State.part_partFault_of_running {s : State} {p : Nat} (h : (s.part p).state = .running) (c : PartCause) :
    ((s.partFault p c).part p).state = .restarting ∧ ∃ z, ((s.partFault p c).part p).cause = some z ∧ z.cause = c.cause := by
  rw [State.partFault_of_running h, State.part_setPart_self]
  exact ⟨rfl, c, rfl, rfl⟩

end

/-! ### What MED decides by -/

/-- What decides on a list or a request of partition p is as before: the bytes of device memory, the memory groups' states, the sitters, and what
the partition owns and has in its buffers. -/
structure SameInputs (p : Nat) (s t : State) : Prop where
  dev : t.mem.dev = s.mem.dev
  groups : t.mem.groups = s.mem.groups
  sitters : t.sitters = s.sitters
  ranges : (t.part p).mem = (s.part p).mem
  gallery : (t.part p).gallery = (s.part p).gallery
  bufs : (t.part p).bufs = (s.part p).bufs

namespace SameInputs
variable {p : Nat} {s t : State}

theorem devN (h : SameInputs p s t) : t.devN = s.devN := by
  funext a n
  simp only [State.devN, h.dev]

theorem devLE (h : SameInputs p s t) : t.devLE = s.devLE := by
  funext a n
  simp only [State.devLE, h.devN]

theorem sitter (h : SameInputs p s t) : t.sitter = s.sitter := by
  funext n
  simp only [State.sitter, h.sitters]

theorem medWindow (h : SameInputs p s t) : t.medWindow = s.medWindow := by
  funext w
  unfold State.medWindow State.groupState
  rw [h.groups]

theorem ownsByte (h : SameInputs p s t) (x : Nat) : t.ownsByte p x = s.ownsByte p x := by
  simp only [State.ownsByte, h.ranges, h.gallery, h.sitters]

theorem within (h : SameInputs p s t) (a n : Nat) : t.within p a n = s.within p a n := by
  simp only [State.within, h.medWindow, State.ownsRange, State.mapEdges, h.sitters, h.ownsByte]

theorem cropBad (h : SameInputs p s t) : t.cropBad (t.part p) = s.cropBad (s.part p) := by
  funext f q fq e
  unfold State.cropBad State.slotCountOf State.bufState Part.buf
  rw [h.devN, h.devLE, h.bufs]

theorem cropListBad (h : SameInputs p s t) (f : Framing) (a n : Nat) : t.cropListBad p f a n = s.cropListBad p f a n := by
  simp only [State.cropListBad, h.within, h.devN, h.sitter, h.cropBad]

theorem luma8 (h : SameInputs p s t) : t.luma8 = s.luma8 := by
  funext S c x y
  simp only [State.luma8, State.luma10, State.sample10, h.devLE]

theorem pyramid (h : SameInputs p s t) (S : Sitter) (c : Held) (l : Nat) : t.pyramid S c l = s.pyramid S c l := by
  induction l with
  | zero => funext x y; simp only [State.pyramid, h.luma8]
  | succ l ih => funext x y; simp only [State.pyramid, ih]

theorem flowSad (h : SameInputs p s t) : t.flowSad = s.flowSad := by
  funext S cur ref l bx by_ v
  simp only [State.flowSad, h.pyramid]

theorem flowVector (h : SameInputs p s t) : t.flowVector = s.flowVector := by
  funext S cur ref bx by_ i
  unfold State.flowVector State.lumaOf
  rw [h.flowSad, h.luma8]

theorem flowValid (h : SameInputs p s t) : t.flowValid = s.flowValid := by
  funext S c bx by_
  unfold State.flowValid
  rw [h.devLE]

/-- A flow field is a function of its two pictures' bytes. -/
theorem flowField (h : SameInputs p s t) : t.flowField = s.flowField := by
  funext S cur ref
  unfold State.flowField
  rw [h.flowVector, h.flowSad, h.flowValid]

theorem flowJob (h : SameInputs p s t) (f : Framing) (b : List Byte) : t.flowJob p f b = s.flowJob p f b := by
  simp only [State.flowJob, h.sitter, h.within, h.flowField]

/-- Reading, and counting a request as taken, leave what decides. -/
theorem setPart_touch {P : Part} (hranges : P.mem = (s.part p).mem) (hgallery : P.gallery = (s.part p).gallery)
    (hbufs : P.bufs = (s.part p).bufs) (rs : List (Nat × Nat)) : SameInputs p s ((s.setPart p P).touch rs) := by
  refine ⟨rfl, rfl, rfl, ?_, ?_, ?_⟩ <;> rwa [State.part_touch, State.part_setPart_self]

end SameInputs

/-! ### FRAMING_SLOT_START (R127) -/

theorem slotBefore_self (s : State) (x : SlotJob) : s.slotBefore x x = false := decide_eq_false (List.lt_irrefl _)

theorem slotBefore_trans {s : State} {x y z : SlotJob} (h : s.slotBefore x y = true) (h' : s.slotBefore y z = true) : s.slotBefore x z = true :=
  decide_eq_true (List.lt_trans (of_decide_eq_true h) (of_decide_eq_true h'))

/-- The slot that a scan goes on with: the new one where it goes before the best so far. -/
def State.firstSlot (s : State) : Option SlotJob → SlotJob → Option SlotJob
  | none, x => some x
  | some y, x => if s.slotBefore x y then some x else some y

theorem nextSlot_eq_foldl (s : State) : s.nextSlot = s.med.slots.foldl s.firstSlot none := by
  refine congrArg (fun g => s.med.slots.foldl g none) (funext fun b => funext fun x => ?_)
  cases b with
  | none => rfl
  | some y => rfl

/-- A scan from slot y ends with y or a slot of the list. No slot of the list goes before it, and none that did not go before y. -/
theorem foldl_firstSlot (s : State) (l : List SlotJob) (y : SlotJob) : ∃ j, l.foldl s.firstSlot (some y) = some j ∧ j ∈ y :: l
    ∧ (∀ i, s.slotBefore i y = false → s.slotBefore i j = false) ∧ ∀ i ∈ l, s.slotBefore i j = false := by
  induction l generalizing y with
  | nil => exact ⟨y, rfl, List.mem_singleton_self y, fun _ h => h, nofun⟩
  | cons x l ih =>
    rw [List.foldl_cons, State.firstSlot]
    cases hxy : s.slotBefore x y with
    | true =>
      rw [if_pos rfl]
      obtain ⟨j, hj, hmem, hkeep, hl⟩ := ih x
      refine ⟨j, hj, List.mem_cons_of_mem y hmem, fun i hi => hkeep i ?_, List.forall_mem_cons.mpr ⟨hkeep x (slotBefore_self s x), hl⟩⟩
      exact Bool.eq_false_iff.mpr fun hix => Bool.eq_false_iff.mp hi (slotBefore_trans hix hxy)
    | false =>
      rw [if_neg Bool.false_ne_true]
      obtain ⟨j, hj, hmem, hkeep, hl⟩ := ih y
      refine ⟨j, hj, ?_, hkeep, List.forall_mem_cons.mpr ⟨hkeep x hxy, hl⟩⟩
      exact (List.mem_cons.mp hmem).elim (fun h => h ▸ List.mem_cons_self) fun h => List.mem_cons_of_mem y (List.mem_cons_of_mem x h)

theorem nextSlot_of_no_slot {s : State} (h : s.med.slots = []) : s.nextSlot = none := by rw [nextSlot_eq_foldl, h, List.foldl_nil]

/-- The next slot is pending, and no pending slot goes before it. -/
theorem nextSlot_least {s : State} (h : s.med.slots ≠ []) :
    ∃ j, s.nextSlot = some j ∧ j ∈ s.med.slots ∧ ∀ i ∈ s.med.slots, s.slotBefore i j = false := by
  rw [nextSlot_eq_foldl]
  cases hs : s.med.slots with
  | nil => exact absurd hs h
  | cons y l =>
    obtain ⟨j, hj, hmem, hkeep, hl⟩ := foldl_firstSlot s l y
    exact ⟨j, hj, hmem, List.forall_mem_cons.mpr ⟨hkeep y (slotBefore_self s y), hl⟩⟩

section
variable {s : State} {fu : Nat}

theorem framingSlotStart_busy (hfu : fu < 8) (hj : (tget {} s.med.fus fu).job ≠ none) : exec (.framingSlotStart fu) s = .next s := by
  show execFramingSlotStart fu s = _
  simp only [execFramingSlotStart, Nat.not_le.mpr hfu, Option.isSome_iff_ne_none.mpr hj, Bool.or_true, if_false, if_true]

theorem framingSlotStart_no_slot (hfu : fu < 8) (hs : s.med.slots = []) : exec (.framingSlotStart fu) s = .next s := by
  show execFramingSlotStart fu s = _
  simp only [execFramingSlotStart, Nat.not_le.mpr hfu, nextSlot_of_no_slot hs, if_false, ite_self]

theorem framingSlotStart_next {j : SlotJob} (hfu : fu < 8) (hr : s.ready = true) (hj : (tget {} s.med.fus fu).job = none) (hn : s.nextSlot = some j) :
    exec (.framingSlotStart fu) s
      = .next { s with med := { s.med with slots := s.med.slots.erase j, fus := tset {} s.med.fus fu { job := some j, on := true } } } := by
  show execFramingSlotStart fu s = _
  simp only [execFramingSlotStart, Nat.not_le.mpr hfu, hr, hj, hn, Bool.not_true, Option.isSome_none, Bool.or_false, Bool.false_eq_true, if_false]

theorem framingSlotStart_results (hfu : fu < 8) (hr : s.ready = true) (hj : (tget {} s.med.fus fu).job = none) (hs : s.med.slots ≠ []) :
    CompletesWith (.framingSlotStart fu) s (fun t => ∃ j, j ∈ s.med.slots ∧ (∀ i ∈ s.med.slots, s.slotBefore i j = false)
      ∧ tget {} t.med.fus fu = { job := some j, on := true } ∧ t.med.slots = s.med.slots.erase j ∧ { t with med := s.med } = s) := by
  obtain ⟨j, hn, hmem, hleast⟩ := nextSlot_least hs
  refine ⟨_, framingSlotStart_next hfu hr hj hn, j, hmem, hleast, ?_, rfl, rfl⟩
  rw [tget_tset_self]

end

/-! ### FRAMING_SLOT_COMPLETE (R138, R142, R143) -/

/-- A slot is stale at its completion: its queue checks, and the limit has passed at the instant of a replay's sitting, or at store time (R51). -/
def State.slotStale (s : State) (j : SlotJob) : Bool :=
  match j.staleUs with
  | some l => l * 1000 < (if (s.part j.part).replay then j.instant else s.tb.time).toNat - j.capture.toNat
  | none => false

/-- What decides on a slot's status first (log 61): discarded, stale, empty, filled. -/
theorem slotStatus_eq (s : State) (j : SlotJob) :
    s.slotStatus j = if j.gone = true then 4 else if s.slotStale j = true then 2 else if j.box = none then 3 else 1 := by
  unfold State.slotStatus State.slotStale staleAt
  cases j.staleUs <;> cases j.box <;> simp

section
variable (s : State) (j : SlotJob) (f : Framing) (fq : FQueue) (st : Nat)

/-- The status byte of the slot's descriptor. -/
theorem dev_writeSlot_status : (s.writeSlot j f fq st).dev (fq.descAddr j.buf j.slot + 2) = BitVec.ofNat 8 st :=
  dev_setDevN_in (i := 0) (by simp)

/-- What a slot's completion does to its picture and its frame, it does to sitters alone. -/
theorem slotOutcome_eq (cropStage : Bool) : ∃ l, s.slotOutcome j st cropStage = { s with sitters := l } := by
  unfold State.slotOutcome
  extract_lets S
  split
  · exact ⟨s.sitters, rfl⟩
  · split
    · exact ⟨_, rfl⟩
    · split
      · exact ⟨_, rfl⟩
      · split
        · exact ⟨s.sitters, rfl⟩
        · exact ⟨_, rfl⟩

end

section
variable (s : State) (p q b slot : Nat) (fq : FQueue)

@[simp] theorem slotDone_med : (s.slotDone p q b slot fq).med = s.med := by
  unfold State.slotDone
  extract_lets P i i1 s1
  split <;> rfl

/-- The slot counts as done in its buffer. -/
theorem buf_slotDone : ((s.slotDone p q b slot fq).part p).buf q b
    = { (s.part p).buf q b with done := slot :: ((s.part p).buf q b).done } := by
  unfold State.slotDone
  extract_lets P i i1 s1
  have hbuf : (s1.part p).buf q b = i1 := by
    rw [State.part_setPart_self]
    exact tget_tset_self ..
  split
  · exact hbuf
  · exact hbuf

/-- While another slot of the buffer is not done, the buffer is not PREPARED. -/
theorem dev_slotDone {s : State} {p q b slot : Nat} {fq : FQueue}
    (h : ∃ k, k < ((s.part p).buf q b).count ∧ k ≠ slot ∧ k ∉ ((s.part p).buf q b).done) (x : Nat) :
    (s.slotDone p q b slot fq).dev x = s.dev x := by
  obtain ⟨k, hk, hslot, hdone⟩ := h
  unfold State.slotDone
  extract_lets P i i1 s1
  split
  · next hall =>
    have hmem := List.all_eq_true.mp hall k (List.mem_range.mpr hk)
    rcases List.mem_cons.mp (List.contains_iff_mem.mp hmem) with h | h
    · exact absurd h hslot
    · exact absurd h hdone
  · rfl

end

/-- A framing unit that has given up its job. -/
def State.freeFramingUnit (s : State) (fu : Nat) : State :=
  { s with med := { s.med with fus := tset {} s.med.fus fu { tget {} s.med.fus fu with job := none } } }

/-- The state in which a slot has been written, its picture given up, and its frame judged. -/
def State.slotFinished (s : State) (j : SlotJob) (f : Framing) (fq : FQueue) : State :=
  (s.writeSlot j f fq (s.slotStatus j)).slotOutcome j (s.slotStatus j) f.cropStage

section
variable {s : State} {fu : Nat} {j : SlotJob} {f : Framing} {fq : FQueue}

/-- A finished slot leaves MED and the partitions alone, and its descriptor shows its status. -/
theorem slotFinished_results (s : State) (j : SlotJob) (f : Framing) (fq : FQueue) :
    (s.slotFinished j f fq).med = s.med ∧ (∀ k, (s.slotFinished j f fq).part k = s.part k)
      ∧ (s.slotFinished j f fq).dev (fq.descAddr j.buf j.slot + 2) = BitVec.ofNat 8 (s.slotStatus j) := by
  obtain ⟨l, hl⟩ := slotOutcome_eq (s.writeSlot j f fq (s.slotStatus j)) j (s.slotStatus j) f.cropStage
  rw [State.slotFinished, hl]
  exact ⟨rfl, fun _ => rfl, dev_writeSlot_status ..⟩

/-- A unit's slot is finished and counts as done, whatever banks its picture was read from. -/
theorem framingSlotComplete_next (hfu : fu < 8) (hr : s.ready = true) (hj : (tget {} s.med.fus fu).job = some j)
    (hframing : s.framing j.part = some f) (hq : f.queues[j.queue]? = some fq) (hf : s.mem.flips = []) :
    ∃ rs, exec (.framingSlotComplete fu) s
      = .next ((((s.freeFramingUnit fu).touch rs).slotFinished j f fq).slotDone j.part j.queue j.buf j.slot fq) := by
  refine ⟨if (s.freeFramingUnit fu).slotStatus j = 1 then [(s.freeFramingUnit fu).cutFrom j] else [], ?_⟩
  show execFramingSlotComplete fu s = _
  have h0 : (s.freeFramingUnit fu).framing j.part = some f := hframing
  have hf0 : (s.freeFramingUnit fu).mem.flips = [] := hf
  unfold execFramingSlotComplete
  rw [if_neg (Nat.not_le.mpr hfu)]
  simp only [hj, hr, Bool.not_true, Bool.false_eq_true, if_false]
  rw [← State.freeFramingUnit, h0]
  simp only [hq]
  rw [unitRead_of_no_flips hf0]
  rfl

theorem framingSlotComplete_results (hfu : fu < 8) (hr : s.ready = true) (hj : (tget {} s.med.fus fu).job = some j)
    (hframing : s.framing j.part = some f) (hq : f.queues[j.queue]? = some fq) (hf : s.mem.flips = []) :
    CompletesWith (.framingSlotComplete fu) s (fun t =>
      let i := (s.part j.part).buf j.queue j.buf
      (tget {} t.med.fus fu).job = none ∧ (∀ k, k ≠ fu → (tget {} t.med.fus k).job = (tget {} s.med.fus k).job)
        ∧ ((t.part j.part).buf j.queue j.buf).done = j.slot :: i.done
        ∧ ((∃ k, k < i.count ∧ k ≠ j.slot ∧ k ∉ i.done) → t.dev (fq.descAddr j.buf j.slot + 2)
            = if j.gone = true then 4 else if s.slotStale j = true then 2 else if j.box = none then 3 else 1)) := by
  obtain ⟨rs, hx⟩ := framingSlotComplete_next hfu hr hj hframing hq hf
  refine ⟨_, hx, ?_⟩
  obtain ⟨hmed, hpart, hdev⟩ := slotFinished_results ((s.freeFramingUnit fu).touch rs) j f fq
  have hfus : ((((s.freeFramingUnit fu).touch rs).slotFinished j f fq).slotDone j.part j.queue j.buf j.slot fq).med.fus
      = tset {} s.med.fus fu { tget {} s.med.fus fu with job := none } := by
    rw [slotDone_med, hmed]; rfl
  replace hpart : (((s.freeFramingUnit fu).touch rs).slotFinished j f fq).part j.part = s.part j.part := hpart j.part
  have hstatus : ((s.freeFramingUnit fu).touch rs).slotStatus j = s.slotStatus j := rfl
  dsimp only
  rw [hfus, tget_tset_self, buf_slotDone, hpart]
  refine ⟨rfl, fun k hk => by rw [tget_tset_ne _ _ _ hk], rfl, fun hopen => ?_⟩
  rw [dev_slotDone (by rwa [hpart]), hdev, hstatus, slotStatus_eq]
  split
  · rfl
  · split
    · rfl
    · split <;> rfl

end

/-! ### CROP_LIST_TAKE (R136, R137) -/

/-- A field of a block read from device memory. -/
theorem fieldLE_devN (s : State) (a : Nat) {off n len : Nat} (h : off + n ≤ len) : fieldLE (s.devN a len) off n = s.devLE (a + off) n := by
  refine congrArg leNat (List.map_congr_left fun i hi => ?_)
  have hlt : off + i < len := by have := List.mem_range.mp hi; omega
  simp [State.devN, mreadN, hlt, Nat.add_assoc]

theorem State.part_of_parts_eq {s t : State} (h : t.parts = s.parts) (k : Nat) : t.part k = s.part k := by
  rw [State.part, State.part, State.part?, State.part?, h]

/-- k more slots are pending, and partition p stands as before. -/
structure QueuesSlots (p k : Nat) (s t : State) : Prop where
  slots : t.med.slots.length = s.med.slots.length + k
  state : (t.part p).state = (s.part p).state
  cause : (t.part p).cause = (s.part p).cause
  cropTaken : (t.part p).cropTaken = (s.part p).cropTaken

namespace QueuesSlots
variable {p k k' : Nat} {s t u : State}

theorem refl (p : Nat) (s : State) : QueuesSlots p 0 s s := ⟨rfl, rfl, rfl, rfl⟩

theorem trans (h : QueuesSlots p k s t) (h' : QueuesSlots p k' t u) : QueuesSlots p (k + k') s u :=
  ⟨by rw [h'.slots, h.slots, Nat.add_assoc], h'.state.trans h.state, h'.cause.trans h.cause, h'.cropTaken.trans h.cropTaken⟩

/-- One more slot is pending, and a buffer's record is another. -/
theorem of_setBuf {q b : Nat} {i : BufInfo} {j : SlotJob} (hslots : t.med.slots = s.med.slots ++ [j])
    (hpart : t.part p = (s.part p).setBuf q b i) : QueuesSlots p 1 s t :=
  ⟨by rw [hslots, List.length_append, List.length_singleton], (congrArg Part.state hpart :), (congrArg Part.cause hpart :),
    (congrArg Part.cropTaken hpart :)⟩

/-- An accepted entry queues its slot. -/
theorem takeCrop (s : State) (p q : Nat) (f : Framing) (fq : FQueue) (n : Nat) (h : Held) (x : CropEntry × Nat) :
    QueuesSlots p 1 s (s.takeCrop p q f fq n h x) := by
  unfold State.takeCrop
  extract_lets e P fresh i s1 s2 aug j s3
  have hs2 : s2.parts = s1.parts ∧ s2.med = s1.med := by
    unfold s2
    split
    · exact ⟨State.setDevN_parts .., State.setDevN_med ..⟩
    · exact ⟨rfl, rfl⟩
  obtain ⟨hparts, hmed⟩ := hs2
  have hslots : s3.med.slots = s.med.slots := congrArg Med.slots ((State.setDevN_med ..).trans (hmed.trans (State.setPart_med ..)))
  have hpart : s3.part p = P.setBuf q e.buf { i with named := e.slot :: i.named } := by
    rw [State.part_of_parts_eq (State.setDevN_parts ..), State.part_of_parts_eq hparts, State.part_setPart_self]
  clear_value s3
  exact of_setBuf (congrArg (· ++ [j]) hslots) hpart

theorem setSitter (h : QueuesSlots p k s t) (n : Nat) (S : Sitter) : QueuesSlots p k s (t.setSitter n S) := ⟨h.slots, h.state, h.cause, h.cropTaken⟩

theorem takeCrops (p q : Nat) (f : Framing) (fq : FQueue) (n : Nat) (h : Held) (l : List (CropEntry × Nat)) (s : State) :
    QueuesSlots p l.length s (l.foldl (fun s x => s.takeCrop p q f fq n h x) s) := by
  induction l generalizing s with
  | nil => exact refl p s
  | cons x l ih =>
    rw [List.length_cons, Nat.add_comm]
    exact (takeCrop ..).trans (ih _)

end QueuesSlots

/-- A well-formed list names a picture that its sitter holds, and a queue of the partition. -/
theorem named_of_cropListBad_false {s : State} {p a n : Nat} {f : Framing} (h : s.cropListBad p f a n = false) :
    let b := s.devN a (32 + 16 * n)
    (∃ c, (s.sitter (fieldLE b 0 2)).held.find? (fun h => h.au = BitVec.ofNat 64 (fieldLE b 8 8)) = some c)
      ∧ ∃ fq, f.queues[fieldLE b 4 1]? = some fq := by
  intro b
  simp only [State.cropListBad, Bool.or_eq_false_iff] at h
  obtain ⟨-, ⟨⟨-, hheld⟩, -⟩, hq⟩ := h
  constructor
  · rw [← Option.isSome_iff_exists, List.find?_isSome]
    split at hheld
    · next c hc =>
      have hau := List.find?_some hc
      exact ⟨c, List.mem_of_find?_eq_some hc, (Bool.and_eq_true_iff.mp hau).1⟩
    · cases hheld
  · split at hq
    · cases hq
    · next fq hfq => exact ⟨fq, hfq⟩

/-- An accepted list of n entries queues n slots. -/
theorem takeList_queues {s : State} {p a n : Nat} {f : Framing} (h : s.cropListBad p f a n = false) (hn : s.devLE (a + 2) 2 = n) :
    QueuesSlots p n s (s.takeList p f (s.devN a (32 + 16 * n))) := by
  obtain ⟨⟨c, hc⟩, fq, hfq⟩ := named_of_cropListBad_false h
  have hlen : (cropEntries (s.devN a (32 + 16 * n)) (fieldLE (s.devN a (32 + 16 * n)) 2 2)).zipIdx.length = n := by
    rw [List.length_zipIdx, cropEntries, List.length_map, List.length_range, fieldLE_devN s a (by omega), hn]
  have hq := QueuesSlots.takeCrops p (fieldLE (s.devN a (32 + 16 * n)) 4 1) f fq (fieldLE (s.devN a (32 + 16 * n)) 0 2) c
    (cropEntries (s.devN a (32 + 16 * n)) (fieldLE (s.devN a (32 + 16 * n)) 2 2)).zipIdx s
  rw [hlen] at hq
  simp only [State.takeList, hc, hfq]
  exact hq.setSitter ..

/-- The state in which a list of partition p counts as taken. -/
def State.cropCounted (s : State) (p : Nat) : State := s.setPart p { s.part p with cropTaken := (s.part p).cropTaken + 1 }

theorem SameInputs.cropCounted (s : State) (p : Nat) (rs : List (Nat × Nat)) : SameInputs p s ((s.cropCounted p).touch rs) := by
  refine .setPart_touch ?_ ?_ ?_ rs <;> rfl

section
variable {s : State} {p : Nat} {f : Framing}

/-- A ring without a new list leaves its partition alone. -/
theorem cropListTake_idle (hp : p < 16) (hframing : s.framing p = some f) (hprod : s.devLE f.cropProd 4 = (s.part p).cropTaken.toNat) :
    exec (.cropListTake p) s = .next s := by
  show execCropListTake p s = _
  simp only [execCropListTake, Nat.not_le.mpr hp, hframing, hprod, decide_true, Bool.or_true, if_false, if_true]

/-- A list that is taken counts as taken; then it is refused or acts. -/
theorem cropListTake_next (hp : p < 16) (hr : s.ready = true) (hframing : s.framing p = some f) (hserves : (s.part p).serves = true)
    (hf : s.mem.flips = []) (hentries : f.cropEntries ≠ 0) (hprod : s.devLE f.cropProd 4 ≠ (s.part p).cropTaken.toNat) :
    let a := s.devLE (f.cropRing + 8 * ((s.part p).cropTaken.toNat % f.cropEntries)) 8
    let n := s.devLE (a + 2) 2
    ∃ rs, let u := (s.cropCounted p).touch rs
      exec (.cropListTake p) s
        = .next (if u.cropListBad p f a n then u.partFault p { cause := 4 } else u.takeList p f (u.devN a (32 + 16 * n))) := by
  intro a n
  show ∃ rs, execCropListTake p s = _
  simp only [execCropListTake, Nat.not_le.mpr hp, hframing, hr, hserves, hentries, hprod, if_false, Bool.not_true, decide_false, Bool.or_false,
    Bool.false_eq_true, unitRead_of_no_flips, State.touch_flips, State.setPart_mem, hf, State.devLE_touch, State.devLE_setPart, State.setPart_touch,
    State.touch_touch, State.part_touch]
  exact ⟨_, rfl⟩

theorem cropListTake_results (hp : p < 16) (hr : s.ready = true) (hframing : s.framing p = some f) (hserves : (s.part p).serves = true)
    (hf : s.mem.flips = []) (hentries : f.cropEntries ≠ 0) (hprod : s.devLE f.cropProd 4 ≠ (s.part p).cropTaken.toNat) :
    let a := s.devLE (f.cropRing + 8 * ((s.part p).cropTaken.toNat % f.cropEntries)) 8
    let n := s.devLE (a + 2) 2
    CompletesWith (.cropListTake p) s (fun t => (t.part p).cropTaken = (s.part p).cropTaken + 1
      ∧ (s.cropListBad p f a n = true → ((s.part p).state = .running → (t.part p).state = .restarting
          ∧ ∃ c, (t.part p).cause = some c ∧ c.cause = 4) ∧ t.med = s.med)
      ∧ (s.cropListBad p f a n = false → t.med.slots.length = s.med.slots.length + n ∧ (t.part p).state = (s.part p).state
          ∧ (t.part p).cause = (s.part p).cause)) := by
  intro a n
  obtain ⟨rs, hx⟩ := cropListTake_next hp hr hframing hserves hf hentries hprod
  have hpart : ((s.cropCounted p).touch rs).part p = { s.part p with cropTaken := (s.part p).cropTaken + 1 } := State.part_setPart_self ..
  have hsame : SameInputs p s ((s.cropCounted p).touch rs) := .cropCounted s p rs
  have hmed : ((s.cropCounted p).touch rs).med = s.med := rfl
  have hn : ((s.cropCounted p).touch rs).devLE (a + 2) 2 = n := rfl
  refine ⟨_, hx, ?_⟩
  generalize (s.cropCounted p).touch rs = u at hpart hsame hmed hn ⊢
  rw [hsame.cropListBad]
  cases hbad : s.cropListBad p f a n with
  | true =>
    rw [if_pos rfl]
    have htaken := congrArg Part.cropTaken (State.part_partFault u p { cause := 4 })
    have hrestart (h : (s.part p).state = .running) :=
      State.part_partFault_of_running (s := u) (p := p) (by rw [hpart]; exact h) { cause := 4 }
    exact ⟨htaken.trans (by rw [hpart]), fun _ => ⟨hrestart, (State.partFault_med ..).trans hmed⟩, nofun⟩
  | false =>
    rw [if_neg Bool.false_ne_true]
    obtain ⟨hslots, hstate, hcause, htaken⟩ := takeList_queues ((hsame.cropListBad f a n).trans hbad) hn
    rw [hpart] at hstate hcause htaken
    rw [hmed] at hslots
    exact ⟨htaken, nofun, fun _ => ⟨hslots, hstate, hcause⟩⟩

end

/-! ### FLOW_REQUEST_TAKE (R343) -/

/-- The state in which a flow request of partition p counts as taken. -/
def State.flowCounted (s : State) (p : Nat) : State := s.setPart p { s.part p with flowTaken := (s.part p).flowTaken + 1 }

theorem setPart_flowTaken (s : State) (p : Nat) : s.setPart p { s.part p with flowTaken := (s.part p).flowTaken + 1 } = s.flowCounted p := rfl

theorem SameInputs.flowCounted (s : State) (p : Nat) (rs : List (Nat × Nat)) : SameInputs p s ((s.flowCounted p).touch rs) := by
  refine .setPart_touch ?_ ?_ ?_ rs <;> rfl

/-- A motion search engine with a job. -/
def State.startFlow (s : State) (ms : Nat) (j : FlowJob) : State :=
  { s with med := { s.med with mss := tset {} s.med.mss ms { job := some j, on := true } } }

theorem startFlow_job (s : State) (ms : Nat) (j : FlowJob) : (tget {} (s.startFlow ms j).med.mss ms).job = some j := by
  rw [State.startFlow, tget_tset_self]

section
variable {s : State} {ms p : Nat} {f : Framing}

variable (hms : ms < 2) (hp : p < 16) (hr : s.ready = true) (hframing : s.framing p = some f) (hserves : (s.part p).serves = true)
  (hf : s.mem.flips = []) (hj : (tget {} s.med.mss ms).job = none) (hentries : f.flowEntries ≠ 0)
  (hprod : s.devLE f.flowProd 4 ≠ (s.part p).flowTaken.toNat) {a : Nat}
  (ha : s.devLE (f.flowRing + 8 * ((s.part p).flowTaken.toNat % f.flowEntries)) 8 = a)
include hms hp hr hframing hserves hf hj hentries hprod ha

/-- A request that is taken counts as taken. A malformed one is refused; a well-formed one goes on the engine. -/
theorem flowRequestTake_next :
    (s.within p a 32 = false ∨ s.flowJob p f (s.devN a 32) = none →
      ∃ rs, exec (.flowRequestTake ms p) s = .next (((s.flowCounted p).touch rs).partFault p { cause := 4 }))
    ∧ (∀ j, s.within p a 32 = true → s.flowJob p f (s.devN a 32) = some j →
      ∃ rs, exec (.flowRequestTake ms p) s = .next (((s.flowCounted p).touch rs).startFlow ms j)) := by
  have hunit : (decide (2 ≤ ms) || decide (16 ≤ p)) = false := by simp [hms, hp]
  have hwithin (rs : List (Nat × Nat)) := (SameInputs.flowCounted s p rs).within a 32
  have hjob (rs : List (Nat × Nat)) := (SameInputs.flowCounted s p rs).flowJob f (s.devN a 32)
  have hdev (rs : List (Nat × Nat)) : ((s.flowCounted p).touch rs).devN a 32 = s.devN a 32 := rfl
  have hflips (rs : List (Nat × Nat)) : ((s.flowCounted p).touch rs).mem.flips = [] := hf
  rw [show exec (.flowRequestTake ms p) s = execFlowRequestTake ms p s from rfl]
  simp only [execFlowRequestTake, hunit, hframing, hr, hserves, hj, hentries, hprod, if_false, Bool.not_true, decide_false, Bool.or_false,
    Option.isSome_none, Bool.false_eq_true, unitRead_of_no_flips, hf, State.devLE_touch, State.part_touch, ha, State.setPart_touch,
    setPart_flowTaken, hwithin, hflips, State.touch_touch, hdev, hjob]
  constructor
  · intro hbad
    cases hw : s.within p a 32 with
    | false => exact ⟨_, rfl⟩
    | true =>
      have hnone := hbad.resolve_left (by simp [hw])
      simp only [hnone]
      exact ⟨_, rfl⟩
  · intro j hw hsome
    simp only [hw, hsome]
    exact ⟨_, rfl⟩

theorem flowRequestTake_results : CompletesWith (.flowRequestTake ms p) s (fun t => (t.part p).flowTaken = (s.part p).flowTaken + 1
    ∧ (s.within p a 32 = false ∨ s.flowJob p f (s.devN a 32) = none → ((s.part p).state = .running → (t.part p).state = .restarting
        ∧ ∃ c, (t.part p).cause = some c ∧ c.cause = 4) ∧ (tget {} t.med.mss ms).job = none)
    ∧ (∀ j, s.within p a 32 = true → s.flowJob p f (s.devN a 32) = some j →
        (tget {} t.med.mss ms).job = some j ∧ (t.part p).state = (s.part p).state)) := by
  obtain ⟨hrefused, haccepted⟩ := flowRequestTake_next hms hp hr hframing hserves hf hj hentries hprod ha
  have hpart (rs : List (Nat × Nat)) : ((s.flowCounted p).touch rs).part p = { s.part p with flowTaken := (s.part p).flowTaken + 1 } :=
    State.part_setPart_self ..
  by_cases hbad : s.within p a 32 = false ∨ s.flowJob p f (s.devN a 32) = none
  · obtain ⟨rs, hx⟩ := hrefused hbad
    have hmed : ((s.flowCounted p).touch rs).med = s.med := rfl
    have hp := hpart rs
    refine ⟨_, hx, ?_⟩
    generalize (s.flowCounted p).touch rs = u at hp hmed ⊢
    have htaken := congrArg Part.flowTaken (State.part_partFault u p { cause := 4 })
    have hrestart (h : (s.part p).state = .running) :=
      State.part_partFault_of_running (s := u) (p := p) (by rw [hp]; exact h) { cause := 4 }
    refine ⟨htaken.trans (by rw [hp]), fun _ => ⟨hrestart, by rw [State.partFault_med, hmed, hj]⟩, fun j hw hsome => ?_⟩
    rcases hbad with h | h
    · rw [hw] at h; cases h
    · rw [hsome] at h; cases h
  · obtain ⟨hw, hsome⟩ := not_or.mp hbad
    obtain ⟨j, hjob⟩ := Option.ne_none_iff_exists'.mp hsome
    obtain ⟨rs, hx⟩ := haccepted j (Bool.not_eq_false _ ▸ hw) hjob
    have hp : (((s.flowCounted p).touch rs).startFlow ms j).part p = { s.part p with flowTaken := (s.part p).flowTaken + 1 } := hpart rs
    refine ⟨_, hx, by rw [hp], fun h => absurd h hbad, fun k _ hk => ⟨?_, by rw [hp]⟩⟩
    rw [startFlow_job, ← hjob, hk]

end

/-! ### FLOW_COMPLETE (R343, R344) -/

/-- A block write is read back. -/
theorem devN_setDevN_self (s : State) (a : Nat) (b : List Byte) : (s.setDevN a b).devN a b.length = b := by
  refine List.ext_getElem (by simp [State.devN, mreadN]) (fun i _ h => ?_)
  simp only [State.devN, mreadN, List.getElem_map, List.getElem_range]
  exact mread_mwriteN_in h

theorem devLE_setDevN_leBytes (s : State) (a n v : Nat) : (s.setDevN a (leBytes n v)).devLE a n = v % 256 ^ n := by
  have h := devN_setDevN_self s a (leBytes n v)
  rw [leBytes_size] at h
  rw [State.devLE, h, leNat_leBytes]

/-- A motion search engine that has given up its job. -/
def State.freeFlow (s : State) (ms : Nat) : State :=
  { s with med := { s.med with mss := tset {} s.med.mss ms { tget {} s.med.mss ms with job := none } } }

/-- The value of a request's completion flag (R343). -/
def FlowJob.stamp (j : FlowJob) : Nat := 1 + j.cur.toNat % 2 ^ 31

section
variable {s : State} {ms : Nat} {j : FlowJob}

theorem flowComplete_next (hms : ms < 2) (hr : s.ready = true) (hj : (tget {} s.med.mss ms).job = some j) :
    (j.flag = none → exec (.flowComplete ms) s = .next ((s.freeFlow ms).setDevN j.dst.toNat j.field))
      ∧ (∀ a, j.flag = some a →
          exec (.flowComplete ms) s = .next (((s.freeFlow ms).setDevN j.dst.toNat j.field).setDevN (a + 4) (leBytes 4 j.stamp))) := by
  rw [show exec (.flowComplete ms) s = execFlowComplete ms s from rfl]
  simp only [execFlowComplete, Nat.not_le.mpr hms, hj, hr, if_false, Bool.not_true, Bool.false_eq_true]
  refine ⟨fun h => ?_, fun a h => ?_⟩
  · simp only [h]; rfl
  · simp only [h]; rfl

theorem freeFlow_job (s : State) (ms : Nat) : (tget {} (s.freeFlow ms).med.mss ms).job = none := congrArg FlowUnit.job (tget_tset_self ..)

theorem flowComplete_results (hms : ms < 2) (hr : s.ready = true) (hj : (tget {} s.med.mss ms).job = some j) :
    CompletesWith (.flowComplete ms) s (fun t => (tget {} t.med.mss ms).job = none
      ∧ (j.flag = none → t.devN j.dst.toNat j.field.length = j.field)
      ∧ (∀ a, j.flag = some a → t.devLE (a + 4) 4 = 1 + j.cur.toNat % 2 ^ 31)
      ∧ (∀ x, (x < j.dst.toNat ∨ j.dst.toNat + j.field.length ≤ x) → (∀ a, j.flag = some a → x < a + 4 ∨ a + 8 ≤ x) → t.dev x = s.dev x)) := by
  obtain ⟨hplain, hflagged⟩ := flowComplete_next hms hr hj
  cases hflag : j.flag with
  | none =>
    refine ⟨_, hplain hflag, freeFlow_job s ms, fun _ => devN_setDevN_self .., nofun, fun x hx _ => ?_⟩
    exact dev_setDevN_out hx
  | some a =>
    have hstamp : j.stamp % 256 ^ 4 = j.stamp := Nat.mod_eq_of_lt (by unfold FlowJob.stamp; omega)
    refine ⟨_, hflagged a hflag, freeFlow_job s ms, nofun, fun b hb => ?_, fun x hx hout => ?_⟩
    · obtain rfl := Option.some.inj hb
      rw [devLE_setDevN_leBytes, hstamp, FlowJob.stamp]
    · have hflagOut : x < a + 4 ∨ a + 4 + (leBytes 4 j.stamp).length ≤ x := by
        rw [leBytes_size]
        exact hout a rfl
      rw [dev_setDevN_out hflagOut, dev_setDevN_out hx]
      rfl

end

/-- Settles O50: the next slot is the one that a scan of the pending slots ends with; what MED decides after its reads it would have decided
before them, since they touch banks alone; and a slot, a list and a flow act on the unit, the partition and the memory that they name. -/
theorem framingResults : Obligations.FramingResults := by
  intro s hr jobOf flowOf faulted
  refine ⟨fun fu hfu => ⟨framingSlotStart_busy hfu, framingSlotStart_no_slot hfu, framingSlotStart_results hfu hr⟩, ?_, ?_, ?_⟩
  · intro fu j f fq hfu hj hframing hq hf
    exact framingSlotComplete_results hfu hr hj hframing hq hf
  · intro p f hp hframing hserves hf P
    refine ⟨cropListTake_results hp hr hframing hserves hf, fun _ => cropListTake_idle hp hframing, ?_⟩
    intro ms hms hj hentries hprod
    exact flowRequestTake_results hms hp hr hframing hserves hf hj hentries hprod rfl
  · intro ms j hms hj
    exact flowComplete_results hms hr hj

end Sys2Proof.Machine
end

section
/-!
The Canvas (R189 to R213). At issue an instruction's one effect is an entry at the end of its queue, so it is enough to say which entry; at
execution the head of a queue changes its own canvas and its own destination.
-/
namespace Sys2Proof.Machine

/-! ### Joining a queue of four entries (R208) -/

section
variable {s : State} {e : Nat}

/-- An instruction with a legal word that can issue has its effect. -/
theorem issue_next_of_legal {len insn : Nat} {legal : Bool} {u : Uses} {f : Easel → State} (hlegal : legal = true) (h : CanIssue s e len u) :
    issue e len insn legal u s f = .next (f (s.easel e)) := by
  subst hlegal
  exact issue_next h

/-- With `n` entries queued an instruction joins its queue, which gives `t`, or leaves its Easel where it is. -/
theorem joins_of_exec {i : Instr} {n : Nat} {t : State} (h : exec i s = .next (if 4 ≤ n then s else t)) :
    (n < 4 → exec i s = .next t) ∧ (4 ≤ n → exec i s = .next s) :=
  ⟨fun hn => by rw [h, if_neg (by omega)], fun hn => by rw [h, if_pos hn]⟩

theorem Easel.swapsQueued_eq_countP (E : Easel) : E.swapsQueued = E.frontQ.countP (fun x => x = .swap) := List.countP_eq_length_filter.symm

/-- What pushes an entry on the back queue joins it behind the SWAPs issued before it. -/
theorem joinsBack_of_exec {i : Instr} {o : BackOp} (h : exec i s = .next (s.pushBack e (s.easel e) o)) :
    ((s.easel e).backQ.length < 4 → exec i s = .next (s.retire e 4 { s.easel e with
        backQ := (s.easel e).backQ ++ [((s.easel e).frontQ.countP (fun x => x = .swap), o)] }))
      ∧ (4 ≤ (s.easel e).backQ.length → exec i s = .next s) := by
  rw [State.pushBack, Easel.swapsQueued_eq_countP] at h
  exact joins_of_exec h

end

/-! ### The entry that each instruction queues (R190, R201 to R204, R211) -/

section
variable {s : State} {e : Nat}

theorem exec_swap (h : CanIssue s e 4 {}) :
    exec (.swap e 0) s = .next (if 4 ≤ (s.easel e).frontQ.length then s
      else s.retire e 4 { s.easel e with frontQ := (s.easel e).frontQ ++ [.swap] }) := by
  dsimp only [exec, execSwap]
  exact issue_next_of_legal rfl h

theorem exec_stroke_or_ewise (ew : Bool) (w : StrokeF) : exec (if ew then .ewise e w else .stroke e w) s = strokeIssue ew e w s := by
  cases ew <;> rfl

/-- A stroke that passes the checks of R192 and R194 and is not held back (R209) queues its captured operands. -/
theorem strokeIssue_next {w : StrokeF} {ew : Bool} (h : CanIssue s e 8 { sr := [w.rp.toNat, w.rk.toNat, w.rt.toNat, w.rl.toNat] })
    (hlegal : (w.rsv = 0 && w.mode ≠ 3 && w.lf.toNat < 6 && w.tf.toNat < 6) = true) (hfmt : strokeFmtOk (strokeOf ew (s.easel e) w) = true)
    (hcheck : strokeCheck (strokeOf ew (s.easel e) w) (2 ^ 32 ≤ ((s.easel e).sr w.rp.toNat).toNat) (s.easel e).lsLimit = none)
    (hfree : (strokeOf ew (s.easel e) w).k ≠ 0 →
      s.lsStall e (strokeOf ew (s.easel e) w).baseL (operandExtent (strokeOf ew (s.easel e) w) true) false = false
        ∧ s.lsStall e (strokeOf ew (s.easel e) w).baseT (operandExtent (strokeOf ew (s.easel e) w) false) false = false) :
    strokeIssue ew e w s = .next (if 4 ≤ (s.easel e).frontQ.length then s
      else s.retire e 8 { s.easel e with frontQ := (s.easel e).frontQ ++ [.stroke (strokeOf ew (s.easel e) w)] }) := by
  rw [strokeIssue, issue_next_of_legal hlegal h]
  generalize strokeOf ew (s.easel e) w = o at *
  have hheld : (decide (o.k ≠ 0)
      && (s.lsStall e o.baseL (operandExtent o true) false || s.lsStall e o.baseT (operandExtent o false) false)) = false := by
    by_cases hk : o.k = 0
    · simp [hk]
    · simp [hfree hk]
  simp only [hfmt, hcheck, hheld, Bool.not_true, Bool.or_false, decide_eq_true_eq, Bool.false_eq_true, if_false]

theorem exec_loadacc_zero (h : CanIssue s e 4 {}) : exec (.loadacc e 0 0 0 0 0) s = .next (s.pushBack e (s.easel e) .zero) := by
  dsimp only [exec, execLoadacc]
  exact issue_next_of_legal rfl h

theorem exec_loadacc_rowv {b : RegF} (h : CanIssue s e 4 { vr := [b.toNat] }) :
    exec (.loadacc e 0 1 0 b 0) s = .next (s.pushBack e (s.easel e) (.rowv ((s.easel e).vr b.toNat))) := by
  dsimp only [exec, execLoadacc]
  exact issue_next_of_legal rfl h

theorem exec_loadacc_colv {b : RegF} (h : CanIssue s e 4 { vr := [b.toNat] }) :
    exec (.loadacc e 0 2 0 b 0) s = .next (s.pushBack e (s.easel e) (.colv ((s.easel e).vr b.toNat))) := by
  dsimp only [exec, execLoadacc]
  exact issue_next_of_legal rfl h

/-- LOADACC of 16 KiB at an address that R201 allows and that no outstanding write covers. -/
theorem exec_loadacc_ls {a : RegF} {k : BitVec 7} (h : CanIssue s e 4 { sr := [a.toNat] }) (hk : k.toNat < 2)
    (halign : ((s.easel e).sr a.toNat).toNat % 64 = 0) (hfits : ((s.easel e).sr a.toNat).toNat + 16384 ≤ (s.easel e).lsLimit)
    (hfree : s.lsStall e ((s.easel e).sr a.toNat).toNat 16384 false = false) :
    exec (.loadacc e k 3 a 0 0) s = .next (s.pushBack e (s.easel e) (.loadLs ((s.easel e).sr a.toNat).toNat (k = 1))) := by
  have hin : ¬ (s.easel e).lsLimit < ((s.easel e).sr a.toNat).toNat + 16384 := by omega
  dsimp only [exec, execLoadacc]
  refine (issue_next_of_legal ?_ h).trans ?_
  · simp [hk]
  · simp [halign, hin, hfree]

/-- DRAIN of the whole back canvas to an address that R201 allows and that nothing outstanding uses. -/
theorem exec_drain_ls {a : RegF} {k : BitVec 7} (h : CanIssue s e 4 { sr := [a.toNat] }) (hk : k = 0 ∨ k = 64)
    (halign : ((s.easel e).sr a.toNat).toNat % 64 = 0) (hfits : ((s.easel e).sr a.toNat).toNat + 16384 ≤ (s.easel e).lsLimit)
    (hfree : s.lsStall e ((s.easel e).sr a.toNat).toNat 16384 true = false) :
    exec (.drain e k 7 a 0 0) s = .next (s.pushBack e (s.easel e) (.drainLs ((s.easel e).sr a.toNat).toNat (k = 64))) := by
  have hin : ¬ (s.easel e).lsLimit < ((s.easel e).sr a.toNat).toNat + 16384 := by omega
  dsimp only [exec, execDrain]
  refine (issue_next_of_legal rfl h).trans ?_
  rcases hk with rfl | rfl <;> simp [halign, hin, hfree]

/-- DRAIN of 8, 16 or 32 rows or columns inside the canvas to vector registers that exist. -/
theorem exec_drain_v {a : RegF} {k : BitVec 7} {f : BitVec 3} {n : Nat} (h : CanIssue s e 4 { vwBack := (List.range n).map (a.toNat + ·) })
    (hdest : f.toNat % 2 = 0) (hcount : f.toNat / 2 ≠ 3) (hn : n = 8 * 2 ^ (f.toNat / 2)) (hcells : k.toNat % 64 + n ≤ 64)
    (hregs : a.toNat + n ≤ 32) :
    exec (.drain e k f a 0 0) s = .next (s.pushBack e (s.easel e) (.drainV a.toNat n (k.toNat % 64) (64 ≤ k.toNat))) := by
  subst hn
  dsimp only [exec, execDrain]
  refine (issue_next_of_legal rfl ?_).trans ?_
  · simpa [hdest] using h
  · simp [hdest, hcount, Nat.not_lt.mpr hcells, Nat.not_lt.mpr hregs]

end

/-! ### Vector registers and the local store -/

theorem Easel.vr_setVr_ne (E : Easel) {r i : Nat} (l : Lanes) (h : i ≠ r) : (E.setVr r l).vr i = E.vr i := by
  simp [Easel.setVr, Easel.vr, tget_tset_ne _ _ _ h]

section
variable (lanes : Easel → Nat → Lanes) (a : Nat) (l : List Nat) (E : Easel)

/-- Writes of vector registers leave the rest of the Easel. -/
theorem foldl_setVr_only_v : { l.foldl (fun E m => E.setVr (a + m) (lanes E m)) E with v := E.v } = E := by
  induction l generalizing E with
  | nil => rfl
  | cons m l ih => exact congrArg (fun F : Easel => { F with v := E.v }) (ih (E.setVr (a + m) (lanes E m)))

theorem vr_foldl_setVr_out {r : Nat} (h : ∀ m ∈ l, r ≠ a + m) : (l.foldl (fun E m => E.setVr (a + m) (lanes E m)) E).vr r = E.vr r := by
  induction l generalizing E with
  | nil => rfl
  | cons m l ih =>
    rw [List.forall_mem_cons] at h
    rw [List.foldl_cons, ih _ h.2, Easel.vr_setVr_ne _ _ h.1]

end

/-- Bytes placed from a program's address on are a block write behind the local store's window. -/
theorem mwriteL_placeBytes (d : Byte) (c : Cells) (base a : Nat) (b : List Byte) :
    mwriteL d c ((placeBytes a b).map (fun x => (base + x.1, x.2))) = mwriteN d c (base + a) b := by
  have hsame : (placeBytes a b).map (fun x => (base + x.1, x.2)) = (b.zipIdx 0).map (fun x => (base + a + x.2, x.1)) :=
    List.ext_getElem (by simp [placeBytes]) (fun i _ _ => by simp [placeBytes, Nat.add_assoc])
  rw [hsame, mwriteL_zipIdx, Nat.add_zero]

theorem Easel.ls_wrLs_placeBytes (E : Easel) (a : Nat) (b : List Byte) : (E.wrLs (placeBytes a b)).ls = mwriteN 0 E.ls (E.lsBase + a) b :=
  mwriteL_placeBytes 0 E.ls E.lsBase a b

/-! ### The head of each queue (R190, R200 to R203) -/

namespace Easel
variable {E : Easel}

theorem runFront_empty (h : E.frontQ = []) : E.runFront = E := by rw [runFront, h]

theorem runFront_stroke {o : StrokeOp} {q : List FrontOp} (h : E.frontQ = .stroke o :: q) :
    E.runFront = { E with frontQ := q, front := packCells (runStroke E.rdLs o E.front).1
                          cvFlags := E.cvFlags ||| (runStroke E.rdLs o E.front).2, cvCount := E.cvCount + BitVec.ofNat 64 o.k } := by
  rw [runFront, h]

/-- A SWAP that no earlier LOADACC or DRAIN holds back exchanges the canvases. -/
theorem runFront_swap {q : List FrontOp} (h : E.frontQ = .swap :: q) (hdone : ∀ x ∈ E.backQ, 0 < x.1) :
    E.runFront = { E with frontQ := q, front := E.back, back := E.front, frontIx := !E.frontIx
                          backQ := E.backQ.map (fun x => (x.1 - 1, x.2)) } := by
  rw [runFront, h]
  exact if_pos (by simpa using hdone)

/-- A SWAP waits for a LOADACC or DRAIN issued before it. -/
theorem runFront_swap_waits {q : List FrontOp} (h : E.frontQ = .swap :: q) (hopen : ∃ x ∈ E.backQ, x.1 = 0) : E.runFront = E := by
  obtain ⟨x, hx, hx0⟩ := hopen
  rw [runFront, h]
  refine if_neg fun hall => ?_
  have hpos : 0 < x.1 := of_decide_eq_true (List.all_eq_true.mp hall x hx)
  omega

theorem runBack_empty (h : E.backQ = []) : E.runBack = E := by simp only [runBack, h]

/-- A back-queue entry waits for a SWAP issued before it. -/
theorem runBack_waits {k : Nat} {o : BackOp} {q : List (Nat × BackOp)} (h : E.backQ = (k + 1, o) :: q) : E.runBack = E := by simp only [runBack, h]

theorem runBack_ready {o : BackOp} {q : List (Nat × BackOp)} (h : E.backQ = (0, o) :: q) : E.runBack = { E with backQ := q }.runBackOp o := by
  simp only [runBack, h]

theorem runBackOp_drainV_only_v (a n st : Nat) (tr : Bool) : { E.runBackOp (.drainV a n st tr) with v := E.v } = E :=
  foldl_setVr_only_v (fun E m => canvasVec tr (cells E.back) (st + m)) a (List.range n) E

/-- A back-queue entry changes the back canvas, the local store or the vector registers, and nothing else. -/
theorem runBackOp_only (o : BackOp) : { E.runBackOp o with back := E.back, ls := E.ls, v := E.v } = E := by
  cases o with
  | drainV a n st tr =>
    exact congrArg (fun F : Easel => { F with back := E.back, ls := E.ls }) (runBackOp_drainV_only_v a n st tr)
  | zero | rowv | colv | loadLs | drainLs => simp only [runBackOp, wrLs]

/-- DRAIN to vector registers writes the n registers from a on alone. -/
theorem runBackOp_drainV (a n st : Nat) (tr : Bool) :
    (E.runBackOp (.drainV a n st tr)).back = E.back ∧ (E.runBackOp (.drainV a n st tr)).ls = E.ls
      ∧ ∀ r, (r < a ∨ a + n ≤ r) → (E.runBackOp (.drainV a n st tr)).vr r = E.vr r := by
  have honly := runBackOp_drainV_only_v (E := E) a n st tr
  refine ⟨congrArg (·.back) honly, congrArg (·.ls) honly, fun r hr => vr_foldl_setVr_out _ a _ E fun m hm => ?_⟩
  have := List.mem_range.mp hm
  omega

/-- DRAIN to the local store writes the bytes of the back canvas from a on, behind the window's start. -/
theorem runBackOp_drainLs (a : Nat) (tr : Bool) :
    (E.runBackOp (.drainLs a tr)).back = E.back ∧ (E.runBackOp (.drainLs a tr)).v = E.v
      ∧ (∀ i, i < (toLs tr (cells E.back)).length →
          mread 0 (E.runBackOp (.drainLs a tr)).ls (E.lsBase + a + i) = (toLs tr (cells E.back)).getD i 0)
      ∧ ∀ x, (x < E.lsBase + a ∨ E.lsBase + a + (toLs tr (cells E.back)).length ≤ x) →
          mread 0 (E.runBackOp (.drainLs a tr)).ls x = mread 0 E.ls x := by
  have hls : (E.runBackOp (.drainLs a tr)).ls = mwriteN 0 E.ls (E.lsBase + a) (toLs tr (cells E.back)) := ls_wrLs_placeBytes E a _
  rw [hls]
  refine ⟨rfl, rfl, fun i hi => ?_, fun x hx => mread_mwriteN_out hx⟩
  rw [List.getD_eq_getElem?_getD, List.getElem?_eq_getElem hi, Option.getD_some]
  exact mread_mwriteN_in hi

end Easel

/-! ### CANVAS_QUEUE_EXECUTE (R208) -/

theorem OnlyEasel_setEasel (s : State) (e : Nat) (E : Easel) : OnlyEasel s (s.setEasel e E) e :=
  ⟨fun _ hk => State.easel_setEasel_ne s E hk, fun _ => rfl, fun _ => rfl, rfl⟩

/-- The command runs the head of one queue on its Easel alone. -/
theorem canvasQueueExecute_results {s : State} {e : Nat} {back : Bool} {P : State → Prop} (he : e < 192) (hclocks : s.board.clocksStopped = false)
    (h : ∀ t : State, t.easel e = (if back then (s.easel e).runBack else (s.easel e).runFront) → P t) :
    CompletesWith (.canvasQueueExecute e back) s (fun t => OnlyEasel s t e ∧ P t) := by
  refine ⟨_, ?_, OnlyEasel_setEasel s e _, h _ (State.easel_setEasel_self ..)⟩
  simp [exec, execCanvasQueueExecute, hclocks, Nat.not_le.mpr he]

/-! ### The Canvas (R189 to R213) -/

/-- Settles O21: each instruction that issues pushes one entry on its queue, and the head of a queue rewrites its own canvas, the other queue's
canvas changing with a SWAP alone. -/
theorem canvasResults : Obligations.CanvasResults := by
  refine ⟨fun s e => ⟨fun h => ⟨joins_of_exec (exec_swap h), joinsBack_of_exec (exec_loadacc_zero h)⟩, ?_, ?_, ?_, ?_⟩, ?_⟩
  · intro w ew h hrsv hmode hlf htf hfmt hcheck hfree
    refine joins_of_exec ?_
    rw [exec_stroke_or_ewise]
    exact strokeIssue_next h (by rw [hrsv]; simpa [hlf, htf] using hmode) hfmt hcheck hfree
  · exact fun b h => ⟨joinsBack_of_exec (exec_loadacc_rowv h), joinsBack_of_exec (exec_loadacc_colv h)⟩
  · exact fun a k h halign hfits => ⟨fun hk hfree => joinsBack_of_exec (exec_loadacc_ls h hk halign hfits hfree),
      fun hk hfree => joinsBack_of_exec (exec_drain_ls h hk halign hfits hfree)⟩
  · intro a k f n hmem h hcells hregs
    simp only [List.mem_cons, Prod.mk.injEq, List.not_mem_nil, or_false] at hmem
    refine joinsBack_of_exec ?_
    rcases hmem with ⟨rfl, rfl⟩ | ⟨rfl, rfl⟩ | ⟨rfl, rfl⟩ <;> exact exec_drain_v h rfl (by decide) rfl hcells hregs
  · intro s e he hclocks
    refine ⟨fun hq => ?_, fun hq => ?_, fun o q hq => ?_, fun q hq => ⟨fun hdone => ?_, fun hopen => ?_⟩,
      fun k o q hq => ?_, fun o q hq => ?_⟩
    all_goals refine canvasQueueExecute_results he hclocks fun t ht => ?_
    · exact ht.trans (Easel.runFront_empty hq)
    · exact ht.trans (Easel.runBack_empty hq)
    · rw [ht.trans (Easel.runFront_stroke hq)]
      exact ⟨rfl, rfl, rfl, rfl, rfl, rfl, rfl, rfl, rfl⟩
    · rw [ht.trans (Easel.runFront_swap hq hdone)]
      exact ⟨rfl, rfl, rfl, rfl, by simp [Function.comp_def], rfl, rfl⟩
    · exact ht.trans (Easel.runFront_swap_waits hq hopen)
    · exact ht.trans (Easel.runBack_waits hq)
    · rw [ht.trans (Easel.runBack_ready hq)]
      have honly := Easel.runBackOp_only (E := { s.easel e with backQ := q }) o
      refine ⟨congrArg (·.backQ) honly, congrArg (·.front) honly, congrArg (·.frontQ) honly, congrArg (·.s) honly, congrArg (·.cvFlags) honly,
        ?_, ?_, ?_, ?_, ?_, ?_⟩
      · rintro rfl
        exact ⟨rfl, rfl, rfl⟩
      · rintro v rfl
        simp only [Easel.runBackOp, and_self]
      · rintro v rfl
        simp only [Easel.runBackOp, and_self]
      · rintro a tr rfl
        exact ⟨rfl, rfl⟩
      · rintro a n st tr rfl
        exact Easel.runBackOp_drainV a n st tr
      · rintro a tr rfl
        exact Easel.runBackOp_drainLs a tr

end Sys2Proof.Machine
end

section
/-!
Packages: PART_LOAD, PART_START, PART_STOP, WEIGHT_SWAP (R311 to R313, R322, R371) and PBQ_MARK (R145). Each of them sets its partition's record
first. What the rest of the command does is given by two frames: records change the rings alone (`OnlyRings`), and what the loader places, or a
stop gives up, leaves every partition's load as it is (`SameLoads`).
-/
namespace Sys2Proof.Machine

/-! ### What records in the rings leave (R354, R358) -/

/-- State t with the rings, the PCI Express port and the next free value of s. -/
def State.ringsOf (t s : State) : State := { t with host := { t.host with rings := s.host.rings }, pcie := s.pcie, free := s.free }

/-- Nothing but the rings, the PCI Express port and the next free value differs. -/
def OnlyRings (s t : State) : Prop := t.ringsOf s = s

namespace OnlyRings
variable {s t u : State}

theorem refl (s : State) : OnlyRings s s := rfl

theorem trans (h : OnlyRings s t) (h' : OnlyRings t u) : OnlyRings s u :=
  Eq.trans (b := t.ringsOf s) (congrArg (fun v => v.ringsOf s) h') h

theorem queues (h : OnlyRings s t) : t.host.queues = s.host.queues := (congrArg (fun v : State => v.host.queues) h :)
theorem parts (h : OnlyRings s t) : t.parts = s.parts := (congrArg State.parts h :)
theorem mem (h : OnlyRings s t) : t.mem = s.mem := (congrArg State.mem h :)
theorem easels (h : OnlyRings s t) : t.easels = s.easels := (congrArg State.easels h :)

theorem part? (h : OnlyRings s t) (k : Nat) : t.part? k = s.part? k := by rw [State.part?, h.parts, ← State.part?]

theorem ite {c : Prop} [Decidable c] (ht : OnlyRings s t) (hu : OnlyRings s u) : OnlyRings s (if c then t else u) := by
  split
  · exact ht
  · exact hu

theorem setRing (s : State) (r : Nat) (R : Ring) : OnlyRings s (s.setRing r R) := rfl
theorem ringBytes (s : State) (r : Nat) (b : List Byte) : OnlyRings s (s.ringBytes r b) := rfl
theorem padRecord (s : State) (n : Nat) : OnlyRings s (s.padRecord n).2 := rfl
theorem writeback (s : State) (r : Nat) : OnlyRings s (s.writeback r) := rfl
theorem ringSignal (s : State) (r : Nat) : OnlyRings s (s.ringSignal r) := rfl

theorem padTail (r fuel : Nat) (s : State) (left : Nat) : OnlyRings s (s.padTail r fuel left) := by
  induction fuel generalizing s left with
  | zero => exact refl s
  | succ fuel ih =>
    rw [State.padTail]
    exact ite (ringBytes ..) (((padRecord s (min left 65528)).trans (ringBytes ..)).trans (ih _ _))

theorem ringRecords (r : Nat) (l : List Rec) (s : State) : OnlyRings s (s.ringRecords r l) := by
  induction l generalizing s with
  | nil => exact refl s
  | cons x l ih =>
    rw [State.ringRecords]
    exact ((setRing ..).trans (ringBytes ..)).trans (ih _)

theorem ringCheckSignal (s : State) (r : Nat) : OnlyRings s (s.ringCheckSignal r) := by
  rw [State.ringCheckSignal]
  exact ite (ringSignal ..) (refl s)

theorem writeGroup (s : State) (r : Nat) (g : List Rec) : OnlyRings s (s.writeGroup r g) := by
  rw [State.writeGroup]
  refine ite (refl s) (ite ?_ (setRing ..))
  refine .trans ?_ (ringCheckSignal ..)
  refine .trans ?_ (writeback ..)
  refine .trans ?_ (ringRecords ..)
  exact (ite (refl s) (padTail ..)).trans (setRing ..)

/-- One group of records in each of some rings. -/
theorem writeGroups (l : List Nat) (g : List Rec) (s : State) : OnlyRings s (l.foldl (fun s i => s.writeGroup i g) s) := by
  induction l generalizing s with
  | nil => exact refl s
  | cons i l ih => exact (writeGroup s i g).trans (ih _)

theorem partEvent (s : State) (p : Nat) (v : PartEvt) : OnlyRings s (s.partEvent p v) := writeGroups ..

theorem adaptRecord (s : State) (p : Nat) (job : U32) (st step steps : Nat) (loss : U32) (samples : Nat) :
    OnlyRings s (s.adaptRecord p job st step steps loss samples) := writeGroups ..

end OnlyRings

/-! ### What leaves every partition's load alone -/

/-- Two records of a partition agree in its state, package, sitting number, restart count and job. -/
structure SameLoad (P Q : Part) : Prop where
  state : Q.state = P.state
  pkg : Q.pkg = P.pkg
  sitting : Q.sitting = P.sitting
  restarts : Q.restarts = P.restarts
  job : Q.job = P.job

theorem SameLoad.refl (P : Part) : SameLoad P P := ⟨rfl, rfl, rfl, rfl, rfl⟩

/-- The queues are as before, and every partition's load. -/
structure SameLoads (s t : State) : Prop where
  queues : t.host.queues = s.host.queues
  part (k : Nat) : SameLoad (s.part k) (t.part k)

namespace SameLoads
variable {s t u : State}

theorem of_parts_eq (hq : t.host.queues = s.host.queues) (hp : t.parts = s.parts) : SameLoads s t :=
  ⟨hq, fun k => by rw [State.part_of_parts_eq hp]; exact .refl _⟩

theorem refl (s : State) : SameLoads s s := of_parts_eq rfl rfl

theorem trans (h : SameLoads s t) (h' : SameLoads t u) : SameLoads s u := by
  refine ⟨h'.queues.trans h.queues, fun k => ?_⟩
  obtain ⟨h1, h2, h3, h4, h5⟩ := h.part k
  obtain ⟨h1', h2', h3', h4', h5'⟩ := h'.part k
  exact ⟨h1'.trans h1, h2'.trans h2, h3'.trans h3, h4'.trans h4, h5'.trans h5⟩

theorem of_onlyRings (h : OnlyRings s t) : SameLoads s t := of_parts_eq h.queues h.parts

theorem ite {c : Prop} [Decidable c] (ht : SameLoads s t) (hu : SameLoads s u) : SameLoads s (if c then t else u) := by
  split
  · exact ht
  · exact hu

theorem foldl {α : Type} {f : State → α → State} (hf : ∀ s a, SameLoads s (f s a)) (l : List α) (s : State) : SameLoads s (l.foldl f s) := by
  induction l generalizing s with
  | nil => exact refl s
  | cons a l ih => exact (hf s a).trans (ih (f s a))

/-- A partition's record is replaced by one with the same load. -/
theorem setPart {p : Nat} {Q : Part} (h : SameLoad (s.part p) Q) : SameLoads s (s.setPart p Q) := by
  refine ⟨rfl, fun k => ?_⟩
  by_cases hk : k = p
  · subst hk; rwa [State.part_setPart_self]
  · rw [State.part, State.part, State.part?_setPart_ne _ _ hk]; exact .refl _

theorem setEasel (s : State) (e : Nat) (E : Easel) : SameLoads s (s.setEasel e E) := of_parts_eq rfl rfl
theorem setPrimer (s : State) (c : Nat) (l : List PrimerJob) : SameLoads s (s.setPrimer c l) := of_parts_eq rfl rfl
theorem setSitter (s : State) (n : Nat) (S : Sitter) : SameLoads s (s.setSitter n S) := of_parts_eq rfl rfl
theorem setDev (s : State) (l : List (Nat × Byte)) : SameLoads s (s.setDev l) := of_parts_eq rfl rfl
theorem setDevN (s : State) (a : Nat) (b : List Byte) : SameLoads s (s.setDevN a b) := of_parts_eq rfl rfl
theorem clearDev (s : State) (a n : Nat) : SameLoads s (s.clearDev a n) := of_parts_eq rfl rfl
theorem draw (s : State) : SameLoads s s.draw.2 := of_parts_eq rfl rfl
theorem abandonPut (s : State) (E : Easel) (o : TrackOp) : SameLoads s (s.abandonPut E o) := of_parts_eq rfl rfl
theorem dropDisps (s : State) (gone : Disp → Bool) : SameLoads s (s.dropDisps gone) := of_parts_eq rfl rfl
theorem dropMedWork (s : State) (p : Nat) : SameLoads s (s.dropMedWork p) := of_parts_eq rfl rfl
theorem deallocate (s : State) (a : Nat) : SameLoads s (s.deallocate a) := of_parts_eq rfl rfl
theorem resetUnits (s : State) (p : Nat) (k : Pkg) : SameLoads s (s.resetUnits p k) := of_parts_eq rfl rfl
theorem freeAtelier (s : State) (id : Nat) : SameLoads s (s.freeAtelier id) := of_parts_eq rfl rfl
theorem measure (s : State) (i kind subject : Nat) (d : List Byte) (x : U64) : SameLoads s (s.measure i kind subject d x) := of_parts_eq rfl rfl
theorem hostWrite (s : State) (a : Nat) (b : List Byte) : SameLoads s (s.hostWrite a b) := of_parts_eq rfl rfl
theorem setAtelier (s : State) (d : AtlDesc) (loader : Option Nat) : SameLoads s (s.setAtelier d loader) := of_parts_eq rfl rfl
theorem partEvent (s : State) (p : Nat) (v : PartEvt) : SameLoads s (s.partEvent p v) := of_onlyRings (.partEvent ..)

/-! #### Loans that end, and sitters of a stopped partition (R334, R322) -/

theorem stopJob (s : State) (j : PrimerJob) : SameLoads s (s.stopJob j) := by
  rw [State.stopJob]
  exact ite (refl s) (ite ((draw s).trans (setEasel ..)) ((draw s).trans (setDev ..)))

theorem abandon (s : State) (e : Nat) : SameLoads s (s.abandon e) := by
  rw [State.abandon]
  exact (((foldl (fun s o => abandonPut s _ o) _ s).trans (foldl stopJob _ _)).trans (setEasel ..)).trans (setPrimer ..)

theorem endLoan (s : State) (e : Nat) : SameLoads s (s.endLoan e) := by
  unfold State.endLoan
  split
  · exact refl s
  · extract_lets s1 E s2 s3
    have h : SameLoads s s3 := ((abandon s e).trans (setEasel ..)).trans (dropDisps ..)
    split
    · exact h
    · next hP => exact h.trans (setPart (by rw [State.part_of_part? hP]; exact ⟨rfl, rfl, rfl, rfl, rfl⟩))

theorem recallLoans (s : State) (f : Loan → Bool) : SameLoads s (s.recallLoans f) := by
  refine foldl (fun s e => ?_) _ s
  split
  · exact ite (endLoan s e) (refl s)
  · exact refl s

theorem abandonDecode (s : State) (n : Nat) : SameLoads s (s.abandonDecode n) := by
  unfold State.abandonDecode
  extract_lets S
  split
  · exact refl s
  · exact of_parts_eq rfl rfl

theorem stopSitter (s : State) (n : Nat) : SameLoads s (s.stopSitter n) :=
  ((abandonDecode s n).trans (clearDev ..)).trans (setSitter ..)

/-! #### What the loader places (R296, R297, R304 to R306, R146) -/

theorem placeWeights (s : State) (k : Pkg) : SameLoads s (s.placeWeights k) := foldl (fun s _ => setDevN s ..) _ s
theorem placeLeaves (s : State) (p : Nat) (k : Pkg) : SameLoads s (s.placeLeaves p k) := foldl (fun s _ => setEasel s ..) _ s
theorem gateSpare (s : State) (p : Nat) (k : Pkg) : SameLoads s (s.gateSpare p k) := foldl (fun s _ => setEasel s ..) _ s

theorem resetFlags (s : State) (k : Pkg) (last : Nat) : SameLoads s (s.resetFlags k last) :=
  foldl (fun s _ => ite (clearDev s ..) ((clearDev s ..).trans (setDev ..))) _ s

theorem resetRings (s : State) (p : Nat) : SameLoads s (s.resetRings p) := by
  unfold State.resetRings
  extract_lets P s1 s2
  have h1 : SameLoads s s1 := by
    unfold s1
    split
    · exact refl s
    · extract_lets s1
      have hcrop : SameLoads s s1 := ite (refl s) (clearDev ..)
      exact ite hcrop (hcrop.trans (clearDev ..))
  have h2 : SameLoads s s2 := ite (h1.trans (clearDev ..)) h1
  exact h2.trans (setPart ⟨rfl, rfl, rfl, rfl, rfl⟩)

theorem freeBuffers (s : State) (p : Nat) : SameLoads s (s.freeBuffers p) := by
  unfold State.freeBuffers
  extract_lets s1
  have h1 : SameLoads s s1 := by
    unfold s1
    split
    · exact refl s
    · exact foldl (fun s q => foldl (fun s b => setDevN s ..) _ s) _ s
  exact h1.trans (setPart ⟨rfl, rfl, rfl, rfl, rfl⟩)

theorem setEmit (s : State) (p : Nat) (k : Pkg) (v : Nat) : SameLoads s (s.setEmit p k v) := by
  unfold State.setEmit
  split
  · exact refl s
  · exact (setDevN ..).trans (setPart ⟨rfl, rfl, rfl, rfl, rfl⟩)

/-! #### What the checks of a load define (R29, R292) -/

theorem defineAteliers {p sect : Nat} {l : List (List Byte × Nat)} (h : s.defineAteliers p sect l = .ok t) : SameLoads s t := by
  induction l generalizing s with
  | nil => cases h; exact refl _
  | cons x l ih =>
    rw [State.defineAteliers] at h
    split at h
    · cases h
    · exact (setAtelier ..).trans (ih h)

theorem defineStages {p : Nat} {l : List ((StageDef × List Nat) × Nat)} {r : List StageRun × List Nat}
    (h : s.defineStages p l = .ok (t, r)) : SameLoads s t := by
  induction l generalizing s t r with
  | nil => cases h; exact refl _
  | cons x l ih =>
    rw [State.defineStages] at h
    split at h
    · split at h
      · cases h
      · next hl => cases h; exact ih hl
    · split at h
      · cases h
      · dsimp only at h
        split at h
        · cases h
        · next hl => cases h; exact (setAtelier ..).trans (ih hl)

theorem loadPlan {p len : Nat} {b : List Byte} {pl : Plan} (h : s.loadPlan p b len = .ok pl) : SameLoads s pl.s := by
  unfold State.loadPlan at h
  split at h
  · cases h
  extract_lets P old s0 defs at h
  split at h
  · cases h
  next s1 hdef =>
  have h1 : SameLoads s s1 := (foldl freeAtelier _ s).trans (defineAteliers hdef)
  extract_lets ts exp sum at h
  split at h
  · cases h
  split at h
  · cases h
  split at h
  · cases h
  next hst =>
  split at h
  · cases h
  · cases h; exact h1.trans (defineStages hst)

theorem allocate {n a : Nat} (h : s.allocate n = some (a, t)) : SameLoads s t := by
  obtain ⟨a', -, h'⟩ := Option.map_eq_some_iff.mp h
  cases h'
  exact of_parts_eq rfl rfl

end SameLoads

/-! ### Commands that are ready -/

/-- A command that ends with an answer, the queues standing as before until then, answers. -/
theorem answers_of_exec {i : Instr} {s t : State} {q st r : Nat} {n : U32} {e : Entry} {b : List Byte} {P : State → Prop} (h : CmdReady s q n e b)
    (hexec : exec i s = .next (t.answer q n st r)) (hq : t.host.queues = s.host.queues) (hP : P (t.answer q n st r)) :
    Answers i s q n st r P := by
  obtain ⟨-, -, -, hcmd⟩ := h
  exact ⟨_, hexec, answered_answer hcmd (State.cmd?_of_queues_eq hq q n) st r, hP⟩

@[simp] theorem State.part_measureConfig (s : State) (e : Entry) (b : List Byte) (p k : Nat) : (s.measureConfig e b p).part k = s.part k := rfl
@[simp] theorem State.answer_easels (s : State) (q : Nat) (n : U32) (st r : Nat) : (s.answer q n st r).easels = s.easels := rfl
@[simp] theorem State.part_answer (s : State) (q : Nat) (n : U32) (st r k : Nat) : (s.answer q n st r).part k = s.part k := rfl

theorem State.running_eq_of_ready {s : State} {q op : Nat} {n : U32} {e : Entry} {b : List Byte} (h : CmdReady s q n e b) (ho : e.opcode.toNat = op) :
    s.running q n op = some ({ entry := e, started := true, block := some b, waiting := false, answer := none }, b) := by
  obtain ⟨-, hr, -, hc⟩ := h
  simp [State.running, hr, hc, ho]

section
variable {s : State} {q op : Nat} {n : U32} {e : Entry} {b : List Byte} {code : State → Entry → Nat}
  {run : State → Entry → List Byte → State × Nat × Nat}

/-- A command whose check fails answers the code, whatever the partition's groups are (R429). -/
theorem withGroups_refused (h : CmdReady s q n e b) (ho : e.opcode.toNat = op) (hc : code s e ≠ 0) :
    withGroups q n op s code run = .next (s.answer q n (code s e) 0) := by
  obtain ⟨hq, -, hheld, -⟩ := id h
  simp [withGroups, Nat.not_le.mpr hq, State.running_eq_of_ready h ho, hheld, hc]

/-- A command that passes runs once every group of its partition is ACTIVE (R394). -/
theorem withGroups_runs (h : CmdReady s q n e b) (ho : e.opcode.toNat = op) (hc : code s e = 0) (hs : s.sleeping (e.arg0.toNat % 16) = []) :
    withGroups q n op s code run = .next ((run s e b).1.answer q n (run s e b).2.1 (run s e b).2.2) := by
  obtain ⟨hq, -, hheld, -⟩ := id h
  simp [withGroups, Nat.not_le.mpr hq, State.running_eq_of_ready h ho, hheld, hc, hs]
end

/-! ### PART_LOAD (R311 to R313, R322) -/

/-- A partition that has just been loaded with a package. -/
structure Loaded (k : Pkg) (P : Part) : Prop where
  state : P.state = .ready
  pkg : P.pkg = some k
  sitting : P.sitting = 0
  restarts : P.restarts = 0

theorem Loaded.of_sameLoad {k : Pkg} {P Q : Part} (hP : Loaded k P) (h : SameLoad P Q) : Loaded k Q :=
  ⟨h.state.trans hP.state, h.pkg.trans hP.pkg, h.sitting.trans hP.sitting, h.restarts.trans hP.restarts⟩

/-- What the loader writes leaves the queues, and the partition has the package. -/
theorem loadInto_loaded (s : State) (p : Nat) (k : Pkg) :
    (s.loadInto p k).host.queues = s.host.queues ∧ Loaded k ((s.loadInto p k).part p) := by
  unfold State.loadInto
  extract_lets P s0 s1 s2 s3 s4
  have hq : s1.host.queues = s.host.queues := by
    unfold s1 s0
    split <;> rfl
  have hp : Loaded k (s1.part p) := by
    unfold s1
    rw [State.part_setPart_self]
    exact ⟨rfl, rfl, rfl, rfl⟩
  have h2 : SameLoads s1 s2 := ((SameLoads.placeWeights s1 k).trans (.placeLeaves ..)).trans (.resetFlags ..)
  have h3 : SameLoads s1 s3 := ((h2.trans (.resetUnits ..)).trans (.resetRings ..)).trans (.freeBuffers ..)
  have h4 : SameLoads s1 s4 := by
    unfold s4
    split
    · exact h3.trans (.clearDev ..)
    · exact h3
  have h5 := (h4.trans (.setEmit _ p k 0)).trans (.gateSpare _ p k)
  exact ⟨h5.queues.trans hq, hp.of_sameLoad (h5.part p)⟩

/-- A load that passes puts the bytes of its block into the partition. -/
theorem load_loaded {s s1 : State} {p len : Nat} {b : List Byte} (h : s.load p b len = .ok s1) :
    s1.host.queues = s.host.queues ∧ ∃ k, Loaded k (s1.part p) ∧ k.bytes = b := by
  unfold State.load at h
  split at h
  · cases h
  next pl hpl =>
  split at h
  · cases h
  next a s' ha =>
  cases h
  have hs : SameLoads s s' := (SameLoads.loadPlan hpl).trans (.allocate ha)
  exact ⟨(loadInto_loaded s' p _).1.trans hs.queues, _, (loadInto_loaded s' p _).2, rfl⟩

/-- The report of a load that passes leaves what it loaded. -/
theorem partLoad_of_ok {s s1 : State} {e : Entry} {b : List Byte} (h : s.load (e.arg0.toNat % 16) b e.len0.toNat = .ok s1) :
    (s.partLoad e b).2 = (0, 0) ∧ SameLoads s1 (s.partLoad e b).1 := by
  simp only [State.partLoad, h, true_and]
  exact ((((SameLoads.recallLoans ..).trans (.dropMedWork ..)).trans (.measure ..)).trans (.partEvent ..)).trans (.hostWrite ..)

/-- A failure report begins with its code (R312). -/
theorem failReport_code (s : State) (f : Fail) : ∃ l, (s.failReport f).1 = leBytes 2 f.code ++ l :=
  ⟨_, by simp only [State.failReport, List.append_assoc]; rfl⟩

/-- The first bytes of a block that has been written. -/
theorem mreadN_mwriteN_append (d : Byte) (c : Cells) (a : Nat) (b l : List Byte) : mreadN d (mwriteN d c a (b ++ l)) a b.length = b := by
  refine List.ext_getElem (by simp [mreadN]) (fun i _ hi => ?_)
  have hlt : i < (b ++ l).length := by rw [List.length_append]; omega
  simp only [mreadN, List.getElem_map, List.getElem_range]
  rw [mread_mwriteN_in hlt, List.getElem_append_left hi]

theorem mreadLE_mwriteN_leBytes (d : Byte) (c : Cells) (a n v : Nat) (l : List Byte) :
    mreadLE d (mwriteN d c a (leBytes n v ++ l)) a n = v % 256 ^ n := by
  have h := mreadN_mwriteN_append d c a (leBytes n v) l
  rw [leBytes_size] at h
  rw [mreadLE, h, leNat_leBytes]

section
variable {s : State} {q : Nat} {n : U32} {e : Entry} {b : List Byte} {P : Part}

theorem exec_partLoad (hbus : s.busOn = true) (hz : s.mem.zeroing = []) : exec (.partLoad q n) s =
    withGroups q n 0x0021 s (fun s e => s.partCode (e.arg0.toNat % 16) (fun t => t = .empty || t = .ready || t = .failed)) State.partLoad := by
  show execPartLoad q n s = _
  simp [execPartLoad, State.copyWaits, State.zerosDue, hbus, hz]

/-- PART_LOAD of a partition that may be loaded answers with its load's report. -/
theorem partLoad_runs (h : CmdReady s q n e b) (hbus : s.busOn = true) (hz : s.mem.zeroing = []) (ho : e.opcode = 0x21)
    (hp : s.part? (e.arg0.toNat % 16) = some P) (hst : P.state = .empty ∨ P.state = .ready ∨ P.state = .failed)
    (hs : s.sleeping (e.arg0.toNat % 16) = []) :
    exec (.partLoad q n) s = .next ((s.partLoad e b).1.answer q n (s.partLoad e b).2.1 (s.partLoad e b).2.2) := by
  have hok : (P.state = .empty || P.state = .ready || P.state = .failed : Bool) = true := by simpa [or_assoc] using hst
  rw [exec_partLoad hbus hz]
  exact withGroups_runs h (by simp [ho]) (by rw [State.partCode_of_part? hp, if_pos hok]) hs

theorem partLoad_passes (h : CmdReady s q n e b)
    (hexec : exec (.partLoad q n) s = .next ((s.partLoad e b).1.answer q n (s.partLoad e b).2.1 (s.partLoad e b).2.2))
    {s1 : State} (hload : s.load (e.arg0.toNat % 16) b e.len0.toNat = .ok s1) :
    Answers (.partLoad q n) s q n 0 0 (fun t => (t.part (e.arg0.toNat % 16)).state = .ready ∧ (t.part (e.arg0.toNat % 16)).sitting = 0
      ∧ (t.part (e.arg0.toNat % 16)).restarts = 0 ∧ ∃ k, (t.part (e.arg0.toNat % 16)).pkg = some k ∧ k.bytes = b) := by
  obtain ⟨hanswer, hsame⟩ := partLoad_of_ok hload
  obtain ⟨hq, k, hk, hbytes⟩ := load_loaded hload
  rw [hanswer] at hexec
  obtain ⟨hstate, hpkg, hsitting, hrestarts⟩ := hk.of_sameLoad (hsame.part (e.arg0.toNat % 16))
  refine answers_of_exec h hexec (hsame.queues.trans hq) ?_
  simp only [State.part_answer]
  exact ⟨hstate, hsitting, hrestarts, k, hpkg, hbytes⟩

theorem partLoad_fails (h : CmdReady s q n e b)
    (hexec : exec (.partLoad q n) s = .next ((s.partLoad e b).1.answer q n (s.partLoad e b).2.1 (s.partLoad e b).2.2))
    {f : Fail} (hload : s.load (e.arg0.toNat % 16) b e.len0.toNat = .error f) :
    Answers (.partLoad q n) s q n f.code 0 (fun t => t.parts = s.parts ∧ t.mem = s.mem ∧ t.easels = s.easels ∧ t.ateliers = s.ateliers
      ∧ mreadLE 0 t.pcie.hostMem e.addr1.toNat 2 = f.code % 2 ^ 16) := by
  obtain ⟨l, hl⟩ := failReport_code s f
  have hrun : s.partLoad e b = (s.draw.2.draw.2.hostWrite e.addr1.toNat (leBytes 2 f.code ++ l), f.code, 0) := by
    simp only [State.partLoad, hload, hl]
    rfl
  rw [hrun] at hexec
  exact answers_of_exec h hexec rfl ⟨rfl, rfl, rfl, rfl, mreadLE_mwriteN_leBytes ..⟩

theorem partLoad_missing (h : CmdReady s q n e b) (hbus : s.busOn = true) (hz : s.mem.zeroing = []) (ho : e.opcode = 0x21)
    (hp : s.part? (e.arg0.toNat % 16) = none) : Refuses (.partLoad q n) s q n 0x0A13 := by
  have hcode (ok : PartState → Bool) : s.partCode (e.arg0.toNat % 16) ok = partNotFound := by rw [State.partCode, hp]
  refine ⟨_, ?_, rfl⟩
  rw [exec_partLoad hbus hz, withGroups_refused h (by simp [ho]) (by rw [hcode]; decide), hcode]
  rfl

/-! ### PART_START (R322) -/

/-- A partition that runs from the store time on, or a replay partition from its virtual time, with the weights of the phase in force. -/
def State.startedPart (s : State) (P : Part) : Part :=
  { P with state := .running, from_ := if P.replay then P.from_ else s.tb.time
           lcWeight := s.host.live.lcWeight s.tb.phase, beWeight := s.host.live.beWeight s.tb.phase }

/-- A partition runs. -/
def State.startPart (s : State) (p : Nat) : State :=
  (s.setPart p { s.part p with state := .running, from_ := if (s.part p).replay then (s.part p).from_ else s.tb.time }).takeWeights p

theorem part?_startPart_self {p : Nat} (hp : s.part? p = some P) : (s.startPart p).part? p = some (s.startedPart P) := by
  simp only [State.startPart, State.takeWeights, State.part_setPart_self, State.part?_setPart_self, State.part_of_part? hp]
  rfl

theorem part?_startPart_ne (s : State) {p k : Nat} (hk : k ≠ p) : (s.startPart p).part? k = s.part? k :=
  (State.part?_setPart_ne _ _ hk).trans (State.part?_setPart_ne _ _ hk)

/-- The partition runs, the rings are told, and the configuration is measured. -/
def State.partStart (s : State) (e : Entry) (b : List Byte) : State :=
  ((s.startPart (e.arg0.toNat % 16)).partEvent (e.arg0.toNat % 16) { event := 2 }).measureConfig e b (e.arg0.toNat % 16)

theorem exec_partStart : exec (.partStart q n) s =
    withGroups q n 0x0023 s (fun s e => s.partStartCode (e.arg0.toNat % 16)) (fun s e b => (s.partStart e b, 0, 0)) := rfl

theorem partStartCode_of_part? (hp : s.part? (e.arg0.toNat % 16) = some P) :
    s.partStartCode (e.arg0.toNat % 16) = if P.state = .ready then (if s.packageUse (e.arg0.toNat % 16) then partPackageUse else 0) else partStateErr := by
  by_cases hst : P.state = .ready
  · simp [State.partStartCode, firstCode, State.partCode_of_part? hp, hst]
  · simp [State.partStartCode, firstCode, State.partCode_of_part? hp, hst, partStateErr]

theorem partStart_refused (h : CmdReady s q n e b) (ho : e.opcode = 0x23) {k : Nat} (hk : s.partStartCode (e.arg0.toNat % 16) = k) (h0 : k ≠ 0) :
    Refuses (.partStart q n) s q n k := by
  subst hk
  refine ⟨_, ?_, rfl⟩
  rw [exec_partStart, withGroups_refused h (by simp [ho]) h0]

/-- PART_START changes the partition's record, the rings and M5 alone. -/
theorem partStart_runs (h : CmdReady s q n e b) (ho : e.opcode = 0x23) (hp : s.part? (e.arg0.toNat % 16) = some P) (hst : P.state = .ready)
    (huse : s.packageUse (e.arg0.toNat % 16) = false) (hs : s.sleeping (e.arg0.toNat % 16) = []) :
    Answers (.partStart q n) s q n 0 0 (fun t => t.part? (e.arg0.toNat % 16) = some (s.startedPart P)
      ∧ (∀ k, k ≠ e.arg0.toNat % 16 → t.part? k = s.part? k) ∧ t.mem = s.mem ∧ t.easels = s.easels) := by
  have hcode : s.partStartCode (e.arg0.toNat % 16) = 0 := by rw [partStartCode_of_part? hp, if_pos hst, huse]; rfl
  have hexec : exec (.partStart q n) s = .next ((s.partStart e b).answer q n 0 0) :=
    exec_partStart.trans (withGroups_runs h (by simp [ho]) hcode hs)
  have hevent := OnlyRings.partEvent (s.startPart (e.arg0.toNat % 16)) (e.arg0.toNat % 16) { event := 2 }
  refine answers_of_exec h hexec hevent.queues ⟨(hevent.part? _).trans (part?_startPart_self hp), fun k hk => ?_, hevent.mem, hevent.easels⟩
  exact (hevent.part? k).trans (part?_startPart_ne s hk)

/-! ### PART_STOP (R322, R334, R369) -/

/-- Aborting a job leaves the queues, and the partition without a job. -/
theorem abortJob_job (s : State) (p : Nat) : (s.abortJob p).host.queues = s.host.queues
    ∧ ((s.abortJob p).part p).job = none ∧ ((s.abortJob p).part p).state = (s.part p).state ∧ ((s.abortJob p).part p).pkg = (s.part p).pkg := by
  unfold State.abortJob
  split
  · next hjob => exact ⟨rfl, hjob, rfl, rfl⟩
  · next j _ =>
    have hr := OnlyRings.adaptRecord (s.setPart p { s.part p with job := none, run := (s.part p).run.map (fun (r : SittingRun) => { r with step := none }) })
      p j.job 3 j.done j.steps j.loss (j.done * j.batch)
    rw [State.part_of_parts_eq hr.parts, State.part_setPart_self]
    exact ⟨hr.queues, rfl, rfl, rfl⟩

/-- A partition that has stopped running, its job aborted. -/
def State.haltPart (s : State) (p : Nat) : State := (s.setPart p { s.part p with state := .ready, stopping := none }).abortJob p

theorem stopPart_eq (s : State) (p : Nat) : s.stopPart p =
    ((((s.haltPart p).sittersOf p).foldl State.stopSitter (s.haltPart p)).recallLoans (fun l => l.lender = p)).partEvent p
      { event := 3, sitters := ((s.haltPart p).sittersOf p).length } := rfl

/-- A stop leaves the queues, and the partition READY with its package and without a job. -/
theorem stopPart_ready (s : State) (p : Nat) : (s.stopPart p).host.queues = s.host.queues
    ∧ ((s.stopPart p).part p).state = .ready ∧ ((s.stopPart p).part p).job = none ∧ ((s.stopPart p).part p).pkg = (s.part p).pkg := by
  obtain ⟨hq, hjob, hstate, hpkg⟩ := abortJob_job (s.setPart p { s.part p with state := .ready, stopping := none }) p
  rw [State.part_setPart_self] at hstate hpkg
  have hsame : SameLoads (s.haltPart p) (s.stopPart p) := by
    rw [stopPart_eq]
    exact ((SameLoads.foldl .stopSitter ..).trans (.recallLoans ..)).trans (.partEvent ..)
  obtain ⟨hstate', hpkg', -, -, hjob'⟩ := hsame.part p
  exact ⟨hsame.queues.trans hq, hstate'.trans hstate, hjob'.trans hjob, hpkg'.trans hpkg⟩

/-- What PART_STOP sets first: the command that the stop is to answer. -/
def State.askStop (s : State) (p q : Nat) (n : U32) : State := s.setPart p { s.part p with stopping := some (q, n) }

/-- Everything that a ready PART_STOP can do. -/
theorem exec_partStop (h : CmdReady s q n e b) (ho : e.opcode = 0x24) (hp : s.part? (e.arg0.toNat % 16) = some P) :
    exec (.partStop q n) s =
      if P.state ≠ .running then .next (s.answer q n partStateErr 0)
      else if P.run.isSome then .next ((s.askStop (e.arg0.toNat % 16) q n).markWaiting q n)
      else .next ((s.askStop (e.arg0.toNat % 16) q n).finishStop (e.arg0.toNat % 16)) := by
  obtain ⟨hq, -, hheld, -⟩ := id h
  show execPartStop q n s = _
  by_cases hst : P.state = .running
  · simp [execPartStop, Nat.not_le.mpr hq, State.running_eq_of_ready h (op := 0x24) (by simp [ho]), hheld, State.partCode_of_part? hp,
      State.part_of_part? hp, State.askStop, hst]
  · simp [execPartStop, Nat.not_le.mpr hq, State.running_eq_of_ready h (op := 0x24) (by simp [ho]), hheld, State.partCode_of_part? hp, partStateErr, hst]

/-- A stop that a command of the queues asked for answers it. -/
theorem finishStop_eq {p : Nat} {c : Cmd} (hst : (s.part p).stopping = some (q, n)) (hc : s.cmd? q n = some c) :
    s.finishStop p = ((s.stopPart p).measureConfig c.entry (c.block.getD []) p).answer q n 0 0 := by
  simp only [State.finishStop, hst, hc]

theorem partStop_between (h : CmdReady s q n e b) (ho : e.opcode = 0x24) (hp : s.part? (e.arg0.toNat % 16) = some P) (hst : P.state = .running)
    (hrun : P.run = none) : Answers (.partStop q n) s q n 0 0 (fun t => (t.part (e.arg0.toNat % 16)).state = .ready
      ∧ (t.part (e.arg0.toNat % 16)).job = none ∧ (t.part (e.arg0.toNat % 16)).pkg = P.pkg) := by
  obtain ⟨-, -, -, hcmd⟩ := id h
  have hask : ((s.askStop (e.arg0.toNat % 16) q n).part (e.arg0.toNat % 16)) = { P with stopping := some (q, n) } := by
    rw [State.askStop, State.part_setPart_self, State.part_of_part? hp]
  have hexec := exec_partStop h ho hp
  rw [if_neg (not_not_intro hst), hrun, finishStop_eq (congrArg Part.stopping hask) hcmd] at hexec
  obtain ⟨hq, hstate, hjob, hpkg⟩ := stopPart_ready (s.askStop (e.arg0.toNat % 16) q n) (e.arg0.toNat % 16)
  rw [hask] at hpkg
  refine answers_of_exec h hexec hq ?_
  simp only [State.part_answer, State.part_measureConfig]
  exact ⟨hstate, hjob, hpkg⟩

/-- The first command that `p` finds, changed into one that `p` finds, is found. -/
theorem find?_updFirst_self {p : Cmd → Bool} {f : Cmd → Cmd} {l : List Cmd} {c : Cmd} (h : l.find? p = some c) (hf : p (f c) = true) :
    (updFirst p f l).find? p = some (f c) := by
  induction l with
  | nil => cases h
  | cons a l ih =>
    rw [List.find?_cons] at h
    rw [updFirst]
    cases hp : p a
    · rw [hp] at h; simp [hp, ih h]
    · rw [hp] at h; cases h; simp [hf]

theorem waits_markWaiting {c : Cmd} (hc : s.cmd? q n = some c) : Waits (s.markWaiting q n) q n := by
  refine ⟨{ c with waiting := true }, ?_, rfl⟩
  have hfound : Cmd.unanswered n c = true := List.find?_some hc
  rw [State.cmd?, State.markWaiting, State.updCmd, State.queue_setQueue_self]
  exact find?_updFirst_self hc hfound

theorem partStop_during (h : CmdReady s q n e b) (ho : e.opcode = 0x24) (hp : s.part? (e.arg0.toNat % 16) = some P) (hst : P.state = .running)
    (hrun : P.run.isSome = true) : CompletesWith (.partStop q n) s (fun t =>
      t.part? (e.arg0.toNat % 16) = some { P with stopping := some (q, n) } ∧ t.easels = s.easels ∧ t.mem = s.mem ∧ Waits t q n) := by
  obtain ⟨-, -, -, hcmd⟩ := id h
  have hexec := exec_partStop h ho hp
  rw [if_neg (not_not_intro hst), if_pos hrun] at hexec
  refine ⟨_, hexec, ?_, rfl, rfl, waits_markWaiting hcmd⟩
  rw [← State.part_of_part? hp]
  exact State.part?_setPart_self ..

theorem partStop_refused (h : CmdReady s q n e b) (ho : e.opcode = 0x24) (hp : s.part? (e.arg0.toNat % 16) = some P) (hst : P.state ≠ .running) :
    Refuses (.partStop q n) s q n 0x0A14 :=
  ⟨_, (exec_partStop h ho hp).trans (if_pos hst), rfl⟩

/-! ### WEIGHT_SWAP (R371) -/

/-- The swap waits in the partition, whose package copy has the new section and its digest. -/
theorem part?_swapIn_self {p : Nat} (hp : s.part? p = some P) (k : Pkg) (ix : Nat) (w : List Byte) :
    ∃ d k', (s.swapIn p k ix w).part? p = some { P with pkg := some k', swaps := P.swaps ++ [(ix, w, d)] } ∧ k'.digest = d ∧ k'.regions = k.regions := by
  rw [← State.part_of_part? hp]
  exact ⟨_, _, State.part?_setPart_self .., rfl, rfl⟩

/-- A swap leaves the other partitions, the Easels and the queues. -/
theorem swapIn_frame (s : State) (p : Nat) (k : Pkg) (ix : Nat) (w : List Byte) :
    (∀ j, j ≠ p → (s.swapIn p k ix w).part? j = s.part? j) ∧ (s.swapIn p k ix w).easels = s.easels
      ∧ (s.swapIn p k ix w).host.queues = s.host.queues := by
  unfold State.swapIn
  extract_lets off b d
  generalize b = b, d = d
  exact ⟨fun j hj => State.part?_setPart_ne (s.setDevN k.copyAddr b) _ hj, rfl, rfl⟩

/-- A section that passes enters the package copy, and waits in the partition. -/
theorem weightSwap_passes {k : Pkg} (h : CmdReady s q n e b) (hbus : s.busOn = true) (ho : e.opcode = 0x26)
    (hp : s.part? (e.arg0.toNat % 16) = some P) (hk : P.pkg = some k) (hst : P.state = .ready ∨ P.state = .running)
    (hpass : swapFail k (e.arg0.toNat / 2 ^ 16 % 2 ^ 16) b = none) :
    Answers (.weightSwap q n) s q n 0 0 (fun t =>
      (∃ d k', t.part? (e.arg0.toNat % 16) = some { P with pkg := some k', swaps := P.swaps ++ [(e.arg0.toNat / 2 ^ 16 % 2 ^ 16, b, d)] }
        ∧ k'.digest = d ∧ k'.regions = k.regions)
      ∧ (∀ j, j ≠ e.arg0.toNat % 16 → t.part? j = s.part? j) ∧ t.easels = s.easels) := by
  have hok : (P.state = .ready || P.state = .running : Bool) = true := by simpa using hst
  have hix : bits e.arg0.toNat 31 16 = e.arg0.toNat / 2 ^ 16 % 2 ^ 16 := rfl
  have hexec : exec (.weightSwap q n) s =
      .next ((s.swapIn (e.arg0.toNat % 16) k (e.arg0.toNat / 2 ^ 16 % 2 ^ 16) b).answer q n 0 0) := by
    show execWeightSwap q n s = _
    rw [execWeightSwap, hbus, Bool.not_true, if_neg Bool.false_ne_true, command_next h (by simp [ho])]
    simp only [State.partCode_of_part? hp, hok, State.part_of_part? hp, hk, hix, hpass, if_true, ne_eq, not_true_eq_false, if_false]
  obtain ⟨hother, heasels, hqueues⟩ := swapIn_frame s (e.arg0.toNat % 16) k (e.arg0.toNat / 2 ^ 16 % 2 ^ 16) b
  refine answers_of_exec h hexec hqueues ?_
  simp only [State.part?_answer, State.answer_easels]
  exact ⟨part?_swapIn_self hp k _ b, hother, heasels⟩

/-! ### PBQ_MARK (R145) -/

theorem exec_pbqMark {f : Framing} {fq : FQueue} (h : CmdReady s q n e b) (ho : e.opcode = 0x34) (hf : s.framing (e.arg0.toNat % 16) = some f)
    (hfq : f.queues[e.arg0.toNat / 2 ^ 8 % 4]? = some fq) : exec (.pbqMark q n) s =
      if e.arg0.toNat / 2 ^ 16 % 2 ^ 9 ≤ fq.buffers then
        .next ((s.setPart (e.arg0.toNat % 16) { s.part (e.arg0.toNat % 16) with
          marks := tinsert (s.part (e.arg0.toNat % 16)).marks (e.arg0.toNat / 2 ^ 8 % 4) (e.arg0.toNat / 2 ^ 16 % 2 ^ 9) }).answer q n 0 0)
      else .next (s.answer q n frmMarkBad 0) := by
  have hpart : bits e.arg0.toNat 3 0 = e.arg0.toNat % 16 := by simp [bits]
  have hqueue : bits e.arg0.toNat 9 8 = e.arg0.toNat / 2 ^ 8 % 4 := rfl
  have hmark : bits e.arg0.toNat 24 16 = e.arg0.toNat / 2 ^ 16 % 2 ^ 9 := rfl
  show execPbqMark q n s = _
  rw [execPbqMark, command_next h (by simp [ho])]
  simp only [hpart, hqueue, hmark, hf, hfq]
  by_cases hm : e.arg0.toNat / 2 ^ 16 % 2 ^ 9 ≤ fq.buffers
  · simp only [hm, decide_true, Bool.not_true, Bool.false_eq_true, if_false, if_true]
  · simp only [hm, decide_false, Bool.not_false, if_false, if_true]

theorem pbqMark_results {f : Framing} {fq : FQueue} (h : CmdReady s q n e b) (ho : e.opcode = 0x34)
    (hf : s.framing (e.arg0.toNat % 16) = some f) (hfq : f.queues[e.arg0.toNat / 2 ^ 8 % 4]? = some fq) :
    (e.arg0.toNat / 2 ^ 16 % 2 ^ 9 ≤ fq.buffers → Answers (.pbqMark q n) s q n 0 0 (fun t =>
        tfind (t.part (e.arg0.toNat % 16)).marks (e.arg0.toNat / 2 ^ 8 % 4) = some (e.arg0.toNat / 2 ^ 16 % 2 ^ 9)
        ∧ (∀ k, k ≠ e.arg0.toNat % 16 → t.part? k = s.part? k) ∧ t.mem = s.mem))
      ∧ (fq.buffers < e.arg0.toNat / 2 ^ 16 % 2 ^ 9 → Refuses (.pbqMark q n) s q n 0x0801) := by
  have hexec := exec_pbqMark h ho hf hfq
  constructor
  · intro hm
    refine answers_of_exec h (hexec.trans (if_pos hm)) rfl ⟨?_, fun k hk => State.part?_setPart_ne _ _ hk, rfl⟩
    rw [State.part_answer, State.part_setPart_self]
    exact tfind_tinsert_self ..
  · intro hm
    exact ⟨_, hexec.trans (if_neg (Nat.not_le.mpr hm)), rfl⟩

end

/-- Settles O39: each command sets its partition's record, or answers its first failing check; what else it does are records in the rings, and
writes that leave every partition's load. -/
theorem packageCommands : Obligations.PackageCommands := by
  intro s q n e b h hbus hz
  refine ⟨fun ho => ⟨fun P hp hst hs => ?_, partLoad_missing h hbus hz ho⟩,
    fun ho P hp => ⟨partStart_runs h ho hp, fun hst => ?_, fun hst huse => ?_⟩,
    fun ho P hp => ⟨partStop_between h ho hp, partStop_during h ho hp, partStop_refused h ho hp⟩, ?_, ?_⟩
  · have hexec := partLoad_runs h hbus hz ho hp hst hs
    exact ⟨fun _ => partLoad_passes h hexec, fun _ => partLoad_fails h hexec⟩
  · exact partStart_refused h ho (by rw [partStartCode_of_part? hp, if_neg hst]; rfl) (by decide)
  · exact partStart_refused h ho (by rw [partStartCode_of_part? hp, if_pos hst, if_pos huse]; rfl) (by decide)
  · intro ho P k hp hk ix hst hpass
    exact weightSwap_passes h hbus ho hp hk hst hpass
  · intro ho f fq hf hfq m
    exact pbqMark_results h ho hf hfq

end Sys2Proof.Machine
end

section
/-!
Loans (R333, R334). LOAN_START writes the Easel's record once, from what it reads. LOAN_RECALL abandons the chunk's work first, which touches no
other Easel, and then puts the lender's record back.
-/
namespace Sys2Proof.Machine

/-! ### Windows of whole units -/

section
variable {d : Byte} {c : Cells} {lo n unit a : Nat}

theorem mread_clearUnits_in (h : lo * unit ≤ a) (h' : a < (lo + n) * unit) : mread d (mclear c (lo * unit) (n * unit)) a = d :=
  mread_mclear_in ⟨h, by rwa [← Nat.add_mul]⟩

theorem mread_clearUnits_out (h : a < lo * unit ∨ (lo + n) * unit ≤ a) : mread d (mclear c (lo * unit) (n * unit)) a = mread d c a :=
  mread_mclear_out (by rwa [← Nat.add_mul])
end

/-! ### LOAN_START (R333) -/

section
variable (s : State) (p i e : Nat)

/-- What the loan of Easel e for chunk i of partition p keeps for the lender, with the windows lent. -/
def State.loanOf : Loan :=
  let E := s.easel e
  { lender := (s.owner e).getD 0, borrower := p, index := i, db := E.db, mask := E.dbMask, mbx := E.mbx, wdog := E.wdog
    pc := E.pc, s := E.s, p := E.p, v := E.v, d := E.d, disp := E.disp, lend := E.lend, user := E.user
    plFlags := E.plFlags, cvCount := E.cvCount, prDone := E.prDone
    iBase := (lendI E.lend).1, iSize := (lendI E.lend).2, lBase := (lendL E.lend).1, lSize := (lendL E.lend).2 }

/-- An Easel on loan, as the chunk finds it: both windows clear but for the chunk's code. -/
def Easel.lent (E : Easel) (l : Loan) (mask : U32) (code : List Byte) : Easel :=
  { E with
    is := mwriteN 0 (mclear E.is (l.iBase * 0x1000) (l.iSize * 0x1000)) (l.iBase * 0x1000) code
    ls := mclear E.ls (l.lBase * 0x10000) (l.lSize * 0x10000)
    db := 0, dbMask := mask, mbx := {}, wdog := 1000000, loan := some l }

theorem easel_startLoan_self : (s.startLoan p i e).easel e =
    (s.easel e).lent (s.loanOf p i e) (s.draw.1.setWidth 32) (s.devN (s.chunk p i).code (s.chunk p i).bytes) :=
  State.easel_setEasel_self ..

theorem easel_startLoan_ne {k : Nat} (h : k ≠ e) : (s.startLoan p i e).easel k = s.easel k := State.easel_setEasel_ne _ _ h

theorem startLoan_disps : (s.startLoan p i e).disps = s.disps ++ [{
    unit := BitVec.ofNat 16 e, entry := (s.chunk p i).entry, arg := (s.chunk p i).arg, issuer := .chunk p i, part := p
    toStart := [e], running := [] }] := rfl
end

section
variable {E : Easel} {l : Loan} {mask : U32} {code : List Byte} {a : Nat}

theorem mread_lent_is_code (h : a < code.length) : mread 0 (E.lent l mask code).is (l.iBase * 0x1000 + a) = code[a] := mread_mwriteN_in h

theorem mread_lent_is_below (h : a < l.iBase * 0x1000) : mread 0 (E.lent l mask code).is a = mread 0 E.is a :=
  (mread_mwriteN_out (.inl h)).trans (mread_mclear_out (.inl h))
end

/-! Who owns an Easel does not turn on the banks that a read opens. -/

theorem leavesOf_touch (s : State) (rs : List (Nat × Nat)) (fuel ref : Nat) : (s.touch rs).leavesOf fuel ref = s.leavesOf fuel ref := by
  induction fuel generalizing ref with
  | zero => rfl
  | succ fuel ih =>
    rw [State.leavesOf, State.leavesOf, show (s.touch rs).leavesOf fuel = s.leavesOf fuel from funext ih]
    rfl

theorem owner_touch (s : State) (rs : List (Nat × Nat)) (e : Nat) : (s.touch rs).owner e = s.owner e := by
  have hleaves (p : Nat) : (s.touch rs).partLeaves p = s.partLeaves p := by
    simp only [State.partLeaves, State.expansion, leavesOf_touch]
    rfl
  simp only [State.owner, hleaves]
  rfl

/-- The Curator's choice starts; its reads, which meet no error, only open banks. -/
theorem loanStart_next {s : State} {p i e : Nat} (he : e < 192) (hr : s.ready = true) (hpick : s.nextLoan = .start p i e) (hf : s.mem.flips = []) :
    ∃ rs, exec (.loanStart e) s = .next ((s.touch rs).startLoan p i e) := by
  refine ⟨[((s.part p).chunkAt i, 64), ((s.chunk p i).code, (s.chunk p i).bytes)], ?_⟩
  show execLoanStart e s = _
  simp only [execLoanStart, Nat.not_le.mpr he, hr, hpick, unitRead_of_no_flips hf, Bool.not_true, Bool.false_eq_true, ne_eq,
    not_true_eq_false, if_false]

/-- The chunk's code stands at the start of the instruction window. -/
theorem mread_startLoan_is {s : State} {p i e a : Nat} (h : a < (s.chunk p i).bytes) :
    mread 0 ((s.startLoan p i e).easel e).is ((lendI (s.easel e).lend).1 * 0x1000 + a) = s.dev ((s.chunk p i).code + a) := by
  have hlen : a < (s.devN (s.chunk p i).code (s.chunk p i).bytes).length := by simpa [State.devN, mreadN] using h
  rw [easel_startLoan_self]
  refine (mread_lent_is_code hlen).trans ?_
  simp only [State.devN, mreadN, List.getElem_map, List.getElem_range]
  rfl

/-! ### What abandoning an Easel's work leaves (R281, R265) -/

theorem State.easel_of_easels_eq {s t : State} (h : t.easels = s.easels) (k : Nat) : t.easel k = s.easel k := by
  rw [State.easel, h, ← State.easel]

theorem foldl_abandonPut_frame (E : Easel) (l : List TrackOp) (s : State) :
    (l.foldl (fun s o => s.abandonPut E o) s).easels = s.easels ∧ (l.foldl (fun s o => s.abandonPut E o) s).primers = s.primers := by
  induction l generalizing s with
  | nil => exact ⟨rfl, rfl⟩
  | cons o l ih => exact ih _

theorem stopJob_of_not_started (s : State) {j : PrimerJob} (h : j.started = false) : s.stopJob j = s := by
  simp [State.stopJob, h]

theorem easel_stopJob_ne (s : State) {j : PrimerJob} {k : Nat} (h : k ≠ j.easel) : (s.stopJob j).easel k = s.easel k := by
  unfold State.stopJob
  dsimp only
  split
  · rfl
  · split
    · exact State.easel_setEasel_ne _ _ h
    · rfl

theorem foldl_stopJob_of_not_started (s : State) {l : List PrimerJob} (h : ∀ j ∈ l, j.started = false) : l.foldl State.stopJob s = s := by
  induction l with
  | nil => rfl
  | cons j l ih =>
    obtain ⟨hj, hl⟩ := List.forall_mem_cons.mp h
    rw [List.foldl_cons, stopJob_of_not_started s hj, ih hl]

theorem easel_foldl_stopJob_ne {l : List PrimerJob} {k : Nat} (h : ∀ j ∈ l, k ≠ j.easel) (s : State) :
    (l.foldl State.stopJob s).easel k = s.easel k := by
  induction l generalizing s with
  | nil => rfl
  | cons j l ih =>
    obtain ⟨hj, hl⟩ := List.forall_mem_cons.mp h
    rw [List.foldl_cons, ih hl, easel_stopJob_ne s hj]

section
variable {s : State} {e : Nat}

/-- Abandoning touches no other Easel. -/
theorem easel_abandon_ne {k : Nat} (h : k ≠ e) : (s.abandon e).easel k = s.easel k := by
  unfold State.abandon
  extract_lets E puts s1 s2 _ s3
  have hjobs : ∀ j ∈ (s1.primer (clusterOf e)).filter (fun j => j.easel = e), k ≠ j.easel := fun j hj =>
    (of_decide_eq_true (List.mem_filter.mp hj).2 : j.easel = e) ▸ h
  calc s3.easel k = s2.easel k := State.easel_setEasel_ne _ _ h
    _ = s1.easel k := easel_foldl_stopJob_ne hjobs s1
    _ = s.easel k := State.easel_of_easels_eq (foldl_abandonPut_frame E puts s).1 k

theorem abandon_tracks : ((s.abandon e).easel e).tracks = [] := congrArg Easel.tracks (State.easel_setEasel_self ..)

/-- The local store stays as it is, where no Primer job of the Easel was running. -/
theorem abandon_ls (h : ∀ j ∈ s.primer (e / 8), j.easel = e → j.started = false) : ((s.abandon e).easel e).ls = (s.easel e).ls := by
  unfold State.abandon
  extract_lets E puts s1 s2 _ s3
  obtain ⟨heasels, hprimers⟩ : s1.easels = s.easels ∧ s1.primers = s.primers := foldl_abandonPut_frame E puts s
  have hprimer : s1.primer (clusterOf e) = s.primer (e / 8) := congrArg (tget [] · (e / 8)) hprimers
  have hs2 : s2 = s1 := by
    refine foldl_stopJob_of_not_started s1 (fun j hj => ?_)
    obtain ⟨hmem, hj⟩ := List.mem_filter.mp hj
    exact h j (hprimer ▸ hmem) (of_decide_eq_true hj)
  calc (s3.easel e).ls = (s2.easel e).ls := by rw [show s3.easel e = _ from State.easel_setEasel_self ..]
    _ = (s1.easel e).ls := by rw [hs2]
    _ = (s.easel e).ls := by rw [State.easel_of_easels_eq heasels]
end

/-! ### LOAN_RECALL (R334) -/

/-- An Easel given back to its lender: idle, its Canvas sets and both windows clear, and the rest as the loan found it (R188, R214). -/
def Easel.givenBack (E : Easel) (l : Loan) : Easel :=
  { E with
    running := false, stall := .none, loan := none, front := [], back := [], frontIx := false, cvFlags := 0
    db := l.db, dbMask := l.mask, mbx := l.mbx, wdog := l.wdog, pc := l.pc, s := l.s, p := l.p, v := l.v, d := l.d
    disp := l.disp, lend := l.lend, user := l.user, plFlags := l.plFlags, cvCount := l.cvCount, prDone := l.prDone
    ls := mclear E.ls (l.lBase * 0x10000) (l.lSize * 0x10000)
    is := mclear E.is (l.iBase * 0x1000) (l.iSize * 0x1000) }

/-- The end of a loan sets no Easel but the one given back. -/
theorem endLoan_easel {s : State} {e : Nat} {l : Loan} (h : (s.easel e).loan = some l) (k : Nat) :
    (s.endLoan e).easel k = ((s.abandon e).setEasel e (((s.abandon e).easel e).givenBack l)).easel k := by
  simp only [State.endLoan, h]
  split <;> rfl

theorem easel_endLoan_self {s : State} {e : Nat} {l : Loan} (h : (s.easel e).loan = some l) :
    (s.endLoan e).easel e = ((s.abandon e).easel e).givenBack l :=
  (endLoan_easel h e).trans (State.easel_setEasel_self ..)

theorem easel_endLoan_ne {s : State} {e k : Nat} {l : Loan} (h : (s.easel e).loan = some l) (hk : k ≠ e) : (s.endLoan e).easel k = s.easel k :=
  (endLoan_easel h k).trans ((State.easel_setEasel_ne _ _ hk).trans (easel_abandon_ne hk))

/-- A lender that no longer runs gets its Easel back. -/
theorem loanRecall_lenderStop_next {s : State} {e : Nat} {l : Loan} (he : e < 192) (hr : s.ready = true) (hl : (s.easel e).loan = some l)
    (hst : (s.part l.lender).state ≠ .running) : exec (.loanRecall e .lenderStop) s = .next (s.endLoan e) := by
  show execLoanRecall e .lenderStop s = _
  simp only [execLoanRecall, Nat.not_le.mpr he, hr, hl, State.recallReady, hst, Bool.not_true, Bool.false_eq_true, if_false]

/-- Settles O20: LOAN_START writes the lent Easel's record and queues the chunk's dispatch; LOAN_RECALL puts the lender's record back over what
abandoning the chunk's work left, and that leaves the local store unless a Primer job of the Easel was running. -/
theorem loanResults : Obligations.LoanResults := by
  refine ⟨fun s p i e he hr hpick hf => ?_, fun s e l he hr hl hst => ?_⟩
  · intro E c wi wl
    obtain ⟨rs, hexec⟩ := loanStart_next he hr hpick hf
    refine ⟨_, hexec, ?_⟩
    dsimp only
    rw [easel_startLoan_self (s.touch rs) p i e]
    have hlender : ((s.touch rs).owner e).getD 0 = (s.owner e).getD 0 := by rw [owner_touch]
    refine ⟨⟨_, rfl, hlender, rfl, rfl, rfl, rfl, rfl, rfl, rfl, rfl, rfl, rfl, rfl, rfl⟩, rfl, rfl, rfl,
      fun a => mread_clearUnits_in, fun a => mread_clearUnits_out, fun a ha => ?_,
      fun a => mread_lent_is_below (l := (s.touch rs).loanOf p i e), fun q hq => easel_startLoan_ne _ _ _ _ hq, rfl, _,
      startLoan_disps .., rfl, rfl, rfl, rfl, rfl⟩
    rw [← easel_startLoan_self]
    exact mread_startLoan_is ha
  · refine ⟨_, loanRecall_lenderStop_next he hr hl hst, ?_⟩
    dsimp only
    rw [easel_endLoan_self hl]
    refine ⟨rfl, rfl, rfl, rfl, rfl, rfl, rfl, rfl, rfl, rfl, rfl, rfl, rfl, rfl, abandon_tracks, fun a => mread_clearUnits_in, ?_,
      fun a => mread_clearUnits_in, fun q => easel_endLoan_ne hl⟩
    intro hidle a ha
    rw [← abandon_ls hidle]
    exact mread_clearUnits_out ha

end Sys2Proof.Machine
end

section
/-!
The sitter commands (R316 to R318, R320, R345) and INJECT (R92 to R94). What a registration gives up and what it takes leave every other sitter,
but for the place of its stillness map (R123), so a command's results are what it sets its own sitter to.
-/
namespace Sys2Proof.Machine

/-! ### What a registration's end leaves (R317) -/

/-- The queues, the ingress tables, the sitters but n, and which partitions replay are as before. -/
structure OnlySitter (n : Nat) (s t : State) : Prop where
  queues : t.host.queues = s.host.queues
  ing : t.ing = s.ing
  others (j : Nat) (h : j ≠ n) : t.sitter j = s.sitter j
  replay (p : Nat) : (t.part p).replay = (s.part p).replay

namespace OnlySitter
variable {n : Nat} {s t u : State}

theorem refl (n : Nat) (s : State) : OnlySitter n s s := ⟨rfl, rfl, fun _ _ => rfl, fun _ => rfl⟩

theorem trans (h : OnlySitter n s t) (h' : OnlySitter n t u) : OnlySitter n s u :=
  ⟨h'.queues.trans h.queues, h'.ing.trans h.ing, fun j hj => (h'.others j hj).trans (h.others j hj), fun p => (h'.replay p).trans (h.replay p)⟩

theorem setSitter (s : State) (n : Nat) (S : Sitter) : OnlySitter n s (s.setSitter n S) :=
  ⟨rfl, rfl, fun _ hj => State.sitter_setSitter_ne _ _ hj, fun _ => rfl⟩

/-- A partition's record is replaced by one that replays as it did. -/
theorem setPart {p : Nat} {P : Part} (h : P.replay = (s.part p).replay) : OnlySitter n s (s.setPart p P) := by
  refine ⟨rfl, rfl, fun _ _ => rfl, fun k => ?_⟩
  by_cases hk : k = p
  · subst hk; rwa [State.part_setPart_self]
  · rw [State.part, State.part?_setPart_ne _ _ hk, ← State.part]

theorem clearDev (n : Nat) (s : State) (a len : Nat) : OnlySitter n s (s.clearDev a len) := ⟨rfl, rfl, fun _ _ => rfl, fun _ => rfl⟩
theorem setDevN (n : Nat) (s : State) (a : Nat) (b : List Byte) : OnlySitter n s (s.setDevN a b) := ⟨rfl, rfl, fun _ _ => rfl, fun _ => rfl⟩
theorem freeSitterMem (n : Nat) (s : State) (k : Nat) : OnlySitter n s (s.freeSitterMem k) := ⟨rfl, rfl, fun _ _ => rfl, fun _ => rfl⟩

theorem clearDevs (n : Nat) (l : List (Nat × Nat)) (s : State) : OnlySitter n s (l.foldl (fun s m => s.clearDev m.1 m.2) s) := by
  induction l generalizing s with
  | nil => exact refl n s
  | cons m l ih => exact (clearDev n s m.1 m.2).trans (ih _)

theorem allocate {len a : Nat} (h : s.allocate len = some (a, t)) : OnlySitter n s t := by
  obtain ⟨a', -, h'⟩ := Option.map_eq_some_iff.mp h
  cases h'
  exact ⟨rfl, rfl, fun _ _ => rfl, fun _ => rfl⟩

theorem abandonDecode (s : State) (n : Nat) : OnlySitter n s (s.abandonDecode n) := by
  unfold State.abandonDecode
  extract_lets S
  split
  · exact refl n s
  · refine .trans ?_ (setSitter ..)
    exact ⟨rfl, rfl, fun _ _ => rfl, fun _ => rfl⟩

theorem endRegistration (s : State) (n : Nat) : OnlySitter n s (s.endRegistration n) := by
  unfold State.endRegistration
  extract_lets s1 S held s2
  have h1 : OnlySitter n s s1 := (abandonDecode s n).trans (freeSitterMem ..)
  have h2 : OnlySitter n s1 s2 := by
    unfold s2
    split
    · exact refl n s1
    · next hP => exact setPart (by rw [State.part_of_part? hP])
  exact (h1.trans h2).trans ⟨rfl, rfl, fun _ _ => rfl, fun _ => rfl⟩

theorem unregister (s : State) (n : Nat) : OnlySitter n s (s.unregister n) := by
  unfold State.unregister
  extract_lets T old s1 s2
  split
  · exact refl n s
  · exact ((endRegistration s n).trans (clearDevs n old s1)).trans ⟨rfl, rfl, fun _ _ => rfl, fun _ => rfl⟩

theorem sitterMemory {S : Sitter} {a e : Nat} (h : s.sitterMemory S = some (a, e, t)) : OnlySitter n s t := by
  unfold State.sitterMemory at h
  split at h
  · cases h
  · next hslots =>
    obtain ⟨⟨e', t'⟩, hring, h'⟩ := Option.map_eq_some_iff.mp h
    cases h'
    exact (allocate hslots).trans (allocate hring)

end OnlySitter

/-! ### SIT_REGISTER (R317, R320, R345) -/

/-- As `OnlySitter`, but the stillness maps of the other sitters may have moved in the pool (R123). -/
structure OnlySitterAndMaps (n : Nat) (s t : State) : Prop where
  queues : t.host.queues = s.host.queues
  others (j : Nat) (h : j ≠ n) : { t.sitter j with stillOff := (s.sitter j).stillOff } = s.sitter j
  replay (p : Nat) : (t.part p).replay = (s.part p).replay

namespace OnlySitterAndMaps
variable {n : Nat} {s t u : State}

theorem of_onlySitter (h : OnlySitter n s t) : OnlySitterAndMaps n s t :=
  ⟨h.queues, fun j hj => by rw [h.others j hj], h.replay⟩

theorem refl (n : Nat) (s : State) : OnlySitterAndMaps n s s := of_onlySitter (.refl n s)

theorem trans (h : OnlySitterAndMaps n s t) (h' : OnlySitterAndMaps n t u) : OnlySitterAndMaps n s u := by
  refine ⟨h'.queues.trans h.queues, fun j hj => ?_, fun p => (h'.replay p).trans (h.replay p)⟩
  exact (congrArg (fun T : Sitter => { T with stillOff := (s.sitter j).stillOff }) (h'.others j hj) :).trans (h.others j hj)

/-- A sitter's map gets another place. -/
theorem setStillOff (n : Nat) (s : State) (k off : Nat) : OnlySitterAndMaps n s (s.setSitter k { s.sitter k with stillOff := off }) := by
  refine ⟨rfl, fun j _ => ?_, fun _ => rfl⟩
  by_cases hj : j = k
  · subst hj; rw [State.sitter_setSitter_self]
  · rw [State.sitter_setSitter_ne _ _ hj]

theorem packMaps (n : Nat) (s : State) (k : Nat) : OnlySitterAndMaps n s (s.packMaps k) := by
  unfold State.packMaps
  extract_lets l
  generalize State.packMaps.insertAll l = l, 0 = at_
  induction l generalizing s at_ with
  | nil => exact refl n s
  | cons x l ih =>
    refine .trans ?_ (ih _ _)
    exact (of_onlySitter ((OnlySitter.clearDev ..).trans (.setDevN ..))).trans (setStillOff n _ x.2 at_)

theorem placeMap {len m : Nat} (h : s.placeMap n len = some (m, t)) : OnlySitterAndMaps n s t := by
  unfold State.placeMap at h
  split at h
  · cases h; exact refl n s
  · obtain ⟨m', -, h'⟩ := Option.map_eq_some_iff.mp h
    cases h'
    exact packMaps n s n

end OnlySitterAndMaps

theorem sitter_clearStill (s : State) (n k : Nat) : (s.clearStill n).sitter k = s.sitter k := rfl

theorem sitter_trackerHeader (s : State) (n k : Nat) : (s.trackerHeader n).sitter k = s.sitter k := by
  unfold State.trackerHeader
  extract_lets S
  split <;> rfl

theorem host_trackerHeader (s : State) (n : Nat) : (s.trackerHeader n).host = s.host := by
  unfold State.trackerHeader
  extract_lets S
  split <;> rfl

/-- The entry of a new registration: JOINING with the supplied fields, in a new epoch. -/
structure Entered (replay : Bool) (T S N : Sitter) : Prop where
  state : N.state = 1
  partition : N.partition = S.partition
  codec : N.codec = S.codec
  maxWidth : N.maxWidth = S.maxWidth
  resultRing : N.resultRing = S.resultRing
  curEpoch : N.curEpoch = if replay then S.epoch else T.curEpoch + 1
  curTrack : N.curTrack = if replay then S.nextTrack else 1
  epoch : N.epoch = if replay then S.epoch else T.epoch
  frames : N.frames = S.frames

section
variable (s : State) (n : Nat) (T S : Sitter) (slots es map : Nat)

theorem enter_self : Entered (s.part S.partition).replay T S ((s.enter n T S slots es map).sitter n) := by
  rw [State.enter, sitter_trackerHeader, sitter_clearStill, State.sitter_setSitter_self]
  exact ⟨rfl, rfl, rfl, rfl, rfl, rfl, rfl, rfl, rfl⟩

theorem enter_ne {k : Nat} (h : k ≠ n) : (s.enter n T S slots es map).sitter k = s.sitter k := by
  rw [State.enter, sitter_trackerHeader, sitter_clearStill]
  exact State.sitter_setSitter_ne _ _ h

theorem enter_host : (s.enter n T S slots es map).host = s.host := by
  rw [State.enter, host_trackerHeader]
  rfl
end

/-- A registration that passes enters its sitter in a state in which memory has been given up and taken, and maps moved. -/
theorem register_ok {s t : State} {n : Nat} {b : List Byte} (h : s.register n b = .ok t) :
    ∃ u a e m, OnlySitterAndMaps n s u ∧ t = u.enter n (s.sitter n) (decodeSitter b) a e m := by
  unfold State.register at h
  extract_lets S c at h
  split at h
  · cases h
  split at h
  · cases h
  split at h
  · cases h
  next a e s1 hmem =>
  split at h
  · cases h
  next m s2 hmap =>
  cases h
  exact ⟨s2, a, e, m, (OnlySitterAndMaps.of_onlySitter ((OnlySitter.unregister s n).trans (.sitterMemory hmem))).trans (.placeMap hmap), rfl⟩

/-! ### SIT_DELETE (R317, R76) -/

/-- What clearing a sitter's demux entries leaves. -/
theorem OnlySitter.deleteSitter (s : State) (k : Nat) : OnlySitter k (s.clearDmxOf k) (s.deleteSitter k) :=
  (endRegistration (s.clearDmxOf k) k).trans (setSitter ..)

theorem deleteSitter_dmx (s : State) (k : Nat) : ∀ x ∈ (s.deleteSitter k).ing.dmx, x.2.sitter ≠ k := by
  rw [(OnlySitter.deleteSitter s k).ing]
  intro x hx
  exact of_decide_eq_true (List.mem_filter.mp hx).2

theorem deleteSitter_self (s : State) (k : Nat) : (s.deleteSitter k).sitter k =
    { epoch := (s.sitter k).curEpoch, curEpoch := (s.sitter k).curEpoch, epochs := (s.sitter k).epochs, known := (s.sitter k).known } :=
  State.sitter_setSitter_self ..

/-! ### The commands -/

section
variable {s : State} {q : Nat} {n : U32} {e : Entry} {b : List Byte}

@[simp] theorem State.sitter_answer (s : State) (q : Nat) (n : U32) (st r k : Nat) : (s.answer q n st r).sitter k = s.sitter k := rfl
@[simp] theorem State.sitter_measureConfig (s : State) (e : Entry) (b : List Byte) (p k : Nat) : (s.measureConfig e b p).sitter k = s.sitter k := rfl

-- k is the sitter that the command names
variable {k : Nat} (hk : e.arg0.toNat % 2048 = k)
include hk

/-- A registration that need not wait for zeros configures the part, or is refused. -/
theorem exec_sitRegister (h : CmdReady s q n e b) (ho : e.opcode = 0x30) (hw : (s.zerosDue && isNoMemory (s.register k b)) = false) :
    let r := config s e b k (s.register k b)
    exec (.sitRegister q n) s = .next (r.1.answer q n r.2.1 r.2.2) := by
  subst hk
  have hop : e.opcode.toNat = 0x30 := by simp [ho]
  show execSitRegister q n s = _
  simp only [execSitRegister, Nat.not_le.mpr h.1, State.running_eq_of_ready h hop, hw, command_next h hop, Bool.false_eq_true, if_false]

theorem sitRegister_passes (h : CmdReady s q n e b) (ho : e.opcode = 0x30) {s1 : State} (hok : s.register k b = .ok s1) :
    Answers (.sitRegister q n) s q n 0 0 (fun t =>
      Entered (s.part (decodeSitter b).partition).replay (s.sitter k) (decodeSitter b) (t.sitter k)
      ∧ ∀ j, j ≠ k → { t.sitter j with stillOff := (s.sitter j).stillOff } = s.sitter j) := by
  have hexec := exec_sitRegister hk h ho (by rw [hok, isNoMemory, Bool.and_false])
  rw [hok] at hexec
  obtain ⟨u, a, es, m, hu, rfl⟩ := register_ok hok
  refine answers_of_exec h hexec ((congrArg HostIf.queues (enter_host ..)).trans hu.queues) ?_
  simp only [config, State.sitter_answer, State.sitter_measureConfig]
  refine ⟨?_, fun j hj => ?_⟩
  · rw [← hu.replay]
    exact enter_self ..
  · rw [enter_ne _ _ _ _ _ _ _ hj]
    exact hu.others j hj

theorem sitRegister_fails (h : CmdReady s q n e b) (ho : e.opcode = 0x30) {c : Nat} (hbad : s.register k b = .error c)
    (hz : s.mem.zeroing = []) : Refuses (.sitRegister q n) s q n c := by
  have hexec := exec_sitRegister hk h ho (by simp [State.zerosDue, hz])
  rw [hbad] at hexec
  exact ⟨_, hexec, rfl⟩

/-! ### SIT_UPDATE, SIT_DELETE and SIT_PARAMSETS (R317, R318, R82) -/

theorem sitUpdate_configures : Configures (.sitUpdate q n) s q n 0x31 e b k (s.sitterCode k b true)
    (s.setSitter k ((s.sitter k).updated (decodeSitter b))) := by
  subst hk
  refine ⟨_, (show execSitUpdate q n s = _ by rw [execSitUpdate]), ?_⟩; rfl

theorem sitUpdate_results (h : CmdReady s q n e b) (ho : e.opcode = 0x31) :
    (s.sitterCode k b true = 0 → Answers (.sitUpdate q n) s q n 0 0 (fun t =>
        t.sitter k = (s.sitter k).updated (decodeSitter b) ∧ (∀ j, j ≠ k → t.sitter j = s.sitter j) ∧ t.mem = s.mem ∧ t.parts = s.parts))
      ∧ (s.sitterCode k b true ≠ 0 → Refuses (.sitUpdate q n) s q n (s.sitterCode k b true)) := by
  have hop : e.opcode.toNat = 0x31 := by simp [ho]
  have hx := sitUpdate_configures (s := s) (q := q) (n := n) (b := b) hk
  refine ⟨fun hok => hx.answers h hop hok rfl ?_, fun hbad => hx.refuses h hop rfl hbad⟩
  exact ⟨State.sitter_setSitter_self .., fun j hj => State.sitter_setSitter_ne _ _ hj, rfl, rfl⟩

theorem sitDelete_configures : Configures (.sitDelete q n) s q n 0x32 e b k (if (s.sitter k).state = 0 then sitNotFound else 0)
    (s.deleteSitter k) := by
  subst hk
  refine ⟨_, (show execSitDelete q n s = _ by rw [execSitDelete]), ?_⟩
  by_cases hst : (s.sitter (e.arg0.toNat % 2048)).state = 0
  · simp [hst, sitNotFound]
  · simp [hst]

theorem sitDelete_results (h : CmdReady s q n e b) (ho : e.opcode = 0x32) :
    ((s.sitter k).state ≠ 0 → Answers (.sitDelete q n) s q n 0 0 (fun t =>
        (t.sitter k).state = 0 ∧ (t.sitter k).epoch = (s.sitter k).curEpoch ∧ (t.sitter k).curEpoch = (s.sitter k).curEpoch
        ∧ (∀ j, j ≠ k → t.sitter j = s.sitter j) ∧ (∀ x ∈ t.ing.dmx, x.2.sitter ≠ k)))
      ∧ ((s.sitter k).state = 0 → Refuses (.sitDelete q n) s q n 0x0A02) := by
  have hop : e.opcode.toNat = 0x32 := by simp [ho]
  have hx := sitDelete_configures (s := s) (q := q) (n := n) (b := b) hk
  have hkeeps := OnlySitter.deleteSitter s k
  refine ⟨fun hst => hx.answers h hop (if_neg hst) (State.cmd?_of_queues_eq hkeeps.queues q n) ?_,
    fun hst => hx.refuses h hop (if_pos hst) (by decide)⟩
  simp only [State.sitter_answer, State.sitter_measureConfig]
  rw [deleteSitter_self]
  exact ⟨rfl, rfl, rfl, hkeeps.others, deleteSitter_dmx s k⟩

theorem exec_sitParamsets (h : CmdReady s q n e b) (ho : e.opcode = 0x33) : exec (.sitParamsets q n) s =
    if (s.sitter k).state = 0 then .next (s.answer q n sitNotFound 0)
    else .next ((s.setSitter k { s.sitter k with ing := { (s.sitter k).ing with params := b } }).answer q n 0 0) := by
  subst hk
  show execSitParamsets q n s = _
  rw [execSitParamsets, command_next h (by simp [ho])]
  dsimp only
  split <;> rfl

theorem sitParamsets_results (h : CmdReady s q n e b) (ho : e.opcode = 0x33) :
    ((s.sitter k).state ≠ 0 → Answers (.sitParamsets q n) s q n 0 0 (fun t =>
        t.sitter k = { s.sitter k with ing := { (s.sitter k).ing with params := b } }
        ∧ (∀ j, j ≠ k → t.sitter j = s.sitter j) ∧ t.mem = s.mem))
      ∧ ((s.sitter k).state = 0 → Refuses (.sitParamsets q n) s q n 0x0A02) := by
  have hexec := exec_sitParamsets hk h ho
  constructor
  · intro hst
    refine answers_of_exec h (hexec.trans (if_neg hst)) rfl ?_
    exact ⟨State.sitter_setSitter_self .., fun j hj => State.sitter_setSitter_ne _ _ hj, rfl⟩
  · intro hst
    exact ⟨_, hexec.trans (if_pos hst), rfl⟩
end

/-! ### Archive copies (R62, R357) -/

namespace OnlyRings

theorem sitters {s t : State} (h : OnlyRings s t) : t.sitters = s.sitters := (congrArg State.sitters h :)

theorem archiveTail (s : State) (r n : Nat) : OnlyRings s (s.archiveTail r n) := ite (refl s) (ite (ringBytes ..) (ringBytes ..))

theorem archiveEntry (s : State) (r n : Nat) (f : Nat → List Byte) : OnlyRings s (s.archiveEntry r n f) :=
  ((((archiveTail s r n).trans (setRing ..)).trans (ringBytes ..)).trans (writeback ..)).trans (ringCheckSignal ..)

theorem archive (s : State) (r sitter disp reason marks : Nat) (capture arrival : U64) (data : List Byte) :
    OnlyRings s (s.archive r sitter disp reason marks capture arrival data) :=
  ite (refl s) (ite ((ite (refl s) ((setRing ..).trans (archiveEntry ..))).trans (archiveEntry ..)) (setRing ..))

end OnlyRings

/-! ### A completed unit (R80, R81, R537) -/

/-- A sitter has taken one more unit: the next number is used, and its frame stands at the end. -/
structure TakesUnit (S N : Sitter) : Prop where
  nextIndex : N.ing.nextIndex = S.ing.nextIndex + 1
  frames : N.frames.length = S.frames.length + 1

theorem Sitter.enqueue_frames (S : Sitter) (i : U64) (u : AccessUnit) (r : Bool) :
    (S.enqueue i u r).ing.nextIndex = S.ing.nextIndex ∧ (S.enqueue i u r).frames.length = S.frames.length + 1 := by
  unfold Sitter.enqueue
  split
  · exact ⟨rfl, List.length_append⟩
  · split <;> exact ⟨rfl, List.length_append⟩

theorem Sitter.numbered_nextIndex (S : Sitter) (u : AccessUnit) (r : Bool) : (S.numbered u r).ing.nextIndex = S.ing.nextIndex + 1 := by
  simp only [Sitter.numbered]

theorem Sitter.numbered_frames (S : Sitter) (u : AccessUnit) (r : Bool) : (S.numbered u r).frames = S.frames := by
  simp only [Sitter.numbered, Sitter.ingCount]

theorem takesUnit_enqueue (S : Sitter) (i : U64) (u : AccessUnit) (r : Bool) : TakesUnit S ((S.numbered u r).enqueue i u r) := by
  obtain ⟨hindex, hframes⟩ := (S.numbered u r).enqueue_frames i u r
  rw [Sitter.numbered_nextIndex] at hindex
  rw [Sitter.numbered_frames] at hframes
  exact ⟨hindex, hframes⟩

/-- A completed unit is the sitter's next; the archive copy is in the rings. -/
theorem complete_onlyRings (s : State) (n : Nat) (u : AccessUnit) :
    ∃ N, TakesUnit (s.sitter n) N ∧ OnlyRings (s.setSitter n N) (s.complete n u) :=
  ⟨_, takesUnit_enqueue .., .ite (.archive ..) (.refl _)⟩

/-! ### INJECT (R92 to R94) -/

section
variable {s : State} {q : Nat} {n : U32} {e : Entry} {b : List Byte}

/-- An injected unit is the next of its sitter alone. -/
theorem inject_results (s : State) (b : List Byte) : (s.inject b).host.queues = s.host.queues
    ∧ TakesUnit (s.sitter (fieldLE b 0 2)) ((s.inject b).sitter (fieldLE b 0 2))
    ∧ ∀ j, j ≠ fieldLE b 0 2 → (s.inject b).sitter j = s.sitter j := by
  unfold State.inject
  extract_lets m u S
  generalize hS1 : ({ S with ing := { S.ing with nextMarks := 0, prevArrival := some u.arrival } } : Sitter) = S1
  obtain ⟨N, hN, hrings⟩ := complete_onlyRings (s.setSitter m S1) m u
  have hsitter (j : Nat) : ((s.setSitter m S1).complete m u).sitter j = ((s.setSitter m S1).setSitter m N).sitter j := by
    rw [State.sitter, hrings.sitters, ← State.sitter]
  rw [State.sitter_setSitter_self] at hN
  refine ⟨hrings.queues, ?_, fun j hj => ?_⟩
  · rw [hsitter, State.sitter_setSitter_self]
    subst hS1
    exact ⟨hN.nextIndex, hN.frames⟩
  · rw [hsitter, State.sitter_setSitter_ne _ _ hj, State.sitter_setSitter_ne _ _ hj]

theorem exec_inject (h : CmdReady s q n e b) (ho : e.opcode = 0x44)
    (hw : (b.length = injSize b && s.injectError b = 0 && s.injectWaits b) = false) :
    exec (.inject q n) s =
      if b.length < 32 || b.length ≠ injSize b then .next (s.answer q n 0x0E03 0)
      else if s.injectError b ≠ 0 then .next (s.answer q n (s.injectError b) 0)
      else .next ((s.inject b).answer q n 0
        (if (s.sitter (fieldLE b 0 2)).esFree < (s.withParams (fieldLE b 0 2) (s.injectUnit b)).bytes.length then 1 else 0)) := by
  have hop : e.opcode.toNat = 0x44 := by simp [ho]
  show execInject q n s = _
  simp only [execInject, State.running_eq_of_ready h hop, hw, command_next h hop, Bool.false_eq_true, if_false]
  split
  · rfl
  · split <;> rfl

theorem inject_passes (h : CmdReady s q n e b) (ho : e.opcode = 0x44) (hlen : 32 ≤ b.length) (hsize : b.length = injSize b)
    (herr : s.injectError b = 0) (hw : s.injectWaits b = false) :
    CompletesWith (.inject q n) s (fun t => TakesUnit (s.sitter (fieldLE b 0 2)) (t.sitter (fieldLE b 0 2))
      ∧ (∀ j, j ≠ fieldLE b 0 2 → t.sitter j = s.sitter j) ∧ (Answered s t q n 0 0 ∨ Answered s t q n 0 1)) := by
  have hexec := exec_inject h ho (by simp [hw])
  simp only [Nat.not_lt.mpr hlen, ← hsize, herr, decide_false, ne_eq, not_true_eq_false, Bool.or_self, Bool.false_eq_true, if_false] at hexec
  obtain ⟨-, -, -, hcmd⟩ := id h
  obtain ⟨hqueues, hunit, hothers⟩ := inject_results s b
  refine ⟨_, hexec, hunit, hothers, ?_⟩
  have hans := answered_answer hcmd (State.cmd?_of_queues_eq hqueues q n) 0
  split
  · exact .inr (hans 1)
  · exact .inl (hans 0)

theorem inject_short (h : CmdReady s q n e b) (ho : e.opcode = 0x44) (hlen : b.length < 32) : Refuses (.inject q n) s q n 0x0E03 := by
  have hsize : b.length ≠ injSize b := by unfold injSize; omega
  have hexec := exec_inject h ho (by simp [hsize])
  simp only [hlen, decide_true, Bool.true_or, if_true] at hexec
  exact ⟨_, hexec, rfl⟩
end

/-- Settles O40: a command that passes sets its own sitter, and what else it does leaves the others; one that fails a check answers its code. -/
theorem sitterCommands : Obligations.SitterCommands := by
  intro s q n e b h k T S
  refine ⟨fun ho => ⟨fun s1 hok => ?_, fun c => sitRegister_fails rfl h ho⟩, sitUpdate_results rfl h, sitDelete_results rfl h,
    sitParamsets_results rfl h, fun ho => ⟨fun hlen hsize herr hw => ?_, inject_short h ho⟩⟩
  · obtain ⟨t, hexec, hans, hnew, hothers⟩ := sitRegister_passes rfl h ho hok
    exact ⟨t, hexec, hans, hnew.state, hnew.partition, hnew.codec, hnew.maxWidth, hnew.resultRing, hnew.curEpoch, hnew.curTrack, hnew.epoch,
      hnew.frames, hothers⟩
  · obtain ⟨t, hexec, hunit, hothers, hans⟩ := inject_passes h ho hlen hsize herr hw
    exact ⟨t, hexec, hunit.nextIndex, hunit.frames, hothers, hans⟩

end Sys2Proof.Machine
end

section
/-!
Results (R347, R348, R351, R354 to R356): a result block is judged after reads that open banks alone (`State.withBanks`), a group of records
advances its ring by the bytes and the records written (`RingAdvance`), and the timer's signal leaves nothing unsignalled.
-/
namespace Sys2Proof.Machine

/-! ### Result blocks (R347, R348) -/

/-- A state with other rows open in its banks. -/
def State.withBanks (s : State) (B : Tbl Bank) : State := { s with mem := { s.mem with banks := B } }

section
variable (s : State) (B : Tbl Bank) (p v : Nat) (k : Pkg)

theorem touch_eq_withBanks (rs : List (Nat × Nat)) : s.touch rs = s.withBanks (touchBanks s.mem.banks rs) := rfl

@[simp] theorem State.withBanks_withBanks (B' : Tbl Bank) : (s.withBanks B).withBanks B' = s.withBanks B' := rfl

@[simp] theorem State.devLE_withBanks (a n : Nat) : (s.withBanks B).devLE a n = s.devLE a n := rfl
@[simp] theorem State.devN_withBanks (a n : Nat) : (s.withBanks B).devN a n = s.devN a n := rfl

theorem SameInputs.withBanks : SameInputs p s (s.withBanks B) := ⟨rfl, rfl, rfl, rfl, rfl, rfl⟩

theorem SameInputs.setPart {s : State} {p : Nat} {P : Part} (hranges : P.mem = (s.part p).mem) (hgallery : P.gallery = (s.part p).gallery)
    (hbufs : P.bufs = (s.part p).bufs) : SameInputs p s (s.setPart p P) := .setPart_touch hranges hgallery hbufs []

/-- The consumer index goes to the same place whichever rows are open. -/
theorem setEmit_withBanks : ∃ B', (s.withBanks B).setEmit p k v = (s.setEmit p k v).withBanks B' := by
  unfold State.setEmit
  split
  · exact ⟨_, rfl⟩
  · exact ⟨_, rfl⟩

theorem setEmit_sitters : (s.setEmit p k v).sitters = s.sitters := by
  unfold State.setEmit
  split <;> rfl

theorem setEmit_flips (h : s.mem.flips = []) : (s.setEmit p k v).mem.flips = [] := by
  unfold State.setEmit
  split
  · exact h
  · simp [State.setDevN, State.keepFlips, h]

theorem part_setEmit {a n : Nat} (h : k.emitRing = some (a, n)) :
    (s.setEmit p k v).part p = { s.part p with emitTaken := BitVec.ofNat 32 v } := by
  simp only [State.setEmit, h, State.part_setPart_self]

/-- What a partition owns does not depend on its emit ring. -/
theorem within_setEmit (x len : Nat) : (s.setEmit p k v).within p x len = s.within p x len := by
  unfold State.setEmit
  split
  · rfl
  · next a n _ =>
    show _ = (s.setDevN (a + 4) (leBytes 4 v)).within p x len
    exact SameInputs.within (.setPart (P := { s.part p with emitTaken := BitVec.ofNat 32 v }) rfl rfl rfl) x len

end

section
variable {s : State} {b : List Byte}

/-- An accepted block changes its own sitter alone (R347). -/
theorem acceptBlock_eq_setSitter (s : State) (b : List Byte) : ∃ S, s.acceptBlock b = s.setSitter (blkSitter b) S := by
  unfold State.acceptBlock
  split <;> exact ⟨_, rfl⟩

/-- An ANALYSED block is its frame's. -/
theorem acceptBlock_analysed (h : fieldLE b 2 1 = 0) :
    ∀ f ∈ ((s.acceptBlock b).sitter (blkSitter b)).frames, f.au = blkAu b → f.phase = .reported ∧ f.block = b := by
  simp only [State.acceptBlock, h, zero_ne_one, if_false, State.sitter_setSitter_self]
  intro f hf hau
  obtain ⟨g, -, rfl⟩ := List.mem_map.mp hf
  by_cases hg : g.au = blkAu b
  · simp only [hg, if_true, and_self]
  · rw [if_neg hg] at hau
    contradiction

/-- A SHAPE_EXCEEDED block drops its frame (R309). -/
theorem acceptBlock_shapeExceeded (h : fieldLE b 2 1 = 1) :
    ((s.acceptBlock b).sitter (blkSitter b)).FramesIn (blkAu b) FramePhase.Discarded := by
  simp only [State.acceptBlock, h, if_true, State.sitter_setSitter_self]
  exact Sitter.FramesIn.drop_self _ _ _ _

end

/-- The discarded frame that a block may name (R317, R348). -/
def blkOrphan (b : List Byte) : Orphan := { sitter := blkSitter b, au := blkAu b, sitting := blkSitting b }

section
variable {s : State} {p : Nat} {b : List Byte}

theorem judgeBlock_of_bad (hb : blockBad b = true) : s.judgeBlock p b = s.partFault p { cause := 5 } := by
  rw [State.judgeBlock, hb, if_pos rfl]

theorem judgeBlock_of_awaited (hb : blockBad b = false) (hw : s.awaited p b = true) : s.judgeBlock p b = s.acceptBlock b := by
  simp only [State.judgeBlock, hb, hw, Bool.false_eq_true, if_false, if_true]

theorem judgeBlock_of_orphan (hb : blockBad b = false) (hw : s.awaited p b = false) (ho : blkOrphan b ∈ (s.part p).orphans) :
    s.judgeBlock p b = s.setPart p { s.part p with orphans := (s.part p).orphans.erase (blkOrphan b) } := by
  have hc : (s.part p).orphans.contains { sitter := blkSitter b, au := blkAu b, sitting := blkSitting b } = true := List.contains_iff_mem.mpr ho
  simp only [State.judgeBlock, hb, hw, hc, Bool.false_eq_true, if_false, if_true, blkOrphan]

theorem judgeBlock_of_unknown (hb : blockBad b = false) (hw : s.awaited p b = false) (ho : blkOrphan b ∉ (s.part p).orphans) :
    s.judgeBlock p b = s.partFault p { cause := 5 } := by
  have hc : (s.part p).orphans.contains { sitter := blkSitter b, au := blkAu b, sitting := blkSitting b } = false :=
    Bool.eq_false_iff.mpr (mt List.contains_iff_mem.mp ho)
  simp only [State.judgeBlock, hb, hw, hc, Bool.false_eq_true, if_false]

/-- A cause leaves the emit ring's position. -/
theorem partFault_emitTaken (s : State) (p : Nat) (c : PartCause) : ((s.partFault p c).part p).emitTaken = (s.part p).emitTaken := by
  have h := congrArg Part.emitTaken (State.part_partFault s p c)
  exact h

/-- What the formatter does with a block leaves the emit ring's position. -/
theorem judgeBlock_emitTaken (s : State) (p : Nat) (b : List Byte) : ((s.judgeBlock p b).part p).emitTaken = (s.part p).emitTaken := by
  by_cases hb : blockBad b = true
  · rw [judgeBlock_of_bad hb, partFault_emitTaken]
  · rw [Bool.not_eq_true] at hb
    by_cases hw : s.awaited p b = true
    · obtain ⟨S, hS⟩ := acceptBlock_eq_setSitter s b
      rw [judgeBlock_of_awaited hb hw, hS]
      rfl
    · rw [Bool.not_eq_true] at hw
      by_cases ho : blkOrphan b ∈ (s.part p).orphans
      · rw [judgeBlock_of_orphan hb hw ho, State.part_setPart_self]
      · rw [judgeBlock_of_unknown hb hw ho, partFault_emitTaken]

end

section
variable {s : State} {p a n : Nat} {k : Pkg}

theorem resultBlockTake_idle (hp : p < 16) (hk : (s.part p).pkg = some k) (he : k.emitRing = some (a, n))
    (hc : s.devLE a 4 % n = (s.part p).emitTaken.toNat % n) : exec (.resultBlockTake p) s = .next s := by
  show execResultBlockTake p s = _
  simp only [execResultBlockTake, Nat.not_le.mpr hp, hk, he, hc, decide_true, Bool.or_true, if_false, if_true]

/-- An entry that is taken counts as taken; then it is refused, or its block is judged. -/
theorem resultBlockTake_next {e x len : Nat} {u : State} (hp : p < 16) (hr : s.ready = true) (hk : (s.part p).pkg = some k)
    (he : k.emitRing = some (a, n)) (hserves : (s.part p).serves = true) (hn : n ≠ 0) (hf : s.mem.flips = [])
    (hc : s.devLE a 4 % n ≠ (s.part p).emitTaken.toNat % n) (hat : a + 64 + 16 * ((s.part p).emitTaken.toNat % n) = e)
    (hx : s.devLE e 8 = x) (hlen : s.devLE (e + 8) 4 = len) (hu : s.setEmit p k (((s.part p).emitTaken.toNat + 1) % n) = u) :
    ∃ B, exec (.resultBlockTake p) s = .next (if s.devLE (e + 12) 4 ≠ 0 || !u.within p x len then (u.withBanks B).partFault p { cause := 5 }
      else (u.withBanks B).judgeBlock p (u.devN x len)) := by
  obtain ⟨B, hB⟩ := setEmit_withBanks s (touchBanks s.mem.banks [(e, 16)]) p (((s.part p).emitTaken.toNat + 1) % n) k
  rw [hu] at hB
  have hwithin : (s.withBanks (touchBanks s.mem.banks [(e, 16)])).within p x len = u.within p x len :=
    ((SameInputs.withBanks ..).within x len).trans (hu ▸ (within_setEmit ..).symm)
  have hflips : (u.withBanks B).mem.flips = [] := hu ▸ setEmit_flips s p _ k hf
  have hexec : exec (.resultBlockTake p) s = .next (if s.devLE (e + 12) 4 ≠ 0 || !u.within p x len then (u.withBanks B).partFault p { cause := 5 }
      else (u.withBanks (touchBanks B [(x, len)])).judgeBlock p (u.devN x len)) := by
    show execResultBlockTake p s = _
    simp only [execResultBlockTake, Nat.not_le.mpr hp, hk, he, hr, hserves, hn, hc, Bool.not_true, decide_false, Bool.or_false, Bool.false_eq_true,
      if_false, hat, unitRead_of_no_flips hf, touch_eq_withBanks, State.devLE_withBanks, hx, hlen, hB, hwithin, unitRead_of_no_flips hflips,
      State.withBanks_withBanks, State.devN_withBanks]
    rfl
  rw [hexec]
  split
  · exact ⟨B, rfl⟩
  · exact ⟨_, rfl⟩


/-- What a taken entry does to the sitter it names and to its partition: the reads open banks, which no judgement of a block looks at. -/
theorem resultBlockTake_results (hp : p < 16) (hr : s.ready = true) (hk : (s.part p).pkg = some k) (he : k.emitRing = some (a, n))
    (hserves : (s.part p).serves = true) (hn : n ≠ 0) (hf : s.mem.flips = []) (hn32 : n < 2 ^ 32)
    (hc : s.devLE a 4 % n ≠ (s.part p).emitTaken.toNat % n) :
    let e := a + 64 + 16 * ((s.part p).emitTaken.toNat % n)
    let u := s.setEmit p k (((s.part p).emitTaken.toNat + 1) % n)
    let x := s.devLE e 8
    let len := s.devLE (e + 8) 4
    let b := u.devN x len
    let bad : Bool := s.devLE (e + 12) 4 ≠ 0 || !u.within p x len || blockBad b
    CompletesWith (.resultBlockTake p) s (fun t => (t.part p).emitTaken.toNat = ((s.part p).emitTaken.toNat + 1) % n
      ∧ (bad = true → (s.part p).state = .running → (t.part p).state = .restarting ∧ ∃ z, (t.part p).cause = some z ∧ z.cause = 5)
      ∧ (bad = false → u.awaited p b = true → (t.part p).state = (s.part p).state ∧ (∀ i, i ≠ blkSitter b → t.sitter i = s.sitter i)
          ∧ ∀ f ∈ (t.sitter (blkSitter b)).frames, f.au = blkAu b → (fieldLE b 2 1 = 0 → f.phase = .reported ∧ f.block = b)
              ∧ (fieldLE b 2 1 = 1 → f.phase = .dropped ∨ f.phase = .reported))
      ∧ (bad = false → u.awaited p b = false → blkOrphan b ∈ (s.part p).orphans →
          (t.part p).state = (s.part p).state ∧ t.sitters = s.sitters ∧ (t.part p).orphans.length + 1 = (s.part p).orphans.length)
      ∧ (bad = false → u.awaited p b = false → blkOrphan b ∉ (s.part p).orphans →
          (s.part p).state = .running → (t.part p).state = .restarting ∧ ∃ z, (t.part p).cause = some z ∧ z.cause = 5)) := by
  intro e u x len b bad
  obtain ⟨B, hexec⟩ := resultBlockTake_next hp hr hk he hserves hn hf hc rfl rfl rfl rfl
  have hpart : (u.withBanks B).part p = { s.part p with emitTaken := BitVec.ofNat 32 (((s.part p).emitTaken.toNat + 1) % n) } :=
    part_setEmit s p _ k he
  have hsitters : (u.withBanks B).sitters = s.sitters := setEmit_sitters ..
  have hawaited : (u.withBanks B).awaited p b = u.awaited p b := rfl
  generalize u.withBanks B = v at hexec hpart hsitters hawaited
  have htaken : (v.part p).emitTaken.toNat = ((s.part p).emitTaken.toNat + 1) % n := by
    have := Nat.mod_lt ((s.part p).emitTaken.toNat + 1) (Nat.pos_of_ne_zero hn)
    rw [hpart, BitVec.toNat_ofNat, Nat.mod_eq_of_lt (by omega)]
  have hstate : (v.part p).state = (s.part p).state := by rw [hpart]
  have horphans : (v.part p).orphans = (s.part p).orphans := by rw [hpart]
  have hrestart (h : (s.part p).state = .running) := State.part_partFault_of_running (hstate.trans h) { cause := 5 }
  by_cases hpre : (decide (s.devLE (e + 12) 4 ≠ 0) || !u.within p x len) = true
  · have hbad : bad = true := by simp only [bad, hpre, Bool.true_or]
    rw [if_pos hpre] at hexec
    rw [hbad]
    exact ⟨_, hexec, (congrArg BitVec.toNat (partFault_emitTaken ..)).trans htaken, fun _ => hrestart, nofun, nofun, nofun⟩
  · have hbad : bad = blockBad b := by simp only [bad, Bool.eq_false_iff.mpr hpre, Bool.false_or]
    rw [if_neg hpre] at hexec
    rw [hbad]
    refine ⟨_, hexec, (congrArg BitVec.toNat (judgeBlock_emitTaken ..)).trans htaken,
      fun hb => ?_, fun hb hw => ?_, fun hb hw ho => ?_, fun hb hw ho => ?_⟩
    · rw [judgeBlock_of_bad hb]
      exact hrestart
    · rw [judgeBlock_of_awaited hb (hawaited.trans hw)]
      obtain ⟨S, hS⟩ := acceptBlock_eq_setSitter v b
      refine ⟨?_, fun i hi => ?_,
        fun f hfr hau => ⟨fun h => acceptBlock_analysed h f hfr hau, fun h => acceptBlock_shapeExceeded h f hfr hau⟩⟩
      · rw [hS]
        exact hstate
      · rw [hS, State.sitter_setSitter_ne _ _ hi, State.sitter, hsitters, ← State.sitter]
    · rw [judgeBlock_of_orphan hb (hawaited.trans hw) (horphans ▸ ho), State.part_setPart_self]
      refine ⟨hstate, hsitters, ?_⟩
      rw [horphans]
      exact List.length_erase_add_one ho
    · rw [judgeBlock_of_unknown hb (hawaited.trans hw) (horphans ▸ ho)]
      exact hrestart

end

/-! ### Groups of records (R354 to R356) -/

section
variable (s : State) (r : Nat) (b : List Byte)

theorem State.ring_ringBytes_self : (s.ringBytes r b).ring r = { s.ring r with
    prod := (s.ring r).prod + BitVec.ofNat 64 b.length, unsignalled := (s.ring r).unsignalled + b.length, unsigAny := true } := tget_tset_self ..
theorem State.ring_ringBytes_ne {j : Nat} (h : j ≠ r) : (s.ringBytes r b).ring j = s.ring j := tget_tset_ne _ _ _ h
theorem State.ring_ringSignal_self : (s.ringSignal r).ring r = { s.ring r with unsignalled := 0, unsigAny := false } := tget_tset_self ..
theorem State.ring_ringSignal_ne {j : Nat} (h : j ≠ r) : (s.ringSignal r).ring j = s.ring j := tget_tset_ne _ _ _ h

end

/-- Ring r advances by n bytes and k sequence numbers, its losses as they were; the other rings stay. -/
structure RingAdvance (r n k : Nat) (s t : State) : Prop where
  prod : (t.ring r).prod = (s.ring r).prod + BitVec.ofNat 64 n
  seq : (t.ring r).seq = (s.ring r).seq + BitVec.ofNat 64 k
  lostGroups : (t.ring r).lostGroups = (s.ring r).lostGroups
  others : ∀ j, j ≠ r → t.ring j = s.ring j

namespace RingAdvance
variable {r n m k l : Nat} {s t u : State}

theorem refl (r : Nat) (s : State) : RingAdvance r 0 0 s s := ⟨(BitVec.add_zero _).symm, (BitVec.add_zero _).symm, rfl, fun _ _ => rfl⟩

theorem trans (h : RingAdvance r n k s t) (h' : RingAdvance r m l t u) : RingAdvance r (n + m) (k + l) s u where
  prod := by rw [h'.prod, h.prod, BitVec.ofNat_add, BitVec.add_assoc]
  seq := by rw [h'.seq, h.seq, BitVec.ofNat_add, BitVec.add_assoc]
  lostGroups := h'.lostGroups.trans h.lostGroups
  others j hj := (h'.others j hj).trans (h.others j hj)

theorem ringBytes (r : Nat) (s : State) (b : List Byte) : RingAdvance r b.length 0 s (s.ringBytes r b) where
  prod := by rw [State.ring_ringBytes_self]
  seq := by rw [State.ring_ringBytes_self]; exact (BitVec.add_zero _).symm
  lostGroups := by rw [State.ring_ringBytes_self]
  others _ hj := State.ring_ringBytes_ne s r b hj

theorem ringSignal (r : Nat) (s : State) : RingAdvance r 0 0 s (s.ringSignal r) where
  prod := by rw [State.ring_ringSignal_self]; exact (BitVec.add_zero _).symm
  seq := by rw [State.ring_ringSignal_self]; exact (BitVec.add_zero _).symm
  lostGroups := by rw [State.ring_ringSignal_self]
  others _ hj := State.ring_ringSignal_ne s r hj

theorem writeback (r : Nat) (s : State) : RingAdvance r 0 0 s (s.writeback r) :=
  ⟨(BitVec.add_zero _).symm, (BitVec.add_zero _).symm, rfl, fun _ _ => rfl⟩

theorem ringCheckSignal (r : Nat) (s : State) : RingAdvance r 0 0 s (s.ringCheckSignal r) := by
  unfold State.ringCheckSignal
  extract_lets R
  split
  · exact ringSignal r s
  · exact refl r s

/-- The next sequence number is taken. -/
theorem nextSeq (r : Nat) (s : State) : RingAdvance r 0 1 s (s.setRing r { s.ring r with seq := (s.ring r).seq + 1 }) where
  prod := by rw [State.ring_setRing_self]; exact (BitVec.add_zero _).symm
  seq := by rw [State.ring_setRing_self]; rfl
  lostGroups := by rw [State.ring_setRing_self]
  others _ hj := State.ring_setRing_ne s _ hj

/-- A pad record has the length that its header gives (R355). -/
theorem padRecord_length {n : Nat} (h : 24 ≤ n) (s : State) : (s.padRecord n).1.length = n := by
  simp only [State.padRecord, List.length_append, leBytes_size, List.length_replicate]
  omega

/-- Pads fill the whole tail (R355). -/
theorem padTail (r fuel : Nat) (s : State) (left : Nat) (h : left ≤ 65528 * fuel) : RingAdvance r left 0 s (s.padTail r fuel left) := by
  induction fuel generalizing s left with
  | zero =>
    obtain rfl : left = 0 := by omega
    exact refl r s
  | succ fuel ih =>
    rw [State.padTail]
    split
    · have hzeros := ringBytes r s (List.replicate left 0)
      rwa [List.length_replicate] at hzeros
    · have hpad := ringBytes r (s.padRecord (min left 65528)).2 (s.padRecord (min left 65528)).1
      rw [padRecord_length (by omega)] at hpad
      obtain ⟨hprod, hseq, hlost, hothers⟩ := hpad.trans (ih _ (left - min left 65528) (by omega))
      rw [Nat.add_sub_cancel' (Nat.min_le_left ..)] at hprod
      exact ⟨hprod, hseq, hlost, hothers⟩

theorem recordBytes_length (q : Nat) (x : Rec) : (recordBytes q x).length = recordLen x := by
  simp only [recordBytes, recordLen, List.length_append, leBytes_size]

theorem recordsLen_cons (x : Rec) (l : List Rec) : recordsLen (x :: l) = recordLen x + recordsLen l := by
  simp only [recordsLen, ← List.sum_eq_foldl, List.map_cons, List.sum_cons]

/-- Each record takes its bytes and one sequence number (R355). -/
theorem ringRecords (r : Nat) (l : List Rec) (s : State) : RingAdvance r (recordsLen l) l.length s (s.ringRecords r l) := by
  induction l generalizing s with
  | nil => exact refl r s
  | cons x l ih =>
    have hbytes := ringBytes r (s.setRing r { s.ring r with seq := (s.ring r).seq + 1 }) (recordBytes ((s.ring r).seq + 1).toNat x)
    rw [recordBytes_length] at hbytes
    have hrecord := ((nextSeq r s).trans hbytes).trans (ih _)
    rw [Nat.zero_add, Nat.add_comm (1 + 0)] at hrecord
    rwa [State.ringRecords, recordsLen_cons, List.length_cons]

end RingAdvance

section
variable {s : State} {r : Nat} {g : List Rec}

theorem writeGroup_of_undefined (h : (s.ring r).sizeLog2 = 0) : s.writeGroup r g = s := by
  simp [State.writeGroup, Ring.defined, h]

variable (hsize : (s.ring r).sizeLog2 ≠ 0) (hg : g ≠ []) {pad n : Nat} (hn : recordsLen (overflowNotice (s.ring r) s.tb.time ++ g) = n)
  (hpad : (if (s.ring r).tail < n then (s.ring r).tail else 0) = pad)
include hsize hg hn hpad

/-- A group that does not fit, or finds the bus off, is lost whole (R356, R411). -/
theorem writeGroup_of_no_room (hroom : s.busOn = false ∨ (s.ring r).free < pad + n) :
    s.writeGroup r g = s.setRing r ((s.ring r).lose g.length (captureSpan g).1 (captureSpan g).2) := by
  have hroom' : (s.busOn && decide (pad + n ≤ (s.ring r).free)) = false := by
    rcases hroom with h | h <;> simp [h]
  simp only [State.writeGroup, Ring.defined, hsize, List.isEmpty_eq_false_iff.mpr hg, ne_eq, not_false_eq_true, decide_true, Bool.not_true,
    Bool.or_self, Bool.false_eq_true, if_false, hn, hpad, hroom']

/-- A group that fits is written with its pad and the overflow notice due (R354 to R356). -/
theorem writeGroup_of_room (hbus : s.busOn = true) (hroom : pad + n ≤ (s.ring r).free) :
    ∃ u, RingAdvance r pad 0 s u
      ∧ RingAdvance r n (overflowNotice (s.ring r) s.tb.time ++ g).length (u.setRing r (u.ring r).noLoss) (s.writeGroup r g) := by
  have htail : pad ≤ (s.ring r).size := by
    have : (s.ring r).tail ≤ (s.ring r).size := Nat.sub_le ..
    subst hpad
    split <;> omega
  refine ⟨if pad = 0 then s else s.padTail r ((s.ring r).size / 65528 + 2) pad, ?_, ?_⟩
  · split
    · next h => exact h ▸ .refl r s
    · exact .padTail _ _ _ _ (by omega)
  · simp only [State.writeGroup, Ring.defined, hsize, List.isEmpty_eq_false_iff.mpr hg, ne_eq, not_false_eq_true, decide_true, Bool.not_true,
      Bool.or_self, Bool.false_eq_true, if_false, hn, hpad, hbus, hroom, Bool.and_self, if_true]
    subst hn
    have hrecords := RingAdvance.ringRecords r (overflowNotice (s.ring r) s.tb.time ++ g)
    exact ((hrecords _).trans (.writeback r _)).trans (.ringCheckSignal r _)

theorem writeGroup_results (hbus : s.busOn = true) (hroom : pad + n ≤ (s.ring r).free) :
    ((s.writeGroup r g).ring r).prod = (s.ring r).prod + BitVec.ofNat 64 (pad + n)
      ∧ ((s.writeGroup r g).ring r).seq = (s.ring r).seq + BitVec.ofNat 64 (overflowNotice (s.ring r) s.tb.time ++ g).length
      ∧ ((s.writeGroup r g).ring r).lostGroups = 0 := by
  obtain ⟨u, hpads, hgroup⟩ := writeGroup_of_room hsize hg hn hpad hbus hroom
  obtain ⟨hprod, hseq, hlost, -⟩ := hgroup
  rw [State.ring_setRing_self] at hprod hseq hlost
  refine ⟨?_, ?_, hlost⟩
  · rw [hprod, BitVec.ofNat_add, ← BitVec.add_assoc, ← hpads.prod]
    rfl
  · rw [hseq]
    exact congrArg (· + _) (hpads.seq.trans (BitVec.add_zero _))

end

/-- A group goes to its own ring alone. -/
theorem ring_writeGroup_ne (s : State) {r k : Nat} (g : List Rec) (h : k ≠ r) : (s.writeGroup r g).ring k = s.ring k := by
  by_cases hsize : (s.ring r).sizeLog2 = 0
  · rw [writeGroup_of_undefined hsize]
  · by_cases hg : g = []
    · simp [State.writeGroup, hg]
    · by_cases hroom : s.busOn = false ∨ (s.ring r).free < (if (s.ring r).tail < recordsLen (overflowNotice (s.ring r) s.tb.time ++ g)
          then (s.ring r).tail else 0) + recordsLen (overflowNotice (s.ring r) s.tb.time ++ g)
      · rw [writeGroup_of_no_room hsize hg rfl rfl hroom, State.ring_setRing_ne _ _ h]
      · obtain ⟨hbus, hfits⟩ := not_or.mp hroom
        obtain ⟨u, hpads, hgroup⟩ := writeGroup_of_room hsize hg rfl rfl (Bool.not_eq_false _ ▸ hbus) (Nat.not_lt.mp hfits)
        rw [hgroup.others k h, State.ring_setRing_ne _ _ h, hpads.others k h]

theorem frameGroup_ne_nil (s : State) (n : Nat) (S : Sitter) (f : FrameRec) : s.frameGroup n S f ≠ [] := by
  unfold State.frameGroup
  extract_lets
  split <;> simp

theorem Sitter.reported_frames (S : Sitter) (f : FrameRec) : (S.reported f).frames = S.frames.filter (fun g => g.au ≠ f.au) := by
  unfold Sitter.reported
  extract_lets
  split <;> rfl

section
variable {s : State} {n : Nat} {f : FrameRec}

/-- A frame whose outcome is not known holds its sitter's records back (R351). -/
theorem resultGroupWrite_unknown (hn : n < 2048) (he : earliest (s.sitter n).frames = some f)
    (hd : f.phase ≠ .dropped) (hp : f.phase ≠ .reported) :
    exec (.resultGroupWrite n) s = .next s := by
  show execResultGroupWrite n s = _
  simp only [execResultGroupWrite, Nat.not_le.mpr hn, he, hd, hp, decide_false, Bool.or_self, Bool.not_false, Bool.or_true, if_false, if_true]

theorem resultGroupWrite_next (hn : n < 2048) (hr : s.ready = true) (he : earliest (s.sitter n).frames = some f)
    (hphase : f.phase = .dropped ∨ f.phase = .reported) : exec (.resultGroupWrite n) s
      = .next ((s.writeGroup (s.sitter n).resultRing (s.frameGroup n (s.sitter n) f)).setSitter n ((s.sitter n).reported f)) := by
  have hphase' : (decide (f.phase = .dropped) || decide (f.phase = .reported)) = true := by simpa using hphase
  show execResultGroupWrite n s = _
  simp only [execResultGroupWrite, Nat.not_le.mpr hn, he, hr, hphase', Bool.not_true, Bool.or_self, Bool.false_eq_true, if_false]

/-- The first frame leaves with its group: in its ring whole, or lost whole. -/
theorem resultGroupWrite_results (hn : n < 2048) (hr : s.ready = true) (he : earliest (s.sitter n).frames = some f)
    (hphase : f.phase = .dropped ∨ f.phase = .reported) :
    let r := (s.sitter n).resultRing
    let R := s.ring r
    let all := overflowNotice R s.tb.time ++ s.frameGroup n (s.sitter n) f
    let len := recordsLen all
    let pad := if R.tail < len then R.tail else 0
    CompletesWith (.resultGroupWrite n) s (fun t => (t.sitter n).frames = (s.sitter n).frames.filter (fun g => g.au ≠ f.au)
      ∧ (∀ k, k ≠ r → t.ring k = s.ring k) ∧ t.mem = s.mem ∧ t.parts = s.parts
      ∧ (R.sizeLog2 = 0 → t.ring r = R)
      ∧ (R.sizeLog2 ≠ 0 → s.busOn = true → pad + len ≤ R.free → (t.ring r).prod = R.prod + BitVec.ofNat 64 (pad + len)
          ∧ (t.ring r).seq = R.seq + BitVec.ofNat 64 all.length ∧ (t.ring r).lostGroups = 0)
      ∧ (R.sizeLog2 ≠ 0 → (s.busOn = false ∨ R.free < pad + len) → (t.ring r).prod = R.prod ∧ (t.ring r).seq = R.seq
          ∧ (t.ring r).lostGroups = R.lostGroups + 1 ∧ t.pcie = s.pcie)) := by
  intro r R all len pad
  have hg := frameGroup_ne_nil s n (s.sitter n) f
  have hrings := OnlyRings.writeGroup s r (s.frameGroup n (s.sitter n) f)
  refine ⟨_, resultGroupWrite_next hn hr he hphase, ?_, fun k hk => ring_writeGroup_ne s _ hk, hrings.mem, hrings.parts, fun hsize => ?_,
    fun hsize => writeGroup_results hsize hg rfl rfl, fun hsize hroom => ?_⟩
  · rw [State.sitter_setSitter_self, Sitter.reported_frames]
  · rw [writeGroup_of_undefined hsize]
    rfl
  · rw [writeGroup_of_no_room hsize hg rfl rfl hroom]
    have hring := State.ring_setRing_self s r (R.lose (s.frameGroup n (s.sitter n) f).length (captureSpan (s.frameGroup n (s.sitter n) f)).1
      (captureSpan (s.frameGroup n (s.sitter n) f)).2)
    have hprod := congrArg Ring.prod hring
    have hseq := congrArg Ring.seq hring
    have hlost := congrArg Ring.lostGroups hring
    exact ⟨hprod, hseq, hlost, rfl⟩

end

/-! ### The interrupt timer (R354) -/

/-- A raised vector is pending (R412). -/
theorem raise_pba (s : State) (v : Byte) : (s.raise v.toNat).pcie.pba.getLsbD v.toNat = true := by
  have hv : v.toNat < 256 := v.isLt
  simp only [State.raise, Nat.mod_eq_of_lt hv, BitVec.getLsbD_or, BitVec.getLsbD_ofNat, hv, decide_true, Nat.testBit_two_pow_self, Bool.and_self,
    Bool.or_true]

section
variable {s : State} {r : Nat}

theorem ringIntrTimer_next (hlt : r < 64) (hr : s.ready = true) (hany : (s.ring r).unsigAny = true) (hus : (s.ring r).intrUs ≠ 0) :
    exec (.ringIntrTimer r) s = .next (s.ringSignal r) := by
  show execRingIntrTimer r s = _
  simp only [execRingIntrTimer, Nat.not_le.mpr hlt, clocks_run_of_ready hr, hany, hus, ne_eq, not_false_eq_true, decide_true, Bool.not_false,
    Bool.and_self, if_false, if_true]

theorem ringIntrTimer_idle (hlt : r < 64) (hany : (s.ring r).unsigAny = false) : exec (.ringIntrTimer r) s = .next s := by
  show execRingIntrTimer r s = _
  simp only [execRingIntrTimer, Nat.not_le.mpr hlt, hany, Bool.and_false, Bool.false_and, Bool.false_eq_true, if_false]

end

/-- Settles O52: an entry counts as taken and its block is judged, whatever rows the reads opened; a group advances its ring as a whole or joins its losses, and the
timer's signal leaves nothing unsignalled. -/
theorem resultPathResults : Obligations.ResultPathResults := by
  intro s hr
  refine ⟨fun p k a n hp hk he hserves hn hf hn32 => ?_, fun n f hn he => ⟨resultGroupWrite_unknown hn he, resultGroupWrite_results hn hr he⟩,
    fun r hlt => ⟨fun hany hus => ?_, ringIntrTimer_idle hlt⟩⟩
  · intro c e u x len b who au bad mine
    exact ⟨fun hc => resultBlockTake_idle hp hk he hc, resultBlockTake_results hp hr hk he hserves hn hf hn32⟩
  · exact ⟨_, ringIntrTimer_next hlt hr hany hus, State.ring_ringSignal_self s r, raise_pba _ _, rfl, rfl⟩

end Sys2Proof.Machine
end
